-- ==== Sys2Proof/Word.lean ====
section
/-! DEFINITION. The engine's byte, its 32-bit check register and the identifiers of spec 00, section 5.4. -/

namespace Sys2Proof

/-- One byte of a frame, of a raster row or of plate memory. -/
abbrev Byte := BitVec 8

/-- The 32-bit register of the check function (R2). -/
abbrev CheckWord := BitVec 32

/-- A plate line, 0..3. -/
abbrev LineId := Fin 4

/-- A plate slot, 0..511. -/
abbrev Slot := Fin 512

/-- A page entry index, page number × 4 + separation (R16). -/
abbrev PageIx := Fin 1024

/-- A raster descriptor index, 0..1535. -/
abbrev DescId := Fin 1536

/-- A finishing profile index, 0..31. -/
abbrev ProfileId := Fin 32

/-- A bin of a line, 0..9; bin 0 is the reject bin. -/
abbrev BinId := Fin 10

/-- The four lines in ascending order. -/
abbrev allLines : List LineId := [0, 1, 2, 3]

end Sys2Proof
end

