-- ==== Sys2Proof/Config.lean ====
section
/-! DEFINITION. The engine's capacities (spec 00, section 6) and the free values the spec leaves open. -/

namespace Sys2Proof.Config

/-- The greatest body length the parser accepts (R1). -/
abbrev maxBody : Nat := 196626

/-- Band slots of Band Intake (R6). -/
abbrev intakeSlots : Nat := 4

/-- Control frames the control queue holds (R7). -/
abbrev controlSlots : Nat := 16

/-- Records the Report Queue holds (R12). -/
abbrev reportSlots : Nat := 256

/-- Strips of plate memory (R43). -/
abbrev strips : Nat := 16384

/-- Bytes of one strip (R42). -/
abbrev stripBytes : Nat := 262144

/-- Entries of a line's exposure queue (R103). -/
abbrev queueSlots : Nat := 8

/-- Scan lines of a feed buffer (R130). -/
abbrev feedLines : Nat := 16

/-- Entries of a transit list (R103, R148). -/
abbrev transitSlots : Nat := 6

/-- Free value (log 7): the byte that an address of plate memory not written since power-on holds.
R42: "After power-on the contents are arbitrary." First argument: the power cycle; second: the address. -/
opaque arbitraryByte : Nat → Nat → Byte

/-- Free value (log 8): whether a band write in service at an ENGINE_RESET has written one of its bytes.
R55: it "may or may not have changed its strip". First argument: the count of resets; second: the byte's
offset in the row. -/
opaque resetWriteLands : Nat → Nat → Bool

end Sys2Proof.Config
end

