-- ==== Sys2Proof/Syntax.lean ====
section
/-! DEFINITION. The commands of the engine: one constructor per row of spec/opcode_table.json. -/

namespace Sys2Proof

/-- The two causes of a BEGIN_REFUSE that returns the record to its queue (R134). -/
inductive RefuseCause where
  | noStock
  | size
deriving DecidableEq, Repr

/-- The two causes of an EXPOSE_END that ends an exposure with a plate (R140). -/
inductive EndCause where
  | normal
  | aborted
deriving DecidableEq, Repr

/-- A command: one event that reaches the engine, whole and indivisible (spec 95).

The twenty rows from `badFrame` to `binClose` are takings of a control frame by the Control Frame Processor
(R7): their operands are the argument bytes of the frame at the head of the control queue, which a
`frameArrival` put there (log 1). Rows of a line's stations carry the line whose station link brings the
message. -/
inductive Instr where
  /-- POWER_ON (R14). -/
  | powerOn
  /-- LINK_DOWN (R11). -/
  | linkDown
  /-- LINK_UP (R11). -/
  | linkUp
  /-- FRAME_ARRIVAL (R1, R3): the bytes received, up to and with the last check byte of a frame. -/
  | frameArrival (bytes : List Byte)
  /-- TRANSMISSION_END (R10). -/
  | transmissionEnd
  /-- BAD_FRAME (R8). -/
  | badFrame
  /-- ENGINE_RESET (R14). -/
  | engineReset
  /-- ENGINE_INFO (R15). -/
  | engineInfo
  /-- RELEASE_PAGE (R39). -/
  | releasePage
  /-- DISCARD_PAGE (R40). -/
  | discardPage
  /-- QUERY_PAGE (R41). -/
  | queryPage
  /-- LOAD_PLATE (R60 to R63). -/
  | loadPlate
  /-- DROP_PLATE (R68). -/
  | dropPlate
  /-- REMAKE_PLATE (R69). -/
  | remakePlate
  /-- QUERY_PLATE (R78). -/
  | queryPlate
  /-- LINE_CONFIG (R113). -/
  | lineConfig
  /-- LINE_START (R106). -/
  | lineStart
  /-- LINE_PAUSE (R107). -/
  | linePause
  /-- LINE_DRAIN (R107). -/
  | lineDrain
  /-- LINE_RESET (R112). -/
  | lineReset
  /-- LINE_CLEAR_FAULT (R111). -/
  | lineClearFault
  /-- QUERY_LINE (R114). -/
  | queryLine
  /-- LOAD_PROFILE (R145). -/
  | loadProfile
  /-- BIN_OPEN (R167). -/
  | binOpen
  /-- BIN_CLOSE (R167). -/
  | binClose
  /-- BAND_WRITE_COMPLETION (R29): the band write in service completes. -/
  | bandWriteCompletion
  /-- BEGIN_ACCEPT (R133). -/
  | beginAccept (line : LineId)
  /-- BEGIN_REFUSE with cause NO_STOCK or SIZE (R134). -/
  | beginRefuse (line : LineId) (cause : RefuseCause)
  /-- BEGIN_REFUSE with cause LOCAL (R135). -/
  | beginRefuseLocal (line : LineId)
  /-- The begin timer expires (R132). -/
  | beginTimeout (line : LineId)
  /-- SCAN_READ_COMPLETION (R127): the scan-source read in service completes. -/
  | scanReadCompletion
  /-- A line request (R137). -/
  | lineRequest (line : LineId)
  /-- EXPOSE_END with cause NORMAL or ABORTED (R140, R142). -/
  | exposeEnd (line : LineId) (cause : EndCause)
  /-- EXPOSE_END with cause FAULT (R141). -/
  | exposeEndFault (line : LineId)
  /-- A unit status report: ready, stock class (`none`: no plate stock is loaded), local (R143). -/
  | unitStatusReport (line : LineId) (ready : Bool) (stock : Option Nat) (unitLocal : Bool)
  /-- PB_ARRIVAL with the mark the reader found, or `none` when it is unreadable (R150). -/
  | pbArrival (line : LineId) (mark : Option Nat)
  /-- PB_SETUP_DONE (R152). -/
  | pbSetupDone (line : LineId)
  /-- PB_DONE (R153). -/
  | pbDone (line : LineId)
  /-- PB_FAULT (R154). -/
  | pbFault (line : LineId)
  /-- The deadline of the transit entry of a slot expires (R149). -/
  | deadlineExpiry (line : LineId) (slot : Slot)
  /-- SO_ARRIVAL (R162). -/
  | soArrival (line : LineId)
  /-- SO_STACKED naming a bin, which may lie outside 0..9 (R164, R165). -/
  | soStacked (line : LineId) (bin : Nat)
  /-- SO_BIN_EMPTIED naming a bin, which may lie outside 0..9 (R166). -/
  | soBinEmptied (line : LineId) (bin : Nat)
  /-- SO_FAULT (R168). -/
  | soFault (line : LineId)
  /-- DAMAGED_FRAME (R1): the bytes received, up to and with a header whose body length is above 196,626. -/
  | damagedFrame (bytes : List Byte)
deriving DecidableEq, Repr

end Sys2Proof
end

