-- ==== Sys2Proof/Machine/State.lean ====
section
/-! DEFINITION. The engine's state, block by block, and its value after reset. -/

namespace Sys2Proof.Machine

/-! ### Causes and reports (spec 01, section 1.7) -/

/-- A line state (R104). -/
inductive LineMode where
  | stopped
  | running
  | pausing
  | paused
  | held
  | draining
  | faulted
deriving DecidableEq, Repr

/-- The cause table of spec 01, section 1.7. LINE_STATE reports carry the new line state as their cause. -/
inductive Cause where
  | malformed
  | orphan
  | duplicate
  | alreadyComplete
  | stale
  | overrun
  | gap
  | checkMismatch
  | sizeMismatch
  | rowExcess
  | clipEmpty
  | clipReduced
  | offPlate
  | obsolete
  | underrun
  | aborted
  | lineReset
  | lineFault
  | unitFault
  | unitSilent
  | unitLocal
  | phantom
  | mismatch
  | missing
  | punchFault
  | setupTimeout
  | misroute
  | sorterFault
  | lineState (mode : LineMode)
deriving DecidableEq, Repr

/-- The report kinds of spec 01, section 1.7. -/
inductive ReportKind where
  | engineStarted
  | pageComplete
  | pageBroken
  | bandDropped
  | pageSuperseded
  | pageReleased
  | memoryStall
  | plateQueued
  | plateUnqueued
  | exposureStarted
  | exposureEnded
  | tileClamped
  | markOmitted
  | markUnread
  | plateDelivered
  | plateRejected
  | plateObsolete
  | lineState
  | lineFault
  | binFull
  | binEmptied
deriving DecidableEq, Repr

/-- A report record: its kind, its gap mark and the fields it carries (spec 01, section 1.5). The page key is
the pair of the page number byte and the separation byte. -/
structure Report where
  kind : ReportKind
  gap : Bool := false
  line : Option LineId := none
  slot : Option Slot := none
  key : Option (Byte × Byte) := none
  version : Option Nat := none
  oldVersion : Option Nat := none
  pass : Option Nat := none
  bin : Option BinId := none
  cause : Option Cause := none
deriving DecidableEq, Repr

/-- The Report Queue: records, gap flag and report sequence number (R12, R13). -/
structure ReportQueue where
  records : List Report := [{ kind := .engineStarted }]
  gapFlag : Bool := false
  seq : Nat := 0
deriving DecidableEq, Repr

/-! ### Link Port (spec 01) -/

/-- The receive parser (R1). `hunt true` has just received the first delimiter byte, 0x7B. `header`, `body`
and `check` carry the bytes collected so far: header bytes, then body bytes, then check bytes. -/
inductive Parser where
  | hunt (half : Bool)
  | header (got : List Byte)
  | body (header got : List Byte)
  | check (header body got : List Byte)
deriving DecidableEq, Repr

/-- A whole received frame: its seven header bytes (kind, tag, body length), body and check bytes (R1). -/
structure RawFrame where
  header : List Byte
  body : List Byte
  check : List Byte
deriving DecidableEq, Repr

/-- An entry of the control queue (R7). -/
structure ControlFrame where
  tag : BitVec 16
  body : List Byte
deriving DecidableEq, Repr

/-- The statuses of a REPLY (R9). -/
inductive Status where
  | ok
  | badFrame
  | badField
  | wrongState
  | isProtected
  | notLoaded
  | referenced
  | inDemand
  | busy
  | profileAbsent
deriving DecidableEq, Repr

/-- A REPLY waiting in the REPLY slot (R9). -/
structure Reply where
  tag : BitVec 16
  code : Byte
  status : Status
  field : Nat
  data : List Byte
deriving DecidableEq, Repr

/-- The PACE state (R5). -/
inductive Pace where
  | none
  | hold
  | go
deriving DecidableEq, Repr

/-- The frame in transmission. A PACE frame carries its condition and the PACE state before it began (R11);
a REPLY or REPORT frame stays at its source, from which its bytes are read (R10). -/
inductive Transmission where
  | pace (carried before : Pace)
  | reply
  | report
deriving DecidableEq, Repr

/-- The Link Port. -/
structure LinkPort where
  up : Bool := true
  parser : Parser := .hunt false
  controlQueue : List ControlFrame := []
  reply : Option Reply := none
  tx : Option Transmission := none
  awaitingStart : Bool := true
  pace : Pace := .none
deriving DecidableEq, Repr

/-! ### Band Intake (spec 02) -/

/-- A band in an intake slot: the fields of the BAND body (spec 01, section 1.7). -/
structure Band where
  page : Fin 256
  sep : Fin 4
  version : Nat
  index : Nat
  last : Bool
  rows : Nat
  firstRow : Nat
  width : Nat
  height : Nat
  check : CheckWord
  payload : List Byte
deriving DecidableEq, Repr

/-- The phase of the head band (R18). -/
inductive Phase where
  | waitingDescriptor
  | writing
  | waitingStrip
  | abandoned
deriving DecidableEq, Repr

/-- Band Intake (R18). Whether a row write is in flight is read from the arbiter, which holds it. R18 gives the next row
no value while no band is being written; that `nextRow` is 0 then is the model's choice (log 34). -/
structure BandIntake where
  buffer : List Band := []
  phase : Option Phase := none
  nextRow : Nat := 0
  stall : Bool := false
deriving DecidableEq, Repr

/-! ### Page Directory (spec 02) -/

/-- The state of a page entry (R16). -/
inductive PageState where
  | empty
  | receiving
  | complete
  | broken
  | released
deriving DecidableEq, Repr

/-- A page entry (R16); the defaults are the values of R17. -/
structure PageEntry where
  state : PageState := .empty
  version : Nat := 0
  raster : Option DescId := none
  nextBand : Nat := 0
  rows : Nat := 0
  width : Nat := 0
  height : Nat := 0
  check : CheckWord := 0xFFFFFFFF#32
  demand : Nat := 0
  cause : Option Cause := none
deriving DecidableEq, Repr

/-! ### Raster Store (spec 03) -/

/-- The state of a raster descriptor (R45). -/
inductive DescState where
  | free
  | filling
  | filled
  | retired
deriving DecidableEq, Repr

/-- A raster descriptor (R45); the defaults are those of a FREE descriptor. R45 calls the page key of a FREE descriptor
meaningless and gives it no value after reset; that `key` is absent there is the model's choice (log 35). -/
structure Descriptor where
  state : DescState := .free
  key : Option PageIx := none
  version : Nat := 0
  width : Nat := 0
  height : Nat := 0
  perStrip : Nat := 0
  strips : List Nat := []
  dirHold : Bool := false
  expHolds : Nat := 0
deriving DecidableEq, Repr

/-- A band write request: the descriptor, the strip, the row within the strip, the place of its first byte
in plate memory and the row's bytes with pad bits 0 (R52). -/
structure BandWrite where
  desc : DescId
  strip : Nat
  row : Nat
  addr : Nat
  bytes : List Byte
deriving DecidableEq, Repr

/-- A scan-source read request (R52), with the place it addresses and its discard mark (R54). -/
structure ScanRead where
  line : LineId
  desc : DescId
  row : Nat
  first : Nat
  count : Nat
  addr : Nat
  discard : Bool := false
deriving DecidableEq, Repr

/-- A request in service (R52). -/
inductive Request where
  | write (w : BandWrite)
  | read (r : ScanRead)
deriving DecidableEq, Repr

/-- Plate memory (R42): cells with strictly rising addresses, address = strip × 262,144 + offset. An address
not listed has not been written since power-on. -/
abbrev Memory := List Host.Cell

/-- The Raster Store: free list, Raster Table, plate memory and memory access arbiter. `handing` is set while
a completion is being handed to its maker, when the arbiter grants nothing yet (R52, log 12). -/
structure RasterStore where
  free : List Nat := List.range' 0 Config.strips
  table : Vector Descriptor 1536 := Vector.replicate 1536 {}
  mem : Memory := []
  inService : Option Request := none
  waitingWrite : Option BandWrite := none
  waitingReads : Vector (Option ScanRead) 4 := Vector.replicate 4 none
  handing : Bool := false
deriving DecidableEq, Repr

/-! ### Plate Plan (spec 04) -/

/-- The state of a plate record (R59). -/
inductive PlateState where
  | free
  | planned
  | ready
  | queued
  | exposing
  | exposed
  | delivered
  | obsolete
  | spoiled
deriving DecidableEq, Repr

/-- A tile's turn (R57). -/
inductive Turn where
  | upright
  | inverted
deriving DecidableEq, Repr

/-- A clip window (R57). -/
structure Clip where
  cx : Nat
  cy : Nat
  cw : Nat
  ch : Nat
deriving DecidableEq, Repr

/-- A tile record (R57). -/
structure Tile where
  page : Fin 256
  originX : Nat
  originY : Nat
  turn : Turn
  scale : Int
  clip : Option Clip
deriving DecidableEq, Repr

/-- A record's class in the ready list and the line queues (R56). -/
inductive Priority where
  | normal
  | urgent
deriving DecidableEq, Repr

/-- What an exposure in flight does when a page on it is superseded (R56). -/
inductive SupersedeAction where
  | finish
  | abort
deriving DecidableEq, Repr

/-- Whether an OBSOLETE or SPOILED record is remade at once (R56, R70). -/
inductive RemakeMode where
  | auto
  | manual
deriving DecidableEq, Repr

/-- The loaded fields of a plate record (R56); the defaults are the values of R58. -/
structure PlateLoad where
  edition : Nat := 1
  color : Fin 4 := 0
  sizeClass : Nat := 0
  width : Nat := 288
  height : Nat := 64
  tiles : List Tile := []
  profile : ProfileId := 0
  dest : BinId := 1
  mask : Nat := 1
  priority : Priority := .normal
  holdAfter : Bool := false
  action : SupersedeAction := .finish
  remake : RemakeMode := .auto
deriving DecidableEq, Repr

/-- A doom (R75). -/
inductive Doom where
  | obsolete
  | underrun
  | aborted
deriving DecidableEq, Repr

/-- A plate record (R56); the defaults are the values of R58. -/
structure PlateRecord where
  state : PlateState := .free
  load : PlateLoad := {}
  pass : Nat := 0
  bound : Option (List Nat) := none
  line : Option LineId := none
  place : Option (LineId × BinId) := none
  doom : Option Doom := none
  withdraw : Bool := false
  lastCause : Option Cause := none
deriving DecidableEq, Repr

/-! ### Finishing Profiles (spec 09) -/

/-- A profile entry (R144). -/
structure Profile where
  present : Bool := false
  dx : Int := 0
  dy : Int := 0
  mx : Nat := 0
  my : Nat := 0
  markCheck : Bool := false
  tools : List Nat := []
  lead : Nat := 0
  trail : Nat := 0
deriving DecidableEq, Repr

/-! ### A plate line (specs 06 to 10) -/

/-- A line's configuration but for its bin capacities (R113); `expected := none` is ANY. -/
structure LineConfig where
  expected : Option Nat := none
  tPb : Nat := 40
  tSo : Nat := 60
  tSetup : Nat := 30
deriving DecidableEq, Repr

/-- A bin (R160). -/
structure Bin where
  count : Nat := 0
  capacity : Nat := 40
  closed : Bool := false
deriving DecidableEq, Repr

/-- The exposure context (R129), with the rasters the exposure holds in the order taken (R49). -/
structure Exposure where
  slot : Slot
  pass : Nat
  mark : Nat
  answered : Bool := false
  timer : Bool := true
  goSent : Bool := false
  abortSent : Bool := false
  linesSent : Nat := 0
  holds : List DescId := []
deriving DecidableEq, Repr

/-- The geometry of an active tile (R116 to R121): clamped window, placed origin, scaled width, visible tile
columns `u0..u1` and visible tile rows `v0..v1`. -/
structure TileGeometry where
  turn : Turn
  cx : Nat
  cy : Nat
  cw : Nat
  ch : Nat
  x : Int
  y : Int
  ws : Nat
  u0 : Int
  u1 : Int
  v0 : Int
  v1 : Int
deriving DecidableEq, Repr

/-- A tile setup (R115): EMPTY (R116), or active with its geometry; each names the descriptor of its page's current
raster. -/
inductive TileSetup where
  | empty (desc : Option DescId)
  | active (desc : DescId) (geometry : TileGeometry)
deriving DecidableEq, Repr

/-- The mark setup (R115, R124, R125). -/
structure MarkSetup where
  present : Bool
  value : Nat
  mx : Nat
  my : Nat
deriving DecidableEq, Repr

/-- A Composer (R115). `gathered` holds the bytes of the completed reads of the scan line being composed, in
tile order (R127, log 20). Whether a read of the line is in the arbiter is read from the arbiter. -/
structure Composer where
  tiles : List TileSetup := []
  mark : Option MarkSetup := none
  row : Nat := 0
  gathered : List (List Byte) := []
deriving DecidableEq, Repr

/-- A transit entry's route (R148). -/
inductive Route where
  | deliver
  | reject (cause : Cause)
deriving DecidableEq, Repr

/-- The punch step of an entry in AT_PUNCH (R148). `setup true`: its PB_SETUP has been sent and is unanswered;
`setup false`: its setup waits its turn (R151). -/
inductive PunchStep where
  | setup (sent : Bool)
  | work
deriving DecidableEq, Repr

/-- The stage of a transit entry (R148); AT_SORTER carries the routed bin, fixed at SO_ROUTE (R162). -/
inductive Stage where
  | toPunch
  | atPunch (step : PunchStep)
  | toSorter
  | atSorter (bin : BinId)
  | waitingBin
deriving DecidableEq, Repr

/-- A transit entry (R148). `deadline` holds the seconds a running deadline was set with; `since` is the stamp
of its entry into its stage (R148, log 19). -/
structure TransitEntry where
  slot : Slot
  mark : Nat
  route : Route
  profile : ProfileId
  stage : Stage := .toPunch
  deadline : Option Nat := none
  since : Nat := 0
deriving DecidableEq, Repr

/-- The ten bins after reset (R160). -/
abbrev resetBins : Vector Bin 10 := #v[{ capacity := 60 }, {}, {}, {}, {}, {}, {}, {}, {}, {}]

/-- A line: its Line Controller (R104), exposure context (R129), Composer (R115), feed buffer (R130), Transit
Tracker (R147, R148) and Sorter Interface (R160). The defaults are the values after reset (R104, R113). -/
structure Line where
  mode : LineMode := .stopped
  faultCause : Option Cause := none
  fitted : Bool := true
  config : LineConfig := {}
  unitReady : Bool := false
  stock : Option Nat := none
  unitLocal : Bool := false
  queue : List Slot := []
  exposure : Option Exposure := none
  resetAbort : Bool := false
  composer : Composer := {}
  feed : List (List Byte) := []
  transit : List TransitEntry := []
  stageClock : Nat := 0
  stationProfile : Option ProfileId := none
  bins : Vector Bin 10 := resetBins
deriving DecidableEq, Repr

/-! ### What leaves the engine -/

/-- A message from the engine to a station (specs 08 to 10). -/
inductive StationMessage where
  /-- EXPOSE_BEGIN (R131). -/
  | exposeBegin (slot : Slot) (width height sizeClass mark : Nat)
  /-- EXPOSE_GO (R136). -/
  | exposeGo
  /-- EXPOSE_ABORT (R139, R132, R112). -/
  | exposeAbort
  /-- A composed scan line (R137). -/
  | scanLine (bytes : List Byte)
  /-- PB_PASS (R151). -/
  | pbPass
  /-- PB_GO (R151). -/
  | pbGo
  /-- PB_SETUP: tool numbers in order, lead and trail bend angles (R151). -/
  | pbSetup (tools : List Nat) (lead trail : Nat)
  /-- SO_ROUTE (R162). -/
  | soRoute (bin : BinId)
  /-- SO_WAIT (R162). -/
  | soWait
deriving DecidableEq, Repr

/-- One thing sent by the engine: a station message, or a whole outbound frame. -/
inductive Output where
  | station (line : LineId) (message : StationMessage)
  | frame (bytes : List Byte)
deriving DecidableEq, Repr

/-- The engine's state. `told`, `store.handing`, `out`, `powerCycle`, `resetDraws` and `pending` are the model's
own (logs 2, 4, 7, 8, 9, 12); all else is the spec's. -/
structure State where
  link : LinkPort := {}
  reports : ReportQueue := {}
  intake : BandIntake := {}
  pages : Vector PageEntry 1024 := Vector.replicate 1024 {}
  store : RasterStore := {}
  plates : Vector PlateRecord 512 := Vector.replicate 512 {}
  ready : List Slot := []
  lines : Vector Line 4 := Vector.replicate 4 {}
  profiles : Vector Profile 32 := Vector.replicate 32 {}
  told : Bool := false
  out : List Output := []
  powerCycle : Nat := 0
  resetDraws : Nat := 0
  pending : List Instr := []
deriving DecidableEq, Repr

/-- The reasons a step can stop with a fault: none. The engine turns every fault of a station into a line state
(R110), every unfit control frame into a REPLY (R9) and every unfit inbound frame into nothing (R3). -/
inductive Fault where
deriving DecidableEq, Repr

/-- The reasons a step can be refused. -/
inductive Refusal where
  /-- Raised by an arm of `exec` whose command has no meaning yet; safe, since nothing follows from it. No arm
  raises it. -/
  | notModelled (mnemonic : String)
deriving DecidableEq, Repr

/-- The engine right after power-on (R14, R17, R18, R43, R45, R55, R58, R97, R104, R144, R147, R148, R160). The
link signal (log 5) and the fitted ports (log 6) are DESIGN CHOICES, unsafe. -/
def State.reset : State := {}

end Sys2Proof.Machine
end

