-- ==== Sys2Proof/Machine/Wire.lean ====
section
/-! DEFINITION. Bytes and frames of the Page Feed Link (spec 01): little-endian fields, the check function, the
receive parser, the band form check, and the bytes of outbound frames. -/

namespace Sys2Proof.Machine

/-! ### Little-endian fields (spec 00, section 5.3) -/

/-- A one-byte field. -/
def u8 (n : Nat) : List Byte := [BitVec.ofNat 8 n]

/-- A two-byte field, least significant byte first. -/
def u16 (n : Nat) : List Byte := [BitVec.ofNat 8 n, BitVec.ofNat 8 (n / 256)]

/-- A four-byte field, least significant byte first. -/
def u32 (n : Nat) : List Byte := u16 n ++ u16 (n / 65536)

/-- A flag byte: 0 for clear, 1 for set. -/
def flag (b : Bool) : List Byte := [if b then 1 else 0]

/-- The byte at an offset; 0 past the end. -/
def byteAt (bs : List Byte) (i : Nat) : Nat := (bs.getD i 0).toNat

/-- The two-byte field at an offset. -/
def u16At (bs : List Byte) (i : Nat) : Nat := byteAt bs i + 256 * byteAt bs (i + 1)

/-- The four-byte field at an offset. -/
def u32At (bs : List Byte) (i : Nat) : Nat := u16At bs i + 65536 * u16At bs (i + 2)

/-- The signed two-byte field at an offset, two's complement. -/
def s16At (bs : List Byte) (i : Nat) : Int :=
  if u16At bs i < 32768 then (u16At bs i : Int) else (u16At bs i : Int) - 65536

/-- A signed two-byte field, two's complement. -/
def s16 (n : Int) : List Byte := u16 (n % 65536).toNat

/-- `ceil (w / 8)`: the bytes of a row of `w` pixels (spec 00, section 5.1). -/
def rowBytes (w : Nat) : Nat := (w + 7) / 8

/-! ### The check function (R2) -/

/-- The generator polynomial without its x^32 term (R2). -/
abbrev generator : CheckWord := 0x04C11DB7#32

/-- The preset of the check register (R2). -/
abbrev checkPreset : CheckWord := 0xFFFFFFFF#32

/-- One bit through the check register. -/
def checkBit (reg : CheckWord) (b : Bool) : CheckWord :=
  if reg.msb = b then reg <<< 1 else (reg <<< 1) ^^^ generator

/-- One byte through the check register, its bits least significant first (R2). -/
def checkByte (reg : CheckWord) (b : Byte) : CheckWord :=
  (List.range 8).foldl (fun r i => checkBit r (b.getLsbD i)) reg

/-- Bytes through the check register, in order (R2, R34). -/
def checkRun (reg : CheckWord) (bs : List Byte) : CheckWord := bs.foldl checkByte reg

/-- The check value that a register ends in: reflected and complemented (R2). -/
def checkValue (reg : CheckWord) : CheckWord := ~~~ reg.reverse

/-- The check function (R2). -/
def checkOf (bs : List Byte) : CheckWord := checkValue (checkRun checkPreset bs)

/-! ### Frames (R1, R3) -/

/-- The body length field of seven header bytes. -/
def bodyLength (header : List Byte) : Nat := u32At header 3

/-- One received byte through the parser (R1); a frame is delivered with its last check byte. -/
def Parser.feed : Parser → Byte → Parser × Option RawFrame
  | .hunt half, b =>
    if half = true ∧ b = 0xD4 then (.header [], none) else (.hunt (b = 0x7B), none)
  | .header got, b =>
    if got.length + 1 < 7 then (.header (got ++ [b]), none)
    else if Config.maxBody < bodyLength (got ++ [b]) then (.hunt false, none)
    else if bodyLength (got ++ [b]) = 0 then (.check (got ++ [b]) [] [], none)
    else (.body (got ++ [b]) [], none)
  | .body hdr got, b =>
    if got.length + 1 < bodyLength hdr then (.body hdr (got ++ [b]), none)
    else (.check hdr (got ++ [b]) [], none)
  | .check hdr bod got, b =>
    if got.length + 1 < 4 then (.check hdr bod (got ++ [b]), none)
    else (.hunt false, some { header := hdr, body := bod, check := got ++ [b] })

/-- Received bytes through the parser: where it ends and the frames delivered, oldest first. -/
def Parser.run : Parser → List Byte → Parser × List RawFrame
  | p, [] => (p, [])
  | p, b :: bs =>
    let r := p.feed b
    let q := r.1.run bs
    (q.1, r.2.toList ++ q.2)

/-- The kind of a received frame. -/
def RawFrame.kind (f : RawFrame) : Nat := byteAt f.header 0

/-- The tag of a received frame. -/
def RawFrame.tag (f : RawFrame) : BitVec 16 := BitVec.ofNat 16 (u16At f.header 1)

/-- A received frame passes its check (R2). -/
def RawFrame.passes (f : RawFrame) : Bool :=
  BitVec.ofNat 32 (u32At f.check 0) == checkOf (f.header ++ f.body)

/-- The bytes the frame check covers: kind, tag, body length, body. -/
def coveredBytes (kind : Nat) (tag : BitVec 16) (body : List Byte) : List Byte :=
  u8 kind ++ u16 tag.toNat ++ u32 body.length ++ body

/-- A whole frame as it stands on the link (spec 01, section 1.7, Frame). -/
def frameBytes (kind : Nat) (tag : BitVec 16) (body : List Byte) : List Byte :=
  [0x7B, 0xD4] ++ coveredBytes kind tag body ++ u32 (checkOf (coveredBytes kind tag body)).toNat

/-- Frame kind codes (spec 01, section 1.7). -/
abbrev kindBand : Nat := 0x01
/-- CONTROL. -/
abbrev kindControl : Nat := 0x02
/-- REPLY. -/
abbrev kindReply : Nat := 0x81
/-- REPORT. -/
abbrev kindReport : Nat := 0x82
/-- PACE. -/
abbrev kindPace : Nat := 0x83

/-! ### BAND bodies (R4) -/

/-- The length of a BAND header: 18 bytes with the last mark, 14 without. -/
def bandHeaderLength (body : List Byte) : Nat := if byteAt body 6 = 1 then 18 else 14

/-- A BAND body is malformed (R4). -/
def bandMalformed (body : List Byte) : Bool :=
  decide (body.length < 14)
  || decide (1 < byteAt body 6)
  || decide (byteAt body 6 = 1 ∧ body.length < 18)
  || decide (3 < byteAt body 1)
  || decide (u16At body 10 = 0 ∨ 24576 < u16At body 10)
  || decide (u16At body 12 = 0 ∨ 32768 < u16At body 12)
  || decide (64 < byteAt body 7)
  || decide (byteAt body 7 = 0 ∧ byteAt body 6 = 0)
  || decide (body.length ≠ bandHeaderLength body + byteAt body 7 * rowBytes (u16At body 10))

/-- The band of a well-formed BAND body (spec 01, section 1.7). -/
def bandOf (body : List Byte) : Band :=
  { page := Fin.ofNat 256 (byteAt body 0)
    sep := Fin.ofNat 4 (byteAt body 1)
    version := u16At body 2
    index := u16At body 4
    last := decide (byteAt body 6 = 1)
    rows := byteAt body 7
    firstRow := u16At body 8
    width := u16At body 10
    height := u16At body 12
    check := if byteAt body 6 = 1 then BitVec.ofNat 32 (u32At body 14) else 0
    payload := body.drop (bandHeaderLength body) }

/-- The page entry index of a page key (R16). -/
def pageIndex (page : Fin 256) (sep : Fin 4) : PageIx := ⟨page.val * 4 + sep.val, by omega⟩

/-- A band's page entry. -/
def Band.key (b : Band) : PageIx := pageIndex b.page b.sep

/-- The page key carried by reports for a page entry. -/
def keyBytes (k : PageIx) : Byte × Byte := (BitVec.ofNat 8 (k.val / 4), BitVec.ofNat 8 (k.val % 4))

/-! ### Codes (spec 01, section 1.7) -/

/-- Line state codes, 0x20..0x26. -/
def LineMode.code : LineMode → Nat
  | .stopped => 0x20
  | .running => 0x21
  | .pausing => 0x22
  | .paused => 0x23
  | .held => 0x24
  | .draining => 0x25
  | .faulted => 0x26

/-- Cause codes. -/
def Cause.code : Cause → Nat
  | .malformed => 0x01
  | .orphan => 0x02
  | .duplicate => 0x03
  | .alreadyComplete => 0x04
  | .stale => 0x05
  | .overrun => 0x06
  | .gap => 0x07
  | .checkMismatch => 0x08
  | .sizeMismatch => 0x09
  | .rowExcess => 0x0A
  | .clipEmpty => 0x0B
  | .clipReduced => 0x0C
  | .offPlate => 0x0D
  | .obsolete => 0x0E
  | .underrun => 0x0F
  | .aborted => 0x10
  | .lineReset => 0x11
  | .lineFault => 0x12
  | .unitFault => 0x13
  | .unitSilent => 0x14
  | .unitLocal => 0x15
  | .phantom => 0x16
  | .mismatch => 0x17
  | .missing => 0x18
  | .punchFault => 0x19
  | .setupTimeout => 0x1A
  | .misroute => 0x1B
  | .sorterFault => 0x1C
  | .lineState m => m.code

/-- Report kind codes. -/
def ReportKind.code : ReportKind → Nat
  | .engineStarted => 0x01
  | .pageComplete => 0x02
  | .pageBroken => 0x03
  | .bandDropped => 0x04
  | .pageSuperseded => 0x05
  | .pageReleased => 0x06
  | .memoryStall => 0x07
  | .plateQueued => 0x08
  | .plateUnqueued => 0x09
  | .exposureStarted => 0x0A
  | .exposureEnded => 0x0B
  | .tileClamped => 0x0C
  | .markOmitted => 0x0D
  | .markUnread => 0x0E
  | .plateDelivered => 0x0F
  | .plateRejected => 0x10
  | .plateObsolete => 0x11
  | .lineState => 0x12
  | .lineFault => 0x13
  | .binFull => 0x14
  | .binEmptied => 0x15

/-- REPLY status codes. -/
def Status.code : Status → Nat
  | .ok => 0x00
  | .badFrame => 0x01
  | .badField => 0x02
  | .wrongState => 0x03
  | .isProtected => 0x04
  | .notLoaded => 0x05
  | .referenced => 0x06
  | .inDemand => 0x07
  | .busy => 0x08
  | .profileAbsent => 0x09

/-- A doom as a cause (R75). -/
def Doom.cause : Doom → Cause
  | .obsolete => .obsolete
  | .underrun => .underrun
  | .aborted => .aborted

/-! ### Outbound bodies (spec 01, section 1.7) -/

/-- The presence byte of a report record. -/
def Report.presence (r : Report) : Nat :=
  r.line.isSome.toNat + 2 * r.slot.isSome.toNat + 4 * r.key.isSome.toNat + 8 * r.version.isSome.toNat
  + 16 * r.oldVersion.isSome.toNat + 32 * r.pass.isSome.toNat + 64 * r.bin.isSome.toNat
  + 128 * r.cause.isSome.toNat

/-- The 15 bytes of a report record; an absent field is sent as 0. -/
def Report.encode (r : Report) : List Byte :=
  u8 r.kind.code ++ flag r.gap ++ u8 r.presence ++ u8 ((r.line.map Fin.val).getD 0)
  ++ u16 ((r.slot.map Fin.val).getD 0) ++ [(r.key.map Prod.fst).getD 0] ++ [(r.key.map Prod.snd).getD 0]
  ++ u16 (r.version.getD 0) ++ u16 (r.oldVersion.getD 0) ++ u8 (r.pass.getD 0)
  ++ u8 ((r.bin.map Fin.val).getD 0) ++ u8 ((r.cause.map Cause.code).getD 0)

/-- The body of a REPLY frame. -/
def Reply.encode (r : Reply) : List Byte := [r.code] ++ u8 r.status.code ++ u8 r.field ++ r.data

/-- The body of a PACE frame: 0x00 for HOLD, 0x01 for GO. -/
def Pace.encode : Pace → List Byte
  | .go => [1]
  | _ => [0]

end Sys2Proof.Machine
end

