-- ==== Sys2Proof/Machine/Ops.lean ====
section
/-! DEFINITION. The named operations over the engine's tables, its reports and outputs, plate memory, the Raster
Store and the memory access arbiter. -/

namespace Sys2Proof.Machine

/-! ### Entries of the tables -/

/-- A page entry (R16). -/
def State.page (s : State) (k : PageIx) : PageEntry := s.pages[k.val]

/-- Writes a page entry. -/
def State.setPage (s : State) (k : PageIx) (e : PageEntry) : State := { s with pages := s.pages.set k.val e }

/-- A plate record (R56). -/
def State.plate (s : State) (p : Slot) : PlateRecord := s.plates[p.val]

/-- Writes a plate record. -/
def State.setPlate (s : State) (p : Slot) (r : PlateRecord) : State := { s with plates := s.plates.set p.val r }

/-- A line. -/
def State.line (s : State) (l : LineId) : Line := s.lines[l.val]

/-- Writes a line. -/
def State.setLine (s : State) (l : LineId) (ln : Line) : State := { s with lines := s.lines.set l.val ln }

/-- A finishing profile entry (R144). -/
def State.profile (s : State) (f : ProfileId) : Profile := s.profiles[f.val]

/-- Writes a finishing profile entry. -/
def State.setProfile (s : State) (f : ProfileId) (x : Profile) : State :=
  { s with profiles := s.profiles.set f.val x }

/-- A bin of a line (R160). -/
def Line.bin (ln : Line) (b : BinId) : Bin := ln.bins[b.val]

/-- Writes a bin of a line. -/
def Line.setBin (ln : Line) (b : BinId) (x : Bin) : Line := { ln with bins := ln.bins.set b.val x }

/-! ### Reports, outputs and the word to the Dispatcher -/

/-- A block offers a report record (R12). -/
def ReportQueue.offer (q : ReportQueue) (r : Report) : ReportQueue :=
  if q.records.length < Config.reportSlots then
    { q with records := q.records ++ [{ r with gap := q.gapFlag }], gapFlag := false }
  else { q with gapFlag := true }

/-- Makes a report (R12). -/
def State.report (s : State) (r : Report) : State := { s with reports := s.reports.offer r }

/-- Makes several reports, in order. -/
def State.reportAll (s : State) (rs : List Report) : State := rs.foldl State.report s

/-- Sends a message to a station of a line. -/
def State.send (s : State) (l : LineId) (m : StationMessage) : State :=
  { s with out := s.out ++ [.station l m] }

/-- Tells the Dispatcher that a walk is called for (R100). -/
def State.tell (s : State) : State := { s with told := true }

/-! ### Plate memory (R42) -/

/-- The canonical form of plate memory: addresses strictly rising. -/
abbrev Memory.wf (m : Memory) : Prop := (m.map Prod.fst).Pairwise (· < ·)

/-- The byte last written at an address, if any since power-on. -/
def Memory.read? : Memory → Nat → Option Byte
  | [], _ => none
  | (a, b) :: m, x => if x = a then some b else if x < a then none else Memory.read? m x

/-- Writes one byte. -/
def Memory.write : Memory → Nat → Byte → Memory
  | [], x, v => [(x, v)]
  | (a, b) :: m, x, v =>
    if x < a then (x, v) :: (a, b) :: m
    else if x = a then (x, v) :: m
    else (a, b) :: Memory.write m x v

/-- Writes bytes at rising addresses. -/
def Memory.writeBytes : Memory → Nat → List Byte → Memory
  | m, _, [] => m
  | m, x, v :: vs => Memory.writeBytes (m.write x v) (x + 1) vs

/-- What a read of one byte of plate memory hands back: the byte last written, and otherwise the free value of
log 7. -/
def State.readByte (s : State) (x : Nat) : Byte :=
  (s.store.mem.read? x).getD (Config.arbitraryByte s.powerCycle x)

/-- What a read of `n` bytes of plate memory hands back. -/
def State.readBytes (s : State) (x n : Nat) : List Byte := (List.range n).map fun i => s.readByte (x + i)

/-! ### Raster descriptors and strips (R42 to R50) -/

/-- A raster descriptor. -/
def RasterStore.desc (st : RasterStore) (d : DescId) : Descriptor := st.table[d.val]

/-- Writes a raster descriptor. -/
def RasterStore.setDesc (st : RasterStore) (d : DescId) (x : Descriptor) : RasterStore :=
  { st with table := st.table.set d.val x }

/-- R = floor(262144 / ceil(W/8)) (R30, R42). -/
def rowsPerStrip (width : Nat) : Nat := Config.stripBytes / rowBytes width

/-- The FREE descriptor of lowest index (R46). -/
def RasterStore.firstFree (st : RasterStore) : Option DescId :=
  (List.finRange 1536).find? fun d => decide ((st.desc d).state = .free)

/-- Takes a descriptor in FILLING with the directory hold (R46). -/
def RasterStore.takeDesc (st : RasterStore) (d : DescId) (k : PageIx) (version width height : Nat) : RasterStore :=
  st.setDesc d
    { state := .filling, key := some k, version := version, width := width, height := height,
      perStrip := rowsPerStrip width, strips := [], dirHold := true, expHolds := 0 }

/-- Frees a descriptor: its strips join the back of the free list in strip-list order (R50, steps 1 to 3). -/
def RasterStore.freeDesc (st : RasterStore) (d : DescId) : RasterStore :=
  { st with free := st.free ++ (st.desc d).strips, table := st.table.set d.val {} }

/-- Restarts a FILLING descriptor: its strips are given back, its size is taken anew (R24, R47). -/
def RasterStore.restartDesc (st : RasterStore) (d : DescId) (width height : Nat) : RasterStore :=
  { st with
    free := st.free ++ (st.desc d).strips
    table := st.table.set d.val
      { st.desc d with width := width, height := height, perStrip := rowsPerStrip width, strips := [] } }

/-- The page completes: the descriptor becomes FILLED (R36, R47). -/
def RasterStore.fillDesc (st : RasterStore) (d : DescId) : RasterStore :=
  st.setDesc d { st.desc d with state := .filled }

/-- Drops the directory hold: with no exposure hold the descriptor is freed at once; otherwise it stays, RETIRED
when its page has been superseded (R47, R48). -/
def RasterStore.dropDirHold (st : RasterStore) (d : DescId) (superseded : Bool) : RasterStore :=
  if (st.desc d).expHolds = 0 then st.freeDesc d
  else st.setDesc d
    { st.desc d with
      dirHold := false
      state := if superseded then .retired else (st.desc d).state }

/-- Takes an exposure hold (R49). -/
def RasterStore.addHold (st : RasterStore) (d : DescId) : RasterStore :=
  st.setDesc d { st.desc d with expHolds := (st.desc d).expHolds + 1 }

/-- Releases an exposure hold; a descriptor left with no hold is freed (R49, R50). A hold that is not there is never
released; the difference would then be 0 (log 22). -/
def RasterStore.dropHold (st : RasterStore) (d : DescId) : RasterStore :=
  if (st.desc d).expHolds ≤ 1 ∧ (st.desc d).dirHold = false then st.freeDesc d
  else st.setDesc d { st.desc d with expHolds := (st.desc d).expHolds - 1 }

/-- Takes the strip at the front of the free list for a descriptor (R44); `none` when the list is empty. -/
def RasterStore.takeStrip (st : RasterStore) (d : DescId) : Option RasterStore :=
  match st.free with
  | [] => none
  | n :: rest =>
    some { st with
      free := rest
      table := st.table.set d.val { st.desc d with strips := (st.desc d).strips ++ [n] } }

/-- The strip that holds a raster row: position floor(r / R) of the strip list (R30, R42). -/
def Descriptor.stripOf (x : Descriptor) (row : Nat) : Nat := x.strips.getD (row / x.perStrip) 0

/-- The place of a byte of a raster row in plate memory (R42). -/
def Descriptor.address (x : Descriptor) (row offset : Nat) : Nat :=
  x.stripOf row * Config.stripBytes + row % x.perStrip * rowBytes x.width + offset

/-! ### The memory access arbiter (R52 to R54) -/

/-- A band write of Band Intake is in the arbiter, waiting or in service (R18, R29). -/
def RasterStore.writeInFlight (st : RasterStore) : Bool :=
  st.waitingWrite.isSome || match st.inService with
    | some (.write _) => true
    | _ => false

/-- A scan-source read of a line is in the arbiter, waiting or in service (R52, R115). -/
def RasterStore.hasRead (st : RasterStore) (l : LineId) : Bool :=
  st.waitingReads[l.val].isSome || match st.inService with
    | some (.read r) => decide (r.line = l)
    | _ => false

/-- A request arrives at the arbiter: granted when none is in service, and otherwise it waits (R52). -/
def RasterStore.request (st : RasterStore) (q : Request) : RasterStore :=
  if st.inService = none ∧ st.handing = false then { st with inService := some q }
  else match q with
    | .write w => { st with waitingWrite := some w }
    | .read r => { st with waitingReads := st.waitingReads.set r.line.val (some r) }

/-- Withdraws a line's read: removed when it waits, marked for discard when it is in service (R54). -/
def RasterStore.withdrawRead (st : RasterStore) (l : LineId) : RasterStore :=
  { st with
    waitingReads := st.waitingReads.set l.val none
    inService := match st.inService with
      | some (.read r) => if r.line = l then some (.read { r with discard := true }) else some (.read r)
      | q => q }

/-- Of the lines that qualify, the one with the least figure, and among equals the lowest-numbered (R53, R101). -/
def leastLine (qualifies : LineId → Bool) (figure : LineId → Nat) : Option LineId :=
  allLines.foldl
    (fun best l =>
      if qualifies l then
        match best with
        | none => some l
        | some b => if figure l < figure b then some l else some b
      else best)
    none

/-- The arbiter grants one of the waiting requests: reads first, of the line with the fewest buffered scan lines
(R53). -/
def RasterStore.grant (st : RasterStore) (level : LineId → Nat) : RasterStore :=
  match leastLine (fun l => st.waitingReads[l.val].isSome) level with
  | some l =>
    { st with
      inService := st.waitingReads[l.val].map Request.read
      waitingReads := st.waitingReads.set l.val none }
  | none => { st with inService := st.waitingWrite.map Request.write, waitingWrite := none }

/-- Acts on the Raster Store. -/
def State.onStore (s : State) (f : RasterStore → RasterStore) : State := { s with store := f s.store }

/-- The completion of the request in service is being handed to its maker: nothing is granted yet (R52). -/
def State.beginHanding (s : State) : State :=
  { s with store := { s.store with inService := none, handing := true } }

/-- Once a completion has been handed over, the arbiter grants its next request (R52, R53). -/
def State.endHanding (s : State) : State :=
  if s.store.handing = true then
    { s with store := { s.store with handing := false }.grant fun l => (s.line l).feed.length }
  else s

/-! ### Line states (R104) -/

/-- Changes a line's state: a LINE_STATE report, and the Dispatcher is told (R100, R104). A line already in the
state makes no report. -/
def State.setMode (s : State) (l : LineId) (m : LineMode) : State :=
  if (s.line l).mode = m then s
  else ((s.setLine l { s.line l with mode := m }).report
    { kind := .lineState, line := some l, cause := some (.lineState m) }).tell

/-- The DRAINING test (R107): with an empty queue and no exposure in flight the line becomes STOPPED. -/
def State.drainTest (s : State) (l : LineId) : State :=
  if (s.line l).mode = .draining ∧ (s.line l).queue = [] ∧ (s.line l).exposure = none then s.setMode l .stopped
  else s

/-! ### Plate records -/

/-- The page entry index of a record's tile (R57). -/
def PlateLoad.keyOf (x : PlateLoad) (t : Tile) : PageIx := pageIndex t.page x.color

/-- The page entry indexes of a record's tiles, in tile order. -/
def PlateLoad.keys (x : PlateLoad) : List PageIx := x.tiles.map x.keyOf

/-- The slots whose records have a tile on a key, in ascending order (R67). -/
def State.slotsOn (s : State) (k : PageIx) : List Slot :=
  (List.finRange 512).filter fun p => decide (k ∈ (s.plate p).load.keys)

/-- Sets a doom; a doom already set stays (R75). -/
def PlateRecord.withDoom (r : PlateRecord) (d : Doom) : PlateRecord := { r with doom := some (r.doom.getD d) }

/-- A record whose states demand pages (R56). -/
def PlateState.demands : PlateState → Bool
  | .free => false
  | .delivered => false
  | _ => true

/-- The entry of a slot in a line's transit list. -/
def Line.entryOf (ln : Line) (p : Slot) : Option TransitEntry := ln.transit.find? fun e => decide (e.slot = p)

/-- Rewrites the entry of a slot in a line's transit list. -/
def Line.mapEntry (ln : Line) (p : Slot) (f : TransitEntry → TransitEntry) : Line :=
  { ln with transit := ln.transit.map fun e => if e.slot = p then f e else e }

/-- Removes the entry of a slot from a line's transit list; the entries behind it keep their order (R148). -/
def Line.dropEntry (ln : Line) (p : Slot) : Line :=
  { ln with transit := ln.transit.filter fun e => decide (e.slot ≠ p) }

/-- An entry enters a stage with a deadline; the line's stage clock stamps it (R148, R149). -/
def Line.enterStage (ln : Line) (p : Slot) (g : Stage) (deadline : Option Nat) : Line :=
  { ln.mapEntry p (fun e => { e with stage := g, deadline := deadline, since := ln.stageClock }) with
    stageClock := ln.stageClock + 1 }

end Sys2Proof.Machine
end

