-- ==== Sys2Proof/Machine/Flags.lean ====
section
/-! DEFINITION. The conditions the engine computes from its state: the intake condition, eligibility and load of a
line, the start conditions, the room of a bin, and the entries the stations' messages are matched to. -/

namespace Sys2Proof.Machine

/-- The intake condition: HOLD when fewer than 2 of the four slots are free, and otherwise GO (R5). -/
def State.condition (s : State) : Pace :=
  if Config.intakeSlots - s.intake.buffer.length < 2 then .hold else .go

/-- The size class is the line's expected one, or the line expects ANY (R99, R113). -/
def LineConfig.expects (c : LineConfig) (sizeClass : Nat) : Bool :=
  match c.expected with
  | none => true
  | some x => decide (x = sizeClass)

/-- The line states in which a line takes plates from the Dispatcher (R99, R104). -/
def LineMode.takesPlates : LineMode → Bool
  | .running => true
  | .pausing => true
  | .paused => true
  | .held => true
  | _ => false

/-- A line is eligible for a record (R99). -/
def State.eligible (s : State) (p : Slot) (l : LineId) : Bool :=
  (s.plate p).load.mask.testBit l.val
  && (s.line l).fitted
  && (s.line l).mode.takesPlates
  && decide ((s.line l).stock = some (s.plate p).load.sizeClass)
  && (s.line l).config.expects (s.plate p).load.sizeClass
  && decide ((s.line l).queue.length < Config.queueSlots)

/-- A line's load: its queue's length, plus 1 while it has an exposure in flight (R101). -/
def Line.load (ln : Line) : Nat := ln.queue.length + ln.exposure.isSome.toNat

/-- The start conditions of a line (R108). -/
def Line.startReady (ln : Line) : Bool :=
  (decide (ln.mode = .running) || decide (ln.mode = .draining))
  && decide (ln.exposure = none)
  && !ln.resetAbort
  && decide (ln.queue ≠ [])
  && ln.unitReady
  && decide (ln.transit.length < Config.transitSlots)

/-- Every page entry of a record's tiles is COMPLETE (R64). -/
def State.pagesComplete (s : State) (p : Slot) : Bool :=
  (s.plate p).load.keys.all fun k => decide ((s.page k).state = .complete)

/-- A record's class is URGENT. -/
def State.urgent (s : State) (p : Slot) : Bool := decide ((s.plate p).load.priority = .urgent)

/-- A bin is full (R160). -/
def Bin.full (b : Bin) : Bool := decide (b.capacity ≤ b.count)

/-- How many entries of the transit list are AT_SORTER routed to a bin (R161). -/
def Line.routedTo (ln : Line) (b : BinId) : Nat := ln.transit.countP fun e => decide (e.stage = .atSorter b)

/-- A bin has room (R161). -/
def Line.hasRoom (ln : Line) (b : BinId) : Bool :=
  !(ln.bin b).closed && decide ((ln.bin b).count + ln.routedTo b < (ln.bin b).capacity)

/-- The target bin of a transit entry: the record's destination bin, or bin 0 for route REJECT (R161). -/
def State.targetBin (s : State) (e : TransitEntry) : BinId :=
  match e.route with
  | .deliver => (s.plate e.slot).load.dest
  | .reject _ => 0

/-- Some entry of the list is in WAITING_BIN (R163). -/
def Line.anyWaiting (ln : Line) : Bool := ln.transit.any fun e => decide (e.stage = .waitingBin)

/-- Of the entries that qualify, the one that entered its stage first (R148). -/
def earliest (qualifies : TransitEntry → Bool) (es : List TransitEntry) : Option TransitEntry :=
  (es.filter qualifies).foldl
    (fun best e =>
      match best with
      | none => some e
      | some b => if e.since < b.since then some e else some b)
    none

/-- The oldest entry in TO_PUNCH: the one nearest the front of the list (R148). -/
def Line.oldestToPunch (ln : Line) : Option TransitEntry := ln.transit.find? fun e => decide (e.stage = .toPunch)

/-- An entry in AT_PUNCH. -/
def TransitEntry.atPunch (e : TransitEntry) : Bool :=
  match e.stage with
  | .atPunch _ => true
  | _ => false

/-- The oldest entry in AT_PUNCH (R154). -/
def Line.oldestAtPunch (ln : Line) : Option TransitEntry := ln.transit.find? TransitEntry.atPunch

/-- The oldest entry in AT_PUNCH, step WORK (R153). -/
def Line.oldestWorking (ln : Line) : Option TransitEntry :=
  ln.transit.find? fun e => decide (e.stage = .atPunch .work)

/-- The entry whose PB_SETUP is unanswered (R152). -/
def Line.inSetup (ln : Line) : Option TransitEntry :=
  ln.transit.find? fun e => decide (e.stage = .atPunch (.setup true))

/-- The oldest entry whose setup waits its turn (R152). -/
def Line.awaitingSetup (ln : Line) : Option TransitEntry :=
  ln.transit.find? fun e => decide (e.stage = .atPunch (.setup false))

/-- The oldest entry in TO_SORTER: the one that entered the stage first (R148, R162). -/
def Line.oldestToSorter (ln : Line) : Option TransitEntry :=
  earliest (fun e => decide (e.stage = .toSorter)) ln.transit

/-- An entry's routed bin: present in AT_SORTER alone (R162). -/
def TransitEntry.routedBin (e : TransitEntry) : Option BinId :=
  match e.stage with
  | .atSorter b => some b
  | _ => none

/-- The oldest entry in AT_SORTER: the one that entered the stage first (R148, R164). -/
def Line.oldestAtSorter (ln : Line) : Option TransitEntry :=
  earliest (fun e => e.routedBin.isSome) ln.transit

/-- A record that is not FREE has a tile on the key (R67, first question). -/
def State.referenced (s : State) (k : PageIx) : Bool :=
  (s.slotsOn k).any fun p => decide ((s.plate p).state ≠ .free)

/-- A record in QUEUED, EXPOSING or EXPOSED (R62, R67). -/
def PlateState.inFlight : PlateState → Bool
  | .queued => true
  | .exposing => true
  | .exposed => true
  | _ => false

/-- A record in QUEUED, EXPOSING or EXPOSED names the profile (R67, second question). -/
def State.profileInUse (s : State) (f : ProfileId) : Bool :=
  (List.finRange 512).any fun p => (s.plate p).state.inFlight && decide ((s.plate p).load.profile = f)

/-- A deadline is running on some entry: the entry of a slot has one (R149). -/
def Line.runningDeadline (ln : Line) (p : Slot) : Option TransitEntry :=
  match ln.entryOf p with
  | some e => if e.deadline.isSome then some e else none
  | none => none

end Sys2Proof.Machine
end

