-- ==== Sys2Proof/Machine/Placement.lean ====
section
/-! DEFINITION. Placement arithmetic (spec 07): tile setup, fan-out scaling, turning, clipping, the plate mark and
the pixels of a scan line. -/

namespace Sys2Proof.Machine

/-! ### Tile setup (R116 to R121) -/

/-- The window taken: as loaded, or the whole raster when the record holds none (R116). -/
def Tile.window (t : Tile) (wr hr : Nat) : Clip := t.clip.getD { cx := 0, cy := 0, cw := wr, ch := hr }

/-- The clamped width cw′ (R116). -/
def Clip.width (c : Clip) (wr : Nat) : Nat := min c.cw (wr - c.cx)

/-- The clamped height ch′ (R116). -/
def Clip.height (c : Clip) (hr : Nat) : Nat := min c.ch (hr - c.cy)

/-- The window lies off the raster: the tile is EMPTY (R116). -/
def Clip.off (c : Clip) (wr hr : Nat) : Bool := decide (wr ≤ c.cx ∨ hr ≤ c.cy)

/-- The window is reduced (R116). -/
def Clip.reduced (c : Clip) (wr hr : Nat) : Bool := decide (c.width wr < c.cw ∨ c.height hr < c.ch)

/-- D = floor((cw′ × s + 500000) / 1000000) (R118); `/` of `Int` with a positive divisor rounds toward minus
infinity. -/
def fanOut (cw : Nat) (scale : Int) : Int := ((cw : Int) * scale + 500000) / 1000000

/-- Ws = cw′ + D (R118). -/
def scaledWidth (cw : Nat) (scale : Int) : Nat := ((cw : Int) + fanOut cw scale).toNat

/-- The geometry of an active tile (R116 to R121): clamp, placed origin, scaled width and visible ranges. -/
def Tile.geometryOn (t : Tile) (pw ph wr hr : Nat) (dx dy : Int) : TileGeometry :=
  let c := t.window wr hr
  let cw := c.width wr
  let ch := c.height hr
  let x := (t.originX : Int) + dx
  let y := (t.originY : Int) + dy
  let ws := scaledWidth cw t.scale
  match t.turn with
  | .upright =>
    { turn := .upright, cx := c.cx, cy := c.cy, cw := cw, ch := ch, x := x, y := y, ws := ws,
      u0 := max 0 (-x), u1 := min ((ws : Int) - 1) ((pw : Int) - 1 - x),
      v0 := max 0 (-y), v1 := min ((ch : Int) - 1) ((ph : Int) - 1 - y) }
  | .inverted =>
    { turn := .inverted, cx := c.cx, cy := c.cy, cw := cw, ch := ch, x := x, y := y, ws := ws,
      u0 := max 0 (x + ws - pw), u1 := min ((ws : Int) - 1) (x + ws - 1),
      v0 := max 0 (y + ch - ph), v1 := min ((ch : Int) - 1) (y + ch - 1) }

/-- A tile's geometry against its raster's size; `none` for an EMPTY tile (R116). -/
def Tile.setupOn (t : Tile) (pw ph wr hr : Nat) (dx dy : Int) : Option TileGeometry :=
  if (t.window wr hr).off wr hr then none else some (t.geometryOn pw ph wr hr dx dy)

/-- The tile's rectangle is not wholly inside the plate (R121). -/
def TileGeometry.offPlate (g : TileGeometry) (pw ph : Nat) : Bool :=
  decide (g.x < 0 ∨ g.y < 0 ∨ (pw : Int) < g.x + g.ws ∨ (ph : Int) < g.y + g.ch)

/-- c(u) = cx + floor((2u + 1) × cw′ / (2 × Ws)) (R119). -/
def TileGeometry.column (g : TileGeometry) (u : Nat) : Nat := g.cx + (2 * u + 1) * g.cw / (2 * g.ws)

/-- The tile column that lands on a plate column (R120). -/
def TileGeometry.tileColumn (g : TileGeometry) (x : Int) : Int :=
  match g.turn with
  | .upright => x - g.x
  | .inverted => g.x + g.ws - 1 - x

/-- The tile row that lands on a plate row (R120, R126). -/
def TileGeometry.tileRow (g : TileGeometry) (y : Int) : Int :=
  match g.turn with
  | .upright => y - g.y
  | .inverted => g.y + g.ch - 1 - y

/-- A tile covers a plate row: its visible columns are not empty and the tile row is visible (R121, R126). -/
def TileGeometry.covers (g : TileGeometry) (y : Nat) : Bool :=
  decide (g.u0 ≤ g.u1 ∧ g.v0 ≤ g.tileRow y ∧ g.tileRow y ≤ g.v1)

/-- The source row of a plate row: cy + v (R126). -/
def TileGeometry.sourceRow (g : TileGeometry) (y : Nat) : Nat := g.cy + (g.tileRow y).toNat

/-- The first byte a read names within the source row (R126). -/
def TileGeometry.firstByte (g : TileGeometry) : Nat := g.column g.u0.toNat / 8

/-- The byte count of a read (R126). -/
def TileGeometry.byteCount (g : TileGeometry) : Nat := g.column g.u1.toNat / 8 - g.firstByte + 1

/-! ### The plate mark (R123 to R125) -/

/-- M = slot × 128 + (p mod 128) (R123). -/
def markValue (p : Slot) (pass : Nat) : Nat := p.val * 128 + pass % 128

/-- The mark's area lies wholly on the plate (R125). -/
def markFits (pw ph mx my : Nat) : Bool := decide (mx + 288 ≤ pw ∧ my + 64 ≤ ph)

/-- The content of a mark cell (R124): cell 0 ink, cells 1 to 16 the bits of M from the most significant, cell 17
blank. -/
def markCell (m j : Nat) : Bool := decide (j = 0) || (decide (1 ≤ j ∧ j ≤ 16) && m.testBit (16 - j))

/-- A plate pixel lies in the mark's area (R124). -/
def MarkSetup.covers (k : MarkSetup) (x y : Nat) : Bool :=
  k.present && decide (k.mx ≤ x ∧ x < k.mx + 288 ∧ k.my ≤ y ∧ y < k.my + 64)

/-! ### Scan lines (R126, R127) -/

/-- The pixel of a raster column in the bytes of a read, most significant bit first (spec 00, section 5.1). -/
def sourcePixel (g : TileGeometry) (bytes : List Byte) (c : Nat) : Bool :=
  (bytes.getD (c / 8 - g.firstByte) 0).getMsbD (c % 8)

/-- The pixel that a covering tile puts on a plate column (R120, R127). -/
def TileGeometry.pixel (g : TileGeometry) (bytes : List Byte) (x : Nat) : Bool :=
  decide (g.u0 ≤ g.tileColumn x ∧ g.tileColumn x ≤ g.u1) && sourcePixel g bytes (g.column (g.tileColumn x).toNat)

/-- The geometries of the active tiles that cover a plate row, with their descriptors, in tile order (R126). -/
def Composer.covering (c : Composer) (y : Nat) : List (DescId × TileGeometry) :=
  c.tiles.filterMap fun t =>
    match t with
    | .empty _ => none
    | .active d g => if g.covers y then some (d, g) else none

/-- A pixel of a scan line: the OR of the covering tiles, and the mark over its own area (R124, R127). -/
def Composer.pixel (c : Composer) (pw y x : Nat) : Bool :=
  match c.mark with
  | some k =>
    if k.covers x y then markCell k.value ((x - k.mx) / 16)
    else decide (x < pw) && (List.zip (c.covering y) c.gathered).any fun q => q.1.2.pixel q.2 x
  | none => decide (x < pw) && (List.zip (c.covering y) c.gathered).any fun q => q.1.2.pixel q.2 x

/-- Eight pixels packed most significant bit first (R127). -/
def packByte (pixel : Nat → Bool) (i : Nat) : Byte :=
  BitVec.ofNat 8 ((List.range 8).foldl (fun acc j => 2 * acc + (pixel (8 * i + j)).toNat) 0)

/-- The scan line of the current plate row: ceil(PW/8) bytes, pad bits 0 (R127). -/
def Composer.scanLine (c : Composer) (pw : Nat) : List Byte :=
  (List.range (rowBytes pw)).map (packByte (c.pixel pw c.row))

end Sys2Proof.Machine
end

