-- ==== Sys2Proof/Machine/Plan.lean ====
section
/-! DEFINITION. The Plate Plan's shared operations (spec 04, 06): the ready list, readiness, demand and release,
remake and spoiling, the return of queued records, and a line's entry into FAULTED. -/

namespace Sys2Proof.Machine

/-! ### The ready list (R97) -/

/-- A slot enters the ready list between the URGENT records and the NORMAL ones. -/
def State.joinBetween (s : State) (p : Slot) : State :=
  { s with ready := s.ready.takeWhile s.urgent ++ p :: s.ready.dropWhile s.urgent }

/-- A record joins the ready list at the back of its class (R97). -/
def State.joinBack (s : State) (p : Slot) : State :=
  if s.urgent p then s.joinBetween p else { s with ready := s.ready ++ [p] }

/-- A record joins the ready list at the front of its class (R97, R98). -/
def State.joinFront (s : State) (p : Slot) : State :=
  if s.urgent p then { s with ready := p :: s.ready } else s.joinBetween p

/-- A record leaves the ready list; the records behind it keep their order (R97). -/
def State.leaveReady (s : State) (p : Slot) : State := { s with ready := s.ready.filter fun q => decide (q ≠ p) }

/-! ### Readiness (R64, R65) -/

/-- Readiness is evaluated for one record (R64): a PLANNED record whose pages are all COMPLETE becomes READY, joins
the ready list at the back of its class, and the Dispatcher is told. -/
def State.evaluate (s : State) (p : Slot) : State :=
  if (s.plate p).state = .planned ∧ s.pagesComplete p = true then
    ((s.setPlate p { s.plate p with state := .ready }).joinBack p).tell
  else s

/-- A page completion evaluates every PLANNED record with a tile on the key, in ascending slot order (R65). -/
def State.evaluateOn (s : State) (k : PageIx) : State := (s.slotsOn k).foldl State.evaluate s

/-! ### Demand and release (R37, R38, R66) -/

/-- A page is released (R38, steps 1 to 3). -/
def State.releasePage (s : State) (k : PageIx) : State :=
  let e := s.page k
  let s1 := s.setPage k { e with state := .released, raster := none }
  let s2 := match e.raster with
    | some d => s1.onStore fun st => st.dropDirHold d false
    | none => s1
  s2.report { kind := .pageReleased, key := some (keyBytes k), version := some e.version }

/-- One net change of a key's demand count (R37); a fall from 1 or more to 0 on a COMPLETE entry releases the page
(R38). More is never removed than is held (R37); the difference would then be 0 (log 22). -/
def State.changeDemand (s : State) (k : PageIx) (removed added : Nat) : State :=
  let e := s.page k
  let n := e.demand + added - removed
  let s1 := s.setPage k { e with demand := n }
  if 1 ≤ e.demand ∧ n = 0 ∧ e.state = .complete then s1.releasePage k else s1

/-- Inserts a key into an ascending list without repeats. -/
def insertKey (k : PageIx) : List PageIx → List PageIx
  | [] => [k]
  | x :: xs => if k < x then k :: x :: xs else if k = x then x :: xs else x :: insertKey k xs

/-- The keys of a list, ascending and without repeats. -/
def sortedKeys (ks : List PageIx) : List PageIx := ks.foldr insertKey []

/-- Offers a change of demand: the net change of each key, in ascending page entry index (R66). -/
def State.offerDemand (s : State) (removed added : List PageIx) : State :=
  (sortedKeys (removed ++ added)).foldl (fun s k => s.changeDemand k (removed.count k) (added.count k)) s

/-! ### Remake and spoiling (R69, R70, R75) -/

/-- Remaking a record (R69, steps 1 to 3). -/
def State.remake (s : State) (p : Slot) : State :=
  (s.setPlate p
    { s.plate p with
      bound := none, line := none, place := none, doom := none, withdraw := false, state := .planned }).evaluate p

/-- A record of remake AUTO that became OBSOLETE or SPOILED is remade (R70). -/
def State.autoRemake (s : State) (p : Slot) : State :=
  if (s.plate p).load.remake = .auto then s.remake p else s

/-- A record becomes SPOILED with a cause: doom and line absent, bound versions and pass kept, and it is remade when
AUTO (R70, R75, R112, R132, R141, R157, R165). -/
def State.spoil (s : State) (p : Slot) (c : Cause) : State :=
  (s.setPlate p
    { s.plate p with
      state := .spoiled, lastCause := some c, doom := none, line := none, withdraw := false }).autoRemake p

/-! ### Returns from a line (R98) -/

/-- A record returned from a line becomes READY, its line absent, and joins at the front of its class (R98). -/
def State.returnToReady (s : State) (p : Slot) : State :=
  (s.setPlate p { s.plate p with state := .ready, line := none }).joinFront p

/-- The PLATE_UNQUEUED report of a slot and a line. -/
def unqueuedReport (l : LineId) (p : Slot) : Report := { kind := .plateUnqueued, slot := some p, line := some l }

/-- Entries of a line's queue are returned to the ready list, keeping their order within each class, with a
PLATE_UNQUEUED report each in queue order (R98). -/
def State.returnEntries (s : State) (l : LineId) (ps : List Slot) : State :=
  if ps = [] then s
  else
    let s1 := s.setLine l { s.line l with queue := (s.line l).queue.filter fun q => decide (q ∉ ps) }
    let s2 := ps.foldr (fun p s => s.returnToReady p) s1
    (s2.reportAll (ps.map (unqueuedReport l))).tell

/-- A record leaves its line's queue; the entries behind it move up (R103). The Dispatcher is told, and a DRAINING
line is tested (R107). -/
def State.leaveQueue (s : State) (l : LineId) (p : Slot) : State :=
  (s.setLine l { s.line l with queue := (s.line l).queue.filter fun q => decide (q ≠ p) }).tell

/-! ### Faults (R110) -/

/-- Every deadline of a transit list is stopped (R156). -/
def Line.stopDeadlines (ln : Line) : Line :=
  { ln with transit := ln.transit.map fun e => { e with deadline := none } }

/-- The LINE_FAULT report of a line. -/
def faultReport (l : LineId) (c : Cause) (p : Option Slot) : Report :=
  { kind := .lineFault, line := some l, slot := p, cause := some c }

/-- A fault event on a line (R110): a line that is not FAULTED enters FAULTED, with its reports, its deadlines
stopped (R156) and its queue returned; a FAULTED line keeps its first cause and makes the LINE_FAULT report alone. -/
def State.faultLine (s : State) (l : LineId) (c : Cause) (p : Option Slot) : State :=
  if (s.line l).mode = .faulted then s.report (faultReport l c p)
  else
    let s1 := s.setLine l { (s.line l).stopDeadlines with mode := .faulted, faultCause := some c }
    let s2 := s1.report (faultReport l c p)
    let s3 := s2.report { kind := .lineState, line := some l, cause := some (.lineState .faulted) }
    (s3.returnEntries l (s3.line l).queue).tell

end Sys2Proof.Machine
end

