-- ==== Sys2Proof/Machine/Composing.lean ====
section
/-! DEFINITION. The Composer and the exposure (spec 07, 08): composing scan lines into the feed buffer, EXPOSE_GO,
the engine-side abort, the exposure begin and what every end of an exposure does. -/

namespace Sys2Proof.Machine

/-! ### Composing (R126, R127, R130) -/

/-- The read that the Composer makes for a covering tile of a plate row (R126). -/
def State.readFor (s : State) (l : LineId) (y : Nat) (q : DescId × TileGeometry) : ScanRead :=
  { line := l
    desc := q.1
    row := q.2.sourceRow y
    first := q.2.firstByte
    count := q.2.byteCount
    addr := (s.store.desc q.1).address (q.2.sourceRow y) q.2.firstByte }

/-- The scan line at the current plate row is formed: it enters the feed buffer and the row advances (R127). -/
def Line.formLine (ln : Line) (pw : Nat) : Line :=
  { ln with
    feed := ln.feed ++ [ln.composer.scanLine pw]
    composer := { ln.composer with row := ln.composer.row + 1, gathered := [] } }

/-- The Composer may work on the scan line at its current row: the buffer has room, the row is below PH and the
abort has not been sent (R130). -/
def Line.mayCompose (ln : Line) (ph : Nat) : Bool :=
  match ln.exposure with
  | none => false
  | some c => !c.abortSent && decide (ln.feed.length < Config.feedLines) && decide (ln.composer.row < ph)

/-- The loaded fields of the record a line is exposing; those of R58 when it exposes none. -/
def State.exposed (s : State) (l : LineId) : PlateLoad :=
  match (s.line l).exposure with
  | some c => (s.plate c.slot).load
  | none => {}

/-- The Composer goes on until a row needs a read, the buffer is full or row PH is reached (R130). A row whose reads
are all in is formed; otherwise its next read is made, in tile order, once the line has no read in the arbiter
(R54, R126). The first argument bounds the rows formed; 16 fill the buffer. -/
def State.compose : Nat → LineId → State → State
  | 0, _, s => s
  | n + 1, l, s =>
    let ln := s.line l
    if ln.mayCompose (s.exposed l).height then
      match (ln.composer.covering ln.composer.row).drop ln.composer.gathered.length with
      | q :: _ =>
        if s.store.hasRead l then s
        else s.onStore fun st => st.request (.read (s.readFor l ln.composer.row q))
      | [] => State.compose n l (s.setLine l (ln.formLine (s.exposed l).width))
    else s

/-- EXPOSE_GO is sent once the begin is answered, the buffer holds 16 scan lines and the abort has not been sent
(R136). -/
def State.goTest (s : State) (l : LineId) : State :=
  match (s.line l).exposure with
  | none => s
  | some c =>
    if c.answered = true ∧ c.goSent = false ∧ c.abortSent = false ∧ (s.line l).feed.length = Config.feedLines then
      (s.setLine l { s.line l with exposure := some { c with goSent := true } }).send l .exposeGo
    else s

/-- The Composer goes on (R130), and EXPOSE_GO is considered (R136). -/
def State.feedLine (s : State) (l : LineId) : State := (s.compose (Config.feedLines + 1) l).goTest l

/-- The engine-side abort (R139): not made when the abort has already been sent. -/
def State.abortExposure (s : State) (l : LineId) : State :=
  match (s.line l).exposure with
  | none => s
  | some c =>
    if c.abortSent then s
    else (s.setLine l { s.line l with exposure := some { c with abortSent := true }, feed := [] }).send l .exposeAbort

/-! ### Exposure begin (R131) -/

/-- The provisional pass: pass + 1, with 255 followed by 1 (R72). -/
def nextPass (pass : Nat) : Nat := if pass = 255 then 1 else pass + 1

/-- The elements of a list, each once, where it first stands. -/
def distinct (ds : List DescId) : List DescId :=
  ds.foldl (fun acc d => if d ∈ acc then acc else acc ++ [d]) []

/-- A tile's setup against its page's current raster and the profile (R115, R116). A tile whose page has no raster is
EMPTY: the rules say that this never arises, and the model's function is total (log 22). -/
def State.tileSetup (s : State) (x : PlateLoad) (f : Profile) (t : Tile) : TileSetup :=
  match (s.page (x.keyOf t)).raster with
  | none => .empty none
  | some d =>
    match t.setupOn x.width x.height (s.store.desc d).width (s.store.desc d).height f.dx f.dy with
    | none => .empty (some d)
    | some g => .active d g

/-- The TILE_CLAMPED report of a tile. -/
def clampedReport (l : LineId) (p : Slot) (k : PageIx) (c : Cause) : Report :=
  { kind := .tileClamped, slot := some p, line := some l, key := some (keyBytes k), cause := some c }

/-- The setup reports of one tile (R122). -/
def State.tileReports (s : State) (l : LineId) (p : Slot) (x : PlateLoad) (f : Profile) (t : Tile) : List Report :=
  match s.tileSetup x f t with
  | .empty _ => [clampedReport l p (x.keyOf t) .clipEmpty]
  | .active d g =>
    (if (t.window (s.store.desc d).width (s.store.desc d).height).reduced (s.store.desc d).width
        (s.store.desc d).height
      then [clampedReport l p (x.keyOf t) .clipReduced] else [])
    ++ (if g.offPlate x.width x.height then [clampedReport l p (x.keyOf t) .offPlate] else [])

/-- The reports of the setup: tile by tile, then the omitted mark (R122). -/
def State.setupReports (s : State) (l : LineId) (p : Slot) (x : PlateLoad) (f : Profile) : List Report :=
  x.tiles.flatMap (s.tileReports l p x f)
  ++ (if markFits x.width x.height f.mx f.my then []
      else [{ kind := .markOmitted, slot := some p, line := some l }])

/-- The rasters an exposure of the record holds: the distinct current rasters, in tile order (R49). -/
def State.rastersOf (s : State) (x : PlateLoad) : List DescId :=
  distinct (x.keys.filterMap fun k => (s.page k).raster)

/-- The exposure begins with the record at the head of the line's queue (R131). -/
def State.beginExposure (s : State) (l : LineId) : State :=
  match (s.line l).queue with
  | [] => s
  | p :: rest =>
    let r := s.plate p
    let x := r.load
    let f := s.profile x.profile
    let m := markValue p (nextPass r.pass)
    let s1 := s.setLine l
      { s.line l with
        queue := rest
        exposure := some { slot := p, pass := nextPass r.pass, mark := m, holds := s.rastersOf x }
        composer :=
          { tiles := x.tiles.map (s.tileSetup x f)
            mark := some { present := markFits x.width x.height f.mx f.my, value := m, mx := f.mx, my := f.my } } }
    let s2 := s1.setPlate p
      { r with state := .exposing, bound := some (x.keys.map fun k => (s.page k).version) }
    let s3 := s2.onStore fun st => (s.rastersOf x).foldl RasterStore.addHold st
    let s4 := s3.reportAll (s.setupReports l p x f)
    ((s4.send l (.exposeBegin p x.width x.height x.sizeClass m)).tell).feedLine l

/-- A line tests its start conditions, and starts when they hold (R108). -/
def State.startTest (s : State) (l : LineId) : State :=
  if (s.line l).startReady then s.beginExposure l else s

/-! ### The end of an exposure -/

/-- What every end of an exposure does first: the line's read is withdrawn (R54), the holds are released in the order
taken (R49, R50), the feed buffer is flushed (R130), the setup is cleared (R115) and the context is removed (R129). -/
def State.closeExposure (s : State) (l : LineId) (c : Exposure) : State :=
  let s1 := s.onStore fun st => c.holds.foldl RasterStore.dropHold (st.withdrawRead l)
  s1.setLine l { s1.line l with feed := [], composer := {}, exposure := none }

end Sys2Proof.Machine
end

