-- ==== Sys2Proof/Machine/Dispatcher.lean ====
section
/-! DEFINITION. The Dispatcher's walk (spec 06), the transmitter (spec 01), and what every command ends with. -/

namespace Sys2Proof.Machine

/-! ### Placement (R101, R102) -/

/-- A record enters a queue after the last URGENT entry; with none, at its front (R102, log 15). -/
def insertUrgent (urgent : Slot → Bool) : List Slot → Slot → List Slot
  | [], p => [p]
  | q :: qs, p => if (q :: qs).any urgent then q :: insertUrgent urgent qs p else p :: q :: qs

/-- A record enters a line's queue by its priority (R102). -/
def State.enqueue (s : State) (l : LineId) (p : Slot) : List Slot :=
  if s.urgent p then insertUrgent s.urgent (s.line l).queue p else (s.line l).queue ++ [p]

/-- Places a record on a line (R102). -/
def State.place (s : State) (p : Slot) (l : LineId) : State :=
  let s1 := s.leaveReady p
  let s2 := s1.setPlate p { s1.plate p with state := .queued, line := some l }
  let s3 := s2.setLine l { s2.line l with queue := s2.enqueue l p }
  s3.report { kind := .plateQueued, slot := some p, line := some l }

/-- The walk examines one record: placed on the eligible line of the lowest load, the lowest-numbered among equals,
or left where it is (R101). -/
def State.walkOne (s : State) (p : Slot) : State :=
  match leastLine (s.eligible p) (fun l => (s.line l).load) with
  | none => s
  | some l => s.place p l

/-- The walk of the ready list, front to back (R101). -/
def State.walk (s : State) : State := s.ready.foldl State.walkOne s

/-- After the walk each line whose start conditions hold decides its start, in ascending order (R100, R108). -/
def State.startLines (s : State) : State := allLines.foldl State.startTest s

/-- The Dispatcher walks, the lines start, and it walks again while a start has taken a record (R100). A line starts
at most once, so five rounds are always enough for four lines. -/
def State.walks : Nat → State → State
  | 0, s => s
  | n + 1, s =>
    let s1 := ({ s with told := false }.walk).startLines
    if s1.told then State.walks n s1 else s1

/-- The one walk of an event, when the Dispatcher has been told (R100, log 9). -/
def State.settle (s : State) : State := if s.told then State.walks 5 s else s

/-! ### The transmitter (R5, R10, R11) -/

/-- The transmitter, free and with the link up, begins the next frame (R10): first REPORT ENGINE_STARTED after a
reset, then PACE when the condition differs from the PACE state (R5), then the REPLY, then a REPORT. -/
def State.transmit (s : State) : State :=
  if s.link.up = true ∧ s.link.tx = none then
    if s.link.awaitingStart then
      if s.reports.records = [] then s else { s with link := { s.link with tx := some .report } }
    else if s.link.pace ≠ s.condition then
      { s with link := { s.link with tx := some (.pace s.condition s.link.pace), pace := s.condition } }
    else if s.link.reply ≠ none then { s with link := { s.link with tx := some .reply } }
    else if s.reports.records ≠ [] then { s with link := { s.link with tx := some .report } }
    else s
  else s

/-- What every command ends with: the walk when it is called for (R100), the arbiter's grant when a completion has
been handed over (R52), and the transmitter (R10). -/
def State.finish (s : State) : State := s.settle.endHanding.transmit

/-- A command completes. -/
def conclude (s : State) : Host.Outcome State Fault Refusal := .next s.finish

/-- A message of a line's station: it is received where the line's port is fitted (log 16). -/
def onLine (s : State) (l : LineId) (effect : State → State) : Host.Outcome State Fault Refusal :=
  if (s.line l).fitted then conclude (effect s) else .next s

end Sys2Proof.Machine
end

