-- ==== Sys2Proof/Machine/Supersession.lean ====
section
/-! DEFINITION. Page supersession (spec 05), and the routing of waiting plates that it shares with the sorter (R163). -/

namespace Sys2Proof.Machine

/-! ### Routing at the sorter (R162, R163) -/

/-- SO_ROUTE is sent for an entry, which enters AT_SORTER with deadline T_so (R162). -/
def State.routeEntry (s : State) (l : LineId) (p : Slot) (b : BinId) : State :=
  (s.setLine l ((s.line l).enterStage p (.atSorter b) (some (s.line l).config.tSo))).send l (.soRoute b)

/-- A waiting entry is routed when its target bin has room (R163). -/
def State.routeIfRoom (s : State) (l : LineId) (e : TransitEntry) : State :=
  if (s.line l).hasRoom (s.targetBin e) then s.routeEntry l e.slot (s.targetBin e) else s

/-- When no entry is left in WAITING_BIN, every entry in TO_SORTER takes a fresh deadline of T_so (R163). -/
def Line.resumeDeadlines (ln : Line) : Line :=
  if ln.anyWaiting then ln
  else
    { ln with
      transit := ln.transit.map fun e =>
        if e.stage = .toSorter then { e with deadline := some ln.config.tSo } else e }

/-- The waiting entries of a line are tested for room, oldest first (R163); on a FAULTED line none is routed (R168). -/
def State.routeWaiting (s : State) (l : LineId) : State :=
  if (s.line l).mode = .faulted ∨ (s.line l).anyWaiting = false then s
  else
    let s1 := ((s.line l).transit.filter fun e => decide (e.stage = .waitingBin)).foldl
      (fun s e => s.routeIfRoom l e) s
    s1.setLine l (s1.line l).resumeDeadlines

/-! ### One record (R80 to R89) -/

/-- The supersede action of a record whose begin the unit has accepted (R84, R85, R86). -/
def State.applyAction (s : State) (p : Slot) (l : LineId) : State :=
  let s1 := s.setPlate p ((s.plate p).withDoom .obsolete)
  if (s.plate p).load.action = .abort then s1.abortExposure l else s1

/-- A supersession reaches a QUEUED record (R81). -/
def State.supersedeQueued (s : State) (p : Slot) (l : LineId) : State :=
  let s1 := s.leaveQueue l p
  let s2 := s1.setPlate p { s1.plate p with state := .planned, line := none }
  (s2.report (unqueuedReport l p)).drainTest l

/-- A supersession reaches an EXPOSING record (R82, R84). -/
def State.supersedeExposing (s : State) (p : Slot) (l : LineId) : State :=
  match (s.line l).exposure with
  | none => s
  | some c =>
    if c.answered then s.applyAction p l else s.setPlate p { s.plate p with withdraw := true }

/-- A supersession reaches an EXPOSED record (R87, R88): it is doomed, and an entry of route DELIVER that SO_ROUTE has
not sent on is turned to REJECT. A waiting entry so turned is tried for bin 0 by `State.routeTurned`. -/
def State.supersedeExposed (s : State) (p : Slot) (l : LineId) : State :=
  match (s.line l).entryOf p with
  | none => s
  | some e =>
    let s1 := s.setPlate p ((s.plate p).withDoom .obsolete)
    if e.routedBin.isSome ∨ e.route ≠ .deliver then s1
    else s1.setLine l ((s1.line l).mapEntry p fun e => { e with route := .reject .obsolete })

/-- A supersession of key `k` to version `w` reaches a DELIVERED record (R89). -/
def State.supersedeDelivered (s : State) (k : PageIx) (w : Nat) (p : Slot) : State :=
  let r := s.plate p
  let s1 := s.setPlate p { r with state := .obsolete, lastCause := some .obsolete }
  let s2 := s1.report
    { kind := .plateObsolete, slot := some p, key := some (keyBytes k), version := some w,
      line := r.place.map Prod.fst, bin := r.place.map Prod.snd }
  (s2.offerDemand [] r.load.keys).autoRemake p

/-- A supersession of key `k` to version `w` reaches one record, dealt with by its state (R79 to R89). -/
def State.supersedeOne (k : PageIx) (w : Nat) (s : State) (p : Slot) : State :=
  match (s.plate p).state with
  | .ready => ((s.leaveReady p).setPlate p { s.plate p with state := .planned }).tell
  | .queued =>
    match (s.plate p).line with
    | some l => s.supersedeQueued p l
    | none => s
  | .exposing =>
    match (s.plate p).line with
    | some l => s.supersedeExposing p l
    | none => s
  | .exposed =>
    match (s.plate p).line with
    | some l => s.supersedeExposed p l
    | none => s
  | .delivered => s.supersedeDelivered k w p
  | .free => s
  | .planned => s
  | .obsolete => s
  | .spoiled => s

/-- A supersession of the records of the slots `ps` turns a waiting entry of the line to REJECT (R87). -/
def Line.turnsWaiting (ln : Line) (ps : List Slot) : Bool :=
  ln.transit.any fun e => decide (e.stage = .waitingBin ∧ e.route = .deliver ∧ e.slot ∈ ps)

/-- The waiting entries that a supersession has turned are tried for bin 0 (R87): after its last record, so that those
of one line are taken oldest first (R163, log 31), in ascending order of line. -/
def State.routeTurned (s : State) (turned : LineId → Bool) : State :=
  (allLines.filter turned).foldl State.routeWaiting s

/-- The Plate Plan takes a supersession: every record with a tile on the key, in ascending slot order (R77, R79), and
then the waiting entries that it has turned (R87, R163). -/
def State.supersede (s : State) (k : PageIx) (w : Nat) : State :=
  State.routeTurned ((s.slotsOn k).foldl (State.supersedeOne k w) s) fun l => (s.line l).turnsWaiting (s.slotsOn k)

end Sys2Proof.Machine
end

