-- ==== Sys2Proof/Machine/Intake.lean ====
section
/-! DEFINITION. Band Intake and the Page Directory's judgement of bands (spec 02), with the waking of a stalled band
(R51). -/

namespace Sys2Proof.Machine

/-! ### Reports and the page entry -/

/-- The BAND_DROPPED report of a judged or lost band (R6, R20). -/
def droppedReport (b : Band) (c : Cause) : Report :=
  { kind := .bandDropped, key := some (keyBytes b.key), version := some b.version, cause := some c }

/-- The MEMORY_STALL report of a band, made once for a stall (R26, R31). -/
def State.stallReport (s : State) (b : Band) : State :=
  if s.intake.stall then s
  else ({ s with intake := { s.intake with stall := true } }).report
    { kind := .memoryStall, key := some (keyBytes b.key), version := some b.version }

/-- A RECEIVING entry breaks (R28): BROKEN with the cause, its raster freed at once, PAGE_BROKEN made. -/
def State.breakPage (s : State) (k : PageIx) (c : Cause) : State :=
  let e := s.page k
  let s1 := s.setPage k { e with state := .broken, cause := some c, raster := none }
  let s2 := match e.raster with
    | some d => s1.onStore fun st => st.freeDesc d
    | none => s1
  s2.report { kind := .pageBroken, key := some (keyBytes k), version := some e.version, cause := some c }

/-- The entry as a reception of a band's version begins in a descriptor (R21 step 3, R25 step 2). -/
def PageEntry.receive (e : PageEntry) (b : Band) (d : DescId) : PageEntry :=
  { e with
    state := .receiving, version := b.version, raster := some d, nextBand := 0, rows := 0, width := b.width,
    height := b.height, check := checkPreset, cause := none }

/-- The page completes (R36). -/
def State.completePage (s : State) (k : PageIx) : State :=
  let e := s.page k
  let s1 := s.setPage k { e with state := .complete }
  let s2 := match e.raster with
    | some d => s1.onStore fun st => st.fillDesc d
    | none => s1
  (s2.report { kind := .pageComplete, key := some (keyBytes k), version := some e.version }).evaluateOn k

/-! ### Judging a band (R20 to R26) -/

/-- What the judgement makes of the head band: it is disposed of (dropped, or broken with its entry), it waits for a
descriptor, or it is accepted (R19). -/
inductive Verdict where
  | disposed
  | waits
  | accepted
deriving DecidableEq, Repr

/-- A band 0 begins a new reception (R21). -/
def State.newReception (s : State) (b : Band) : State × Verdict :=
  match s.store.firstFree with
  | none => (s, .waits)
  | some d =>
    let e := s.page b.key
    let s1 := s.onStore fun st => st.takeDesc d b.key b.version b.width b.height
    let s2 := match e.raster with
      | some old => s1.onStore fun st => st.dropDirHold old true
      | none => s1
    let s3 := s2.setPage b.key (e.receive b d)
    if e.version = 0 then (s3, .accepted)
    else
      ((s3.report
        { kind := .pageSuperseded, key := some (keyBytes b.key), version := some b.version,
          oldVersion := some e.version }).supersede b.key b.version, .accepted)

/-- A band 0 restarts a BROKEN entry or re-receives a RELEASED one in a new descriptor (R25). -/
def State.receiveAgain (s : State) (b : Band) : State × Verdict :=
  match s.store.firstFree with
  | none => (s, .waits)
  | some d =>
    ((s.onStore fun st => st.takeDesc d b.key b.version b.width b.height).setPage b.key
      ((s.page b.key).receive b d), .accepted)

/-- A band 0 restarts a RECEIVING entry in its own descriptor (R24). -/
def State.restartReception (s : State) (b : Band) : State :=
  let e := s.page b.key
  match e.raster with
  | none => s
  | some d =>
    (s.onStore fun st => st.restartDesc d b.width b.height).setPage b.key
      { e with nextBand := 0, rows := 0, width := b.width, height := b.height, check := checkPreset }

/-- A band of the current version (R23). -/
def State.judgeSame (s : State) (b : Band) : State × Verdict :=
  match (s.page b.key).state with
  | .receiving =>
    if b.index = (s.page b.key).nextBand then (s, .accepted)
    else if b.index = 0 then (s.restartReception b, .accepted)
    else if b.index < (s.page b.key).nextBand then (s.report (droppedReport b .duplicate), .disposed)
    else (s.breakPage b.key .gap, .disposed)
  | .complete => (s.report (droppedReport b .alreadyComplete), .disposed)
  | .broken => if b.index = 0 then s.receiveAgain b else (s.report (droppedReport b .orphan), .disposed)
  | .released => if b.index = 0 then s.receiveAgain b else (s.report (droppedReport b .orphan), .disposed)
  | .empty => if b.index = 0 then s.newReception b else (s.report (droppedReport b .orphan), .disposed)

/-- The judgement of a band (R20, R21, R23). -/
def State.judge (s : State) (b : Band) : State × Verdict :=
  if b.version = 0 then (s.report (droppedReport b .malformed), .disposed)
  else if b.version < (s.page b.key).version then (s.report (droppedReport b .stale), .disposed)
  else if (s.page b.key).version < b.version ∨ (s.page b.key).state = .empty then
    if b.index = 0 then s.newReception b else (s.report (droppedReport b .orphan), .disposed)
  else s.judgeSame b

/-! ### Rows (R29 to R31) -/

/-- The pad bits after the last pixel of a row are set to 0 (R29). -/
def maskPad (width : Nat) : List Byte → List Byte
  | [] => []
  | [b] => [b &&& (0xFF#8 <<< ((8 - width % 8) % 8))]
  | b :: bs => b :: maskPad width bs

/-- The bytes of a band's payload row (R29). -/
def Band.rowOf (b : Band) (n : Nat) : List Byte :=
  maskPad b.width ((b.payload.drop (n * rowBytes b.width)).take (rowBytes b.width))

/-- The row write of the head band's next row goes to the arbiter (R29, R42). -/
def State.requestWrite (s : State) (b : Band) (d : DescId) (row : Nat) : State :=
  let x := s.store.desc d
  s.onStore fun st => st.request (.write
    { desc := d, strip := x.stripOf row, row := row % x.perStrip, addr := x.address row 0,
      bytes := b.rowOf s.intake.nextRow })

/-- The next row of the head band: where it begins a strip a strip is taken, or the band waits for one; then its write
is requested (R29, R30, R31). -/
def State.startRow (s : State) (b : Band) : State :=
  match (s.page b.key).raster with
  | none => s
  | some d =>
    let row := (s.page b.key).rows
    if row % (s.store.desc d).perStrip = 0 then
      match s.store.takeStrip d with
      | none => ({ s with intake := { s.intake with phase := some .waitingStrip } }).stallReport b
      | some st => ({ s with store := st }).requestWrite b d row
    else s.requestWrite b d row

/-! ### Acceptance and the last-band decision (R27, R35) -/

/-- The acceptance checks, in order (R27); `none` when all three pass. -/
def State.acceptanceFailure (s : State) (b : Band) : Option Cause :=
  let e := s.page b.key
  if b.width ≠ e.width ∨ b.height ≠ e.height then some .sizeMismatch
  else if b.firstRow ≠ e.rows then some .gap
  else if e.height < b.firstRow + b.rows then some .rowExcess
  else none

/-- A band is accepted into the reception: the expected index advances and the running check takes the payload (R27,
R34). -/
def State.acceptInto (s : State) (b : Band) : State :=
  let e := s.page b.key
  s.setPage b.key { e with nextBand := e.nextBand + 1, check := checkRun e.check b.payload }

/-- The last-band decision (R35). -/
def State.lastBandDecision (s : State) (b : Band) : State :=
  let e := s.page b.key
  if e.rows = e.height then
    if checkValue e.check = b.check then s.completePage b.key else s.breakPage b.key .checkMismatch
  else s.breakPage b.key .gap

/-- An accepted band meets its checks (R27). The second component: the band is to be disposed of. -/
def State.acceptBand (s : State) (b : Band) : State × Bool :=
  match s.acceptanceFailure b with
  | some c => (s.breakPage b.key c, true)
  | none =>
    let s1 := s.acceptInto b
    if b.rows = 0 then (s1.lastBandDecision b, true)
    else (({ s1 with intake := { s1.intake with phase := some .writing, nextRow := 0 } }).startRow b, false)

/-! ### The head of the buffer (R19, R33) -/

/-- The head band leaves the buffer and frees its slot (R33). That the next row becomes 0 is the model's choice (log 34). -/
def State.popHead (s : State) : State :=
  { s with intake := { s.intake with buffer := s.intake.buffer.tail, phase := none, nextRow := 0 } }

/-- The stall flag is cleared (R26, R31, R32). -/
def State.endStall (s : State) : State := { s with intake := { s.intake with stall := false } }

/-- Band Intake takes the head band that has no verdict yet, and goes on while heads are disposed of (R19, R33). The
first argument bounds the bands taken. -/
def State.takeHeads : Nat → State → State
  | 0, s => s
  | n + 1, s =>
    if s.intake.phase ≠ none then s
    else
      match s.intake.buffer with
      | [] => s
      | b :: _ =>
        match s.judge b with
        | (s1, .waits) => ({ s1 with intake := { s1.intake with phase := some .waitingDescriptor } }).stallReport b
        | (s1, .disposed) => State.takeHeads n s1.endStall.popHead
        | (s1, .accepted) =>
          match s1.endStall.acceptBand b with
          | (s2, true) => State.takeHeads n s2.popHead
          | (s2, false) => s2

/-- Band Intake goes on with its head (R19): the buffer holds at most four bands. -/
def State.runIntake (s : State) : State := s.takeHeads (Config.intakeSlots + 1)

/-- The Raster Store wakes Band Intake (R51): a band in WAITING_STRIP takes the strip at the front of the free list
and goes on; a band in WAITING_DESCRIPTOR is judged again from the start. -/
def State.wakeIntake (s : State) : State :=
  match s.intake.phase, s.intake.buffer with
  | some .waitingStrip, b :: _ =>
    if s.store.free = [] then s
    else (({ s with intake := { s.intake with phase := some .writing } }).endStall).startRow b
  | some .waitingDescriptor, _ :: _ =>
    if s.store.firstFree = none then s
    else ({ s with intake := { s.intake with phase := none } }).runIntake
  | _, _ => s

/-- The head band is abandoned when it is being written and its entry stops receiving its version (R32); abandoned in
WAITING_STRIP it ends the stall. -/
def State.abandonHead (s : State) (k : PageIx) : State :=
  match s.intake.phase, s.intake.buffer with
  | some .writing, b :: _ =>
    if b.key = k then { s with intake := { s.intake with phase := some .abandoned } } else s
  | some .waitingStrip, b :: _ =>
    if b.key = k then { s with intake := { s.intake with phase := some .abandoned, stall := false } } else s
  | _, _ => s

/-- An abandoned head with no row write in flight is disposed of at once (R32). -/
def State.disposeAbandoned (s : State) : State :=
  if s.intake.phase = some .abandoned ∧ s.store.writeInFlight = false then s.popHead.runIntake else s

/-! ### Arrival (R4, R6) -/

/-- An overrun (R6): the band is lost, a RECEIVING entry of its version breaks, and a band in progress of that
reception is abandoned before the freeing wakes anything (R51). -/
def State.overrunBand (s : State) (b : Band) : State :=
  let s1 := s.report (droppedReport b .overrun)
  if (s.page b.key).state = .receiving ∧ (s.page b.key).version = b.version then
    (((s1.breakPage b.key .overrun).abandonHead b.key).wakeIntake).disposeAbandoned
  else s1

/-- A well-formed band is offered to Band Intake (R6): it takes a free slot at the back, and is taken at once when the
buffer was empty (R19); with every slot occupied it is an overrun. -/
def State.offerBand (s : State) (b : Band) : State :=
  if s.intake.buffer.length < Config.intakeSlots then
    ({ s with intake := { s.intake with buffer := s.intake.buffer ++ [b] } }).runIntake
  else s.overrunBand b

/-- The report of a malformed band (R4): key and version when the body held at least four bytes. -/
def malformedReport (body : List Byte) : Report :=
  if body.length < 4 then { kind := .bandDropped, cause := some .malformed }
  else
    { kind := .bandDropped, cause := some .malformed, key := some (body.getD 0 0, body.getD 1 0),
      version := some (u16At body 2) }

/-- A BAND frame that passes its check (R3, R4, R6). -/
def State.bandArrives (s : State) (body : List Byte) : State :=
  if bandMalformed body then s.report (malformedReport body) else s.offerBand (bandOf body)

/-! ### Row write completions (R29, R32) -/

/-- The completion of a row of the head band (R29): rows received and the next row advance; the next row follows, or
the band is finished, with its last-band decision when it carries the last mark. -/
def State.rowWritten (s : State) (b : Band) : State :=
  let e := s.page b.key
  let s1 := s.setPage b.key { e with rows := e.rows + 1 }
  let s2 := { s1 with intake := { s1.intake with nextRow := s1.intake.nextRow + 1 } }
  if s2.intake.nextRow < b.rows then s2.startRow b
  else if b.last then (s2.lastBandDecision b).popHead.runIntake
  else s2.popHead.runIntake

/-- Band Intake takes the completion of its row write (R29, R32). -/
def State.writeHanded (s : State) : State :=
  match s.intake.phase, s.intake.buffer with
  | some .writing, b :: _ => s.rowWritten b
  | some .abandoned, _ :: _ => s.popHead.runIntake
  | _, _ => s

end Sys2Proof.Machine
end

