-- ==== Sys2Proof/Machine/Exposure.lean ====
section
/-! DEFINITION. The events of the exposure unit and of the Composer (spec 07, 08): the answers to a begin, the begin
timeout, the completion of a scan-source read, line requests, the ends of an exposure, unit status reports. An event
that releases holds wakes a stalled band once, after its effects on the records and the line and before a start
(R51, log 11). -/

namespace Sys2Proof.Machine

/-! ### The reset-abort flag (R112) -/

/-- A message that closes an aborted begin clears the reset-abort flag, and the start conditions are tested (R108,
R112). -/
def State.clearAbort (s : State) (l : LineId) : State :=
  if (s.line l).resetAbort then (s.setLine l { s.line l with resetAbort := false }).startTest l else s

/-! ### BEGIN_ACCEPT (R133) -/

/-- A begin's context once the unit has accepted (R133, step 1). -/
def Exposure.accepted (c : Exposure) : Exposure := { c with timer := false, answered := true }

/-- The effect of an acceptance (R133): the pass is committed, EXPOSURE_STARTED made, a withdraw mark turned into the
supersede action (R83, R84), and EXPOSE_GO considered. -/
def State.acceptBegin (s : State) (l : LineId) (c : Exposure) : State :=
  let r := s.plate c.slot
  let s1 := s.setLine l { s.line l with exposure := some c.accepted }
  let s2 := s1.setPlate c.slot { r with pass := c.pass, withdraw := false }
  let s3 := s2.report { kind := .exposureStarted, slot := some c.slot, line := some l, pass := some c.pass }
  (if r.withdraw then s3.applyAction c.slot l else s3).goTest l

/-- BEGIN_ACCEPT; ignored with no exposure in flight or with the begin already answered (R112, R133). -/
def State.takeAccept (s : State) (l : LineId) : State :=
  match (s.line l).exposure with
  | none => s
  | some c => if c.answered then s else s.acceptBegin l c

/-- BEGIN_ACCEPT (R133). -/
def execBeginAccept (l : LineId) (s : State) : Host.Outcome State Fault Refusal :=
  onLine s l fun s => s.takeAccept l

/-! ### BEGIN_REFUSE (R134, R135) -/

/-- Step 1 of a refusal: the exposure is closed, the bound versions become absent (R134). -/
def State.undoBegin (s : State) (l : LineId) (c : Exposure) : State :=
  let s1 := s.closeExposure l c
  s1.setPlate c.slot { s1.plate c.slot with bound := none }

/-- A refused record that carries the withdraw mark becomes PLANNED, with PLATE_UNQUEUED and readiness (R83). -/
def State.withdrawRecord (s : State) (l : LineId) (p : Slot) : State :=
  ((s.setPlate p { s.plate p with state := .planned, line := none, withdraw := false }).report
    (unqueuedReport l p)).evaluate p

/-- The refused record re-enters at the head of its queue; a ninth entry gives way at the back (R103). -/
def State.requeue (s : State) (l : LineId) (p : Slot) : State :=
  let s1 := (s.setLine l { s.line l with queue := p :: (s.line l).queue }).setPlate p
    { s.plate p with state := .queued }
  if Config.queueSlots < (s1.line l).queue.length then s1.returnEntries l (s1.line l).queue.getLast?.toList else s1

/-- A record at the head of its queue is returned when the held stock class differs from its size class (R134, step
3). -/
def State.returnMismatch (s : State) (l : LineId) (p : Slot) : State :=
  if (s.line l).stock = some (s.plate p).load.sizeClass then s else s.returnEntries l [p]

/-- The refused record goes back (R134, steps 3 and 4). -/
def State.refusedRecord (s : State) (l : LineId) (p : Slot) : State :=
  if (s.plate p).withdraw then s.withdrawRecord l p
  else if (s.line l).mode = .faulted then (s.returnToReady p).tell
  else (s.requeue l p).returnMismatch l p

/-- A PAUSING line becomes PAUSED when its exposure ends (R107). -/
def State.endPause (s : State) (l : LineId) : State :=
  if (s.line l).mode = .pausing then s.setMode l .paused else s

/-- The effect of BEGIN_REFUSE with cause NO_STOCK or SIZE (R134). -/
def State.refuseBegin (s : State) (l : LineId) (c : Exposure) : State :=
  let s1 := s.undoBegin l c
  let s2 := s1.setLine l { s1.line l with unitReady := false }
  (((s2.refusedRecord l c.slot).endPause l).drainTest l).wakeIntake.tell

/-- BEGIN_REFUSE: ignored, apart from the reset-abort flag, with no exposure in flight or with the begin already
answered (R134). -/
def State.takeRefuse (s : State) (l : LineId) : State :=
  match (s.line l).exposure with
  | none => s.clearAbort l
  | some c => if c.answered then s.clearAbort l else s.refuseBegin l c

/-- BEGIN_REFUSE with cause NO_STOCK or SIZE (R134): the two causes have one effect. -/
def execBeginRefuse (l : LineId) (_cause : RefuseCause) (s : State) : Host.Outcome State Fault Refusal :=
  onLine s l fun s => s.takeRefuse l

/-- The effect of BEGIN_REFUSE with cause LOCAL (R135): the record joins the ready list after the queue's return. -/
def State.refuseLocal (s : State) (l : LineId) (c : Exposure) : State :=
  let s1 := s.undoBegin l c
  let s2 := s1.setLine l { s1.line l with unitLocal := true, unitReady := false }
  let s3 := s2.faultLine l .unitLocal (some c.slot)
  (if (s3.plate c.slot).withdraw then s3.withdrawRecord l c.slot else s3.returnToReady c.slot).wakeIntake.tell

/-- BEGIN_REFUSE with cause LOCAL, ignored as in `State.takeRefuse` (R112, R135). -/
def State.takeRefuseLocal (s : State) (l : LineId) : State :=
  match (s.line l).exposure with
  | none => s.clearAbort l
  | some c => if c.answered then s.clearAbort l else s.refuseLocal l c

/-- BEGIN_REFUSE with cause LOCAL (R135). -/
def execBeginRefuseLocal (l : LineId) (s : State) : Host.Outcome State Fault Refusal :=
  onLine s l fun s => s.takeRefuseLocal l

/-! ### The begin timeout (R132) -/

/-- The effect of the begin timer's expiry (R132). -/
def State.timeoutBegin (s : State) (l : LineId) (c : Exposure) : State :=
  let s1 := s.send l .exposeAbort
  let s2 := s1.setLine l { s1.line l with resetAbort := true }
  let s3 := (s2.closeExposure l c).spoil c.slot .unitSilent
  (s3.faultLine l .unitSilent (some c.slot)).wakeIntake.tell

/-- The begin timer expires (R132); it runs only while a begin is unanswered. -/
def execBeginTimeout (l : LineId) (s : State) : Host.Outcome State Fault Refusal :=
  match (s.line l).exposure with
  | none => .next s
  | some c => if c.timer then conclude (s.timeoutBegin l c) else .next s

/-! ### Scan-source reads and line requests (R126, R127, R137, R138) -/

/-- A completion handed to the Composer: its bytes join the scan line being composed, and the Composer goes on; after
the abort they are discarded (R127, R139). -/
def State.readHanded (s : State) (l : LineId) (bytes : List Byte) : State :=
  match (s.line l).exposure with
  | none => s
  | some c =>
    if c.abortSent then s
    else
      (s.setLine l
        { s.line l with
          composer := { (s.line l).composer with gathered := (s.line l).composer.gathered ++ [bytes] } }).feedLine l

/-- The completion of a read (R52, R54, R127): one marked for discard reaches no Composer, and the line's place in the
arbiter is free for the next exposure's first read. -/
def State.readCompletes (s : State) (r : ScanRead) : State :=
  if r.discard then s.beginHanding.feedLine r.line
  else s.beginHanding.readHanded r.line (s.readBytes r.addr r.count)

/-- SCAN_READ_COMPLETION (R127). -/
def execScanReadCompletion (s : State) : Host.Outcome State Fault Refusal :=
  match s.store.inService with
  | some (.read r) => conclude (s.readCompletes r)
  | _ => .next s

/-- An underrun (R138): the doom, and the engine-side abort. -/
def State.underrun (s : State) (l : LineId) (c : Exposure) : State :=
  (s.setPlate c.slot ((s.plate c.slot).withDoom .underrun)).abortExposure l

/-- A scan line is handed to the unit, and the Composer goes on (R137). -/
def State.serveLine (s : State) (l : LineId) (c : Exposure) (row : List Byte) (rest : List (List Byte)) : State :=
  ((s.setLine l { s.line l with feed := rest, exposure := some { c with linesSent := c.linesSent + 1 } }).send l
    (.scanLine row)).feedLine l

/-- A line request is served with go sent, abort not sent and lines sent below PH (R137). -/
def Exposure.serves (c : Exposure) (ph : Nat) : Bool := c.goSent && !c.abortSent && decide (c.linesSent < ph)

/-- A line request (R137, R138); ignored in any other case than `Exposure.serves`. -/
def State.takeLineRequest (s : State) (l : LineId) : State :=
  match (s.line l).exposure with
  | none => s
  | some c =>
    if c.serves (s.exposed l).height then
      match (s.line l).feed with
      | [] => s.underrun l c
      | row :: rest => s.serveLine l c row rest
    else s

/-- LINE_REQUEST (R137). -/
def execLineRequest (l : LineId) (s : State) : Host.Outcome State Fault Refusal :=
  onLine s l fun s => s.takeLineRequest l

/-! ### The end of an exposure (R140, R141) -/

/-- The end is taken as NORMAL (R140). -/
def Exposure.endsNormal (c : Exposure) (cause : EndCause) (ph : Nat) : Bool :=
  decide (cause = .normal) && !c.abortSent && decide (c.linesSent = ph)

/-- The route that a doom gives a transit entry (R140, step 3). -/
def Doom.route : Option Doom → Route
  | none => .deliver
  | some d => .reject d.cause

/-- A transit entry is appended at TO_PUNCH, with deadline T_pb, or none on a FAULTED line (R140, R148, R156). -/
def Line.appendEntry (ln : Line) (p : Slot) (mark : Nat) (route : Route) (f : ProfileId) : Line :=
  { ln with
    transit := ln.transit ++
      [{ slot := p, mark := mark, route := route, profile := f, stage := .toPunch,
         deadline := if ln.mode = .faulted then none else some ln.config.tPb, since := ln.stageClock }]
    stageClock := ln.stageClock + 1 }

/-- Hold after takes effect when the plate has entered transit (R109). -/
def State.holdTest (s : State) (l : LineId) : State :=
  match (s.line l).mode with
  | .running => s.setMode l .held
  | .pausing => (s.setMode l .paused).setMode l .held
  | .draining => s.setMode l .held
  | .stopped => s
  | .paused => s
  | .held => s
  | .faulted => s

/-- The line's state after an exposure's end with a plate (R140, step 6). -/
def State.afterEnd (s : State) (l : LineId) (hold : Bool) : State :=
  if hold then s.holdTest l else (s.endPause l).drainTest l

/-- The effect of EXPOSE_END with cause NORMAL or ABORTED (R140). -/
def State.endExposure (s : State) (l : LineId) (c : Exposure) (cause : EndCause) : State :=
  let r0 := s.plate c.slot
  let r := if c.endsNormal cause r0.load.height then r0 else r0.withDoom .aborted
  let s1 := s.closeExposure l c
  let s2 := s1.setPlate c.slot { r with state := .exposed }
  let s3 := s2.setLine l ((s2.line l).appendEntry c.slot c.mark (Doom.route r.doom) r.load.profile)
  let s4 := s3.report
    { kind := .exposureEnded, slot := some c.slot, line := some l, pass := some r.pass,
      cause := r.doom.map Doom.cause }
  ((s4.afterEnd l r.load.holdAfter).wakeIntake.startTest l).tell

/-- EXPOSE_END with cause NORMAL or ABORTED (R140, R142). -/
def State.takeEnd (s : State) (l : LineId) (cause : EndCause) : State :=
  match (s.line l).exposure with
  | none => s.clearAbort l
  | some c => if c.answered then s.endExposure l c cause else s

/-- EXPOSE_END (R140). -/
def execExposeEnd (l : LineId) (cause : EndCause) (s : State) : Host.Outcome State Fault Refusal :=
  onLine s l fun s => s.takeEnd l cause

/-- The effect of EXPOSE_END with cause FAULT (R141). -/
def State.failExposure (s : State) (l : LineId) (c : Exposure) : State :=
  let s1 := (s.closeExposure l c).spoil c.slot .unitFault
  (s1.faultLine l .unitFault (some c.slot)).wakeIntake.tell

/-- EXPOSE_END with cause FAULT (R141, R142). -/
def State.takeEndFault (s : State) (l : LineId) : State :=
  match (s.line l).exposure with
  | none => s.clearAbort l
  | some c => s.failExposure l c

/-- EXPOSE_END with cause FAULT (R141). -/
def execExposeEndFault (l : LineId) (s : State) : Host.Outcome State Fault Refusal :=
  onLine s l fun s => s.takeEndFault l

/-! ### Unit status (R143) -/

/-- The held stock class takes a new value, and the queue entries of another class are returned (R143, step 4). A
DRAINING line is tested after all their PLATE_UNQUEUED reports, before the start and the walk (R107, log 28). -/
def State.changeStock (s : State) (l : LineId) (stock : Option Nat) : State :=
  if (s.line l).stock = stock then s
  else
    let s1 := s.setLine l { s.line l with stock := stock }
    (s1.returnEntries l
      ((s1.line l).queue.filter fun p => decide (some (s1.plate p).load.sizeClass ≠ stock))).drainTest l

/-- The effect of a unit status report (R143). -/
def State.takeStatus (s : State) (l : LineId) (ready : Bool) (stock : Option Nat) (unitLocal : Bool) : State :=
  let s1 := s.setLine l { s.line l with unitLocal := unitLocal, unitReady := ready && !unitLocal }
  ((s1.changeStock l stock).startTest l).tell

/-- UNIT_STATUS_REPORT (R143). -/
def execUnitStatusReport (l : LineId) (ready : Bool) (stock : Option Nat) (unitLocal : Bool) (s : State) :
    Host.Outcome State Fault Refusal :=
  onLine s l fun s => s.takeStatus l ready stock unitLocal

end Sys2Proof.Machine
end

