-- ==== Sys2Proof/Machine/Operands.lean ====
section
/-! DEFINITION. The operands of the control commands: the shape of a control frame (R8), the argument fields with
their ranges (R39, R60, R61, R68, R105, R113, R145, R167), and the reply data of the queries (R15, R41, R78, R114). -/

namespace Sys2Proof.Machine

/-! ### The shape of a control frame (R8) -/

/-- The number of argument bytes of LOAD_PLATE, from the tile count in its arguments; `none` when they are too short
to hold it or it lies outside 1..4 (R8). -/
def loadPlateLength (args : List Byte) : Option Nat :=
  if args.length < 17 then none
  else if byteAt args 16 = 0 ∨ 4 < byteAt args 16 then none
  else some (17 + 17 * byteAt args 16)

/-- The table of commands: the exact number of argument bytes of a command code (spec 01, section 1.7, CONTROL body). -/
def argumentLength (code : Nat) (args : List Byte) : Option Nat :=
  match code with
  | 0x01 => some 0
  | 0x02 => some 0
  | 0x10 => some 2
  | 0x11 => some 2
  | 0x12 => some 2
  | 0x20 => loadPlateLength args
  | 0x21 => some 2
  | 0x22 => some 2
  | 0x23 => some 2
  | 0x30 => some 15
  | 0x31 => some 1
  | 0x32 => some 1
  | 0x33 => some 1
  | 0x34 => some 1
  | 0x35 => some 1
  | 0x36 => some 1
  | 0x40 => some 21
  | 0x50 => some 2
  | 0x51 => some 2
  | _ => none

/-- The command code and argument bytes of a body that has the shape of a known command; `none` is BAD_FRAME (R8). -/
def commandOf : List Byte → Option (Nat × List Byte)
  | [] => none
  | c :: args => if argumentLength c.toNat args = some args.length then some (c.toNat, args) else none

/-! ### Field ranges -/

/-- A field of a command: its index, and whether its value is in range. -/
abbrev FieldCheck := Nat × Bool

/-- The index of the first field out of range (R9). -/
def firstBad (fs : List FieldCheck) : Option Nat := (fs.find? fun f => !f.2).map Prod.fst

/-- A value lies in a range, both ends included. -/
def within (lo hi n : Nat) : Bool := decide (lo ≤ n ∧ n ≤ hi)

/-- A signed value lies in a range, both ends included. -/
def withinInt (lo hi n : Int) : Bool := decide (lo ≤ n ∧ n ≤ hi)

/-- The fields of a page command (R39). -/
def pageFields (args : List Byte) : List FieldCheck := [(2, within 0 3 (byteAt args 1))]

/-- The page entry a page command names. -/
def pageOperand (args : List Byte) : PageIx := pageIndex (Fin.ofNat 256 (byteAt args 0)) (Fin.ofNat 4 (byteAt args 1))

/-- The field of a slot command (R68). -/
def slotFields (args : List Byte) : List FieldCheck := [(1, within 0 511 (u16At args 0))]

/-- The slot a plate command names. -/
def slotOperand (args : List Byte) : Slot := Fin.ofNat 512 (u16At args 0)

/-- The first field of a line command (R105). -/
def lineFields (args : List Byte) : List FieldCheck := [(1, within 0 3 (byteAt args 0))]

/-- The line a line or bin command names. -/
def lineOperand (args : List Byte) : LineId := Fin.ofNat 4 (byteAt args 0)

/-- The fields of a bin command; BIN_CLOSE refuses bin 0 (R167). -/
def binFields (least : Nat) (args : List Byte) : List FieldCheck :=
  [(1, within 0 3 (byteAt args 0)), (2, within least 9 (byteAt args 1))]

/-- The bin a bin command names. -/
def binOperand (args : List Byte) : BinId := Fin.ofNat 10 (byteAt args 1)

/-! ### LOAD_PLATE (R60, R61) -/

/-- The bytes of tile part `t` (from 0) of LOAD_PLATE. -/
def tilePart (args : List Byte) (t : Nat) : List Byte := (args.drop (17 + 17 * t)).take 17

/-- The ten fields of tile part `t` (from 0): field k has index 14 + 10 × t + k (R61). -/
def tileFields (args : List Byte) (t : Nat) : List FieldCheck :=
  let b := tilePart args t
  [ (14 + 10 * t + 1, true),
    (14 + 10 * t + 2, decide (u16At b 1 < u16At args 5)),
    (14 + 10 * t + 3, decide (u16At b 3 < u16At args 7)),
    (14 + 10 * t + 4, within 0 1 (byteAt b 5)),
    (14 + 10 * t + 5, withinInt (-3000) 3000 (s16At b 6)),
    (14 + 10 * t + 6, within 0 1 (byteAt b 8)),
    (14 + 10 * t + 7, decide (byteAt b 8 = 1 → u16At b 9 ≤ 24575)),
    (14 + 10 * t + 8, decide (byteAt b 8 = 1 → u16At b 11 ≤ 32767)),
    (14 + 10 * t + 9, decide (byteAt b 8 = 1 → 1 ≤ u16At b 13 ∧ u16At b 13 ≤ 24576)),
    (14 + 10 * t + 10, decide (byteAt b 8 = 1 → 1 ≤ u16At b 15 ∧ u16At b 15 ≤ 32768)) ]

/-- The fields of LOAD_PLATE in the order they are examined (R60, R61). -/
def plateFields (args : List Byte) : List FieldCheck :=
  [ (1, within 0 511 (u16At args 0)),
    (2, within 1 255 (byteAt args 2)),
    (3, within 0 3 (byteAt args 3)),
    (4, within 0 7 (byteAt args 4)),
    (5, within 288 40960 (u16At args 5)),
    (6, within 64 32768 (u16At args 7)),
    (7, within 0 31 (byteAt args 9)),
    (8, within 1 9 (byteAt args 10)),
    (9, within 1 15 (byteAt args 11)),
    (10, within 0 1 (byteAt args 12)),
    (11, within 0 1 (byteAt args 13)),
    (12, within 0 1 (byteAt args 14)),
    (13, within 0 1 (byteAt args 15)) ]
  ++ (List.range (byteAt args 16)).flatMap (tileFields args)

/-- A tile part as loaded (R61). -/
def tileOf (b : List Byte) : Tile :=
  { page := Fin.ofNat 256 (byteAt b 0)
    originX := u16At b 1
    originY := u16At b 3
    turn := if byteAt b 5 = 1 then .inverted else .upright
    scale := s16At b 6
    clip :=
      if byteAt b 8 = 1 then some { cx := u16At b 9, cy := u16At b 11, cw := u16At b 13, ch := u16At b 15 }
      else none }

/-- The loaded fields a LOAD_PLATE carries (R60, R61). -/
def plateOperand (args : List Byte) : PlateLoad :=
  { edition := byteAt args 2
    color := Fin.ofNat 4 (byteAt args 3)
    sizeClass := byteAt args 4
    width := u16At args 5
    height := u16At args 7
    tiles := (List.range (byteAt args 16)).map fun t => tileOf (tilePart args t)
    profile := Fin.ofNat 32 (byteAt args 9)
    dest := Fin.ofNat 10 (byteAt args 10)
    mask := byteAt args 11
    priority := if byteAt args 12 = 1 then .urgent else .normal
    holdAfter := decide (byteAt args 13 = 1)
    action := if byteAt args 14 = 1 then .abort else .finish
    remake := if byteAt args 15 = 1 then .manual else .auto }

/-! ### LINE_CONFIG (R113) -/

/-- The fields 2 to 15 of LINE_CONFIG (R113). -/
def configFields (args : List Byte) : List FieldCheck :=
  [ (2, within 0 8 (byteAt args 1)),
    (3, within 5 250 (byteAt args 2)),
    (4, within 5 250 (byteAt args 3)),
    (5, within 5 120 (byteAt args 4)) ]
  ++ (List.range 10).map fun b => (6 + b, within 1 60 (byteAt args (5 + b)))

/-- The configuration a LINE_CONFIG carries; 8 is ANY (R113). -/
def configOperand (args : List Byte) : LineConfig :=
  { expected := if byteAt args 1 = 8 then none else some (byteAt args 1)
    tPb := byteAt args 2
    tSo := byteAt args 3
    tSetup := byteAt args 4 }

/-- The capacity a LINE_CONFIG gives a bin (R113, fields 6 to 15). -/
def capacityOperand (args : List Byte) (b : BinId) : Nat := byteAt args (5 + b.val)

/-! ### LOAD_PROFILE (R145) -/

/-- The fields of LOAD_PROFILE; the tool fields past the tool count are not examined (R145). -/
def profileFields (args : List Byte) : List FieldCheck :=
  [ (1, within 0 31 (byteAt args 0)),
    (2, withinInt (-2048) 2047 (s16At args 1)),
    (3, withinInt (-2048) 2047 (s16At args 3)),
    (4, within 0 40959 (u16At args 5)),
    (5, within 0 32767 (u16At args 7)),
    (6, within 0 1 (byteAt args 9)),
    (7, within 1 8 (byteAt args 10)) ]
  ++ ((List.range 8).map fun i => (8 + i, decide (i < byteAt args 10 → byteAt args (11 + i) ≤ 15)))
  ++ [ (16, within 0 135 (byteAt args 19)), (17, within 0 135 (byteAt args 20)) ]

/-- The profile entry a LOAD_PROFILE carries (R145). -/
def profileOperand (args : List Byte) : Profile :=
  { present := true
    dx := s16At args 1
    dy := s16At args 3
    mx := u16At args 5
    my := u16At args 7
    markCheck := decide (byteAt args 9 = 1)
    tools := (List.range (byteAt args 10)).map fun i => byteAt args (11 + i)
    lead := byteAt args 19
    trail := byteAt args 20 }

/-! ### Reply data -/

/-- The code of a page state (R41). -/
def PageState.code : PageState → Nat
  | .empty => 0
  | .receiving => 1
  | .complete => 2
  | .broken => 3
  | .released => 4

/-- QUERY_PAGE reply data, 21 bytes (R41). -/
def PageEntry.encode (e : PageEntry) : List Byte :=
  u8 e.state.code ++ u16 e.version ++ flag e.raster.isSome ++ u16 ((e.raster.map Fin.val).getD 0)
  ++ u16 e.nextBand ++ u16 e.rows ++ u16 e.width ++ u16 e.height ++ u32 (checkValue e.check).toNat
  ++ u16 e.demand ++ u8 ((e.cause.map Cause.code).getD 0)

/-- The code of a plate state (R78). -/
def PlateState.code : PlateState → Nat
  | .free => 0
  | .planned => 1
  | .ready => 2
  | .queued => 3
  | .exposing => 4
  | .exposed => 5
  | .delivered => 6
  | .obsolete => 7
  | .spoiled => 8

/-- A tile part of QUERY_PLATE: the tile as loaded, its window's values 0 when absent (R61, R78). -/
def Tile.encode (t : Tile) : List Byte :=
  u8 t.page.val ++ u16 t.originX ++ u16 t.originY ++ flag (decide (t.turn = .inverted)) ++ s16 t.scale
  ++ flag t.clip.isSome ++ u16 ((t.clip.map Clip.cx).getD 0) ++ u16 ((t.clip.map Clip.cy).getD 0)
  ++ u16 ((t.clip.map Clip.cw).getD 0) ++ u16 ((t.clip.map Clip.ch).getD 0)

/-- Fixed fields 2 to 14 of LOAD_PLATE, 15 bytes (R60, R78). -/
def PlateLoad.encode (x : PlateLoad) : List Byte :=
  u8 x.edition ++ u8 x.color.val ++ u8 x.sizeClass ++ u16 x.width ++ u16 x.height ++ u8 x.profile.val
  ++ u8 x.dest.val ++ u8 x.mask ++ flag (decide (x.priority = .urgent)) ++ flag x.holdAfter
  ++ flag (decide (x.action = .abort)) ++ flag (decide (x.remake = .manual)) ++ u8 x.tiles.length

/-- QUERY_PLATE reply data: 34 bytes and 17 for each tile (R78). -/
def PlateRecord.encode (r : PlateRecord) : List Byte :=
  u8 r.state.code ++ r.load.encode ++ u8 r.pass
  ++ flag r.line.isSome ++ u8 ((r.line.map Fin.val).getD 0)
  ++ u8 ((r.doom.map fun d => d.cause.code).getD 0) ++ flag r.withdraw
  ++ flag r.place.isSome ++ u8 ((r.place.map fun q => q.1.val).getD 0) ++ u8 ((r.place.map fun q => q.2.val).getD 0)
  ++ u8 ((r.lastCause.map Cause.code).getD 0) ++ flag r.bound.isSome
  ++ (List.range 4).flatMap (fun i => u16 ((r.bound.getD []).getD i 0))
  ++ r.load.tiles.flatMap Tile.encode

/-- The code of a transit stage (R114). -/
def Stage.code : Stage → Nat
  | .toPunch => 0
  | .atPunch _ => 1
  | .toSorter => 2
  | .atSorter _ => 3
  | .waitingBin => 4

/-- A transit entry of QUERY_LINE, 5 bytes: slot, stage, route, route cause (R114). -/
def TransitEntry.encode (e : TransitEntry) : List Byte :=
  u16 e.slot.val ++ u8 e.stage.code ++
    match e.route with
    | .deliver => u8 0 ++ u8 0
    | .reject c => u8 1 ++ u8 c.code

/-- A bin of QUERY_LINE, 3 bytes (R114). -/
def Bin.encode (b : Bin) : List Byte := u8 b.count ++ u8 b.capacity ++ flag b.closed

/-- The expected size class as a byte: 8 for ANY (R113, R114). -/
def LineConfig.expectedCode (c : LineConfig) : Nat := c.expected.getD 8

/-- QUERY_LINE reply data, 94 bytes (R114). DESIGN CHOICE: with no exposure in flight its slot and its begin answered
byte are 0, for which R114 gives no value (log 32). -/
def Line.encode (ln : Line) : List Byte :=
  u8 ln.mode.code ++ u8 ((ln.faultCause.map Cause.code).getD 0) ++ flag ln.fitted ++ flag ln.unitReady
  ++ u8 (ln.stock.getD 0xFF) ++ flag ln.unitLocal ++ u8 ln.config.expectedCode
  ++ u8 ln.config.tPb ++ u8 ln.config.tSo ++ u8 ln.config.tSetup
  ++ flag ln.stationProfile.isSome ++ u8 ((ln.stationProfile.map Fin.val).getD 0)
  ++ u8 ln.queue.length ++ (List.range 8).flatMap (fun i => u16 ((ln.queue.map Fin.val).getD i 0))
  ++ flag ln.exposure.isSome ++ u16 ((ln.exposure.map fun c => c.slot.val).getD 0)
  ++ flag ((ln.exposure.map Exposure.answered).getD false)
  ++ u8 ln.transit.length
  ++ (List.range 6).flatMap (fun i => ((ln.transit[i]?).map TransitEntry.encode).getD [0, 0, 0, 0, 0])
  ++ ln.bins.toList.flatMap Bin.encode

/-- ENGINE_INFO reply data, 9 bytes (R15). -/
def State.engineInfo (s : State) : List Byte :=
  u8 (allLines.countP fun l => (s.line l).fitted) ++ u16 s.store.free.length
  ++ u16 (s.store.table.toList.countP fun d => decide (d.state = .free))
  ++ u16 s.ready.length ++ u16 s.reports.records.length

end Sys2Proof.Machine
end

