-- ==== Sys2Proof/Machine/Control.lean ====
section
/-! DEFINITION. The Control Frame Processor (R7 to R9): the frame it may take, and the taking of a command with its
REPLY. -/

namespace Sys2Proof.Machine

/-- What a command answers: status, field index and reply data (R9). -/
structure Answer where
  status : Status := .ok
  field : Nat := 0
  data : List Byte := []
deriving DecidableEq, Repr

/-- The frame that the Control Frame Processor may take: the head of the control queue while the REPLY slot is empty
(R7). -/
def State.controlHead (s : State) : Option ControlFrame :=
  if s.link.reply = none then s.link.controlQueue.head? else none

/-- Taking a frame removes it from the queue (R7). -/
def State.dropControl (s : State) : State :=
  { s with link := { s.link with controlQueue := s.link.controlQueue.tail } }

/-- The REPLY is placed in the REPLY slot, with the frame's tag (R7, R9). -/
def State.placeReply (s : State) (f : ControlFrame) (code : Byte) (a : Answer) : State :=
  { s with link := { s.link with
      reply := some { tag := f.tag, code := code, status := a.status, field := a.field, data := a.data } } }

/-- The argument bytes of the frame that may be taken, when it has the shape of the command of a code (R8). -/
def State.argsOf (s : State) (code : Nat) : Option (ControlFrame × List Byte) :=
  match s.controlHead with
  | none => none
  | some f =>
    match commandOf f.body with
    | none => none
    | some (c, args) => if c = code then some (f, args) else none

/-- The taking of a command: its effect on the engine, then its REPLY (R7, R9). Where the head of the control queue is
not that command, or cannot be taken, the taking does not happen (log 1). -/
def taking (code : Nat) (run : List Byte → State → State × Answer) (s : State) : Host.Outcome State Fault Refusal :=
  match s.argsOf code with
  | none => .next s
  | some (f, args) =>
    let r := run args s.dropControl
    conclude (r.1.placeReply f (BitVec.ofNat 8 code) r.2)

/-- A refusal: no effect but the REPLY (R9). -/
def refuse (s : State) (c : Status) : State × Answer := (s, { status := c })

/-- A query's answer: no effect, reply data (R9). -/
def answer (s : State) (data : List Byte) : State × Answer := (s, { data := data })

/-- An OK that changes nothing (R105). -/
def unchanged (s : State) : State × Answer := (s, {})

/-- A command is carried out: all of its effects inside the engine are applied before its REPLY is placed (R9). A stalled
band is woken after the command's other effects (R51), and the one walk of the event comes last (R100). -/
def carryOut (s : State) : State × Answer := (s.wakeIntake.settle, {})

/-- The range check of a command's fields: the first out of range is named in a BAD_FIELD refusal (R9). -/
def checked (fields : List FieldCheck) (s : State) (run : State × Answer) : State × Answer :=
  match firstBad fields with
  | some i => (s, { status := .badField, field := i })
  | none => run

end Sys2Proof.Machine
end

