-- ==== Sys2Proof/Machine/Finishing.lean ====
section
/-! DEFINITION. LOAD_PROFILE, the punch-bender's events and the expiry of a deadline (spec 09). -/

namespace Sys2Proof.Machine

/-! ### LOAD_PROFILE (R145) -/

/-- The entry is written, and the lines set up to it forget their station profile (R145, R147). -/
def State.loadProfile (s : State) (f : ProfileId) (x : Profile) : State :=
  { s.setProfile f x with
    lines := s.lines.map fun ln => if ln.stationProfile = some f then { ln with stationProfile := none } else ln }

/-- The profile a LOAD_PROFILE names. -/
def profileIndex (args : List Byte) : ProfileId := Fin.ofNat 32 (byteAt args 0)

/-- LOAD_PROFILE of an entry (R145). -/
def runLoadProfile (f : ProfileId) (x : Profile) (s : State) : State × Answer :=
  if s.profileInUse f then refuse s .isProtected else carryOut (s.loadProfile f x)

/-- LOAD_PROFILE (R145). -/
def execLoadProfile (s : State) : Host.Outcome State Fault Refusal :=
  taking 0x40 (fun args s =>
    checked (profileFields args) s (runLoadProfile (profileIndex args) (profileOperand args) s)) s

/-! ### At the punch-bender (R150 to R154) -/

/-- An entry enters TO_SORTER: deadline T_so, or none while an entry of the list waits for a bin (R149, R163). -/
def Line.toSorter (ln : Line) (p : Slot) : Line :=
  ln.enterStage p .toSorter (if ln.anyWaiting then none else some ln.config.tSo)

/-- PB_GO is sent and the entry enters step WORK with deadline T_pb (R151, R152). -/
def State.sendGo (s : State) (l : LineId) (p : Slot) : State :=
  (s.setLine l ((s.line l).enterStage p (.atPunch .work) (some (s.line l).config.tPb))).send l .pbGo

/-- PB_SETUP is sent, the station profile becomes absent and the entry enters step SETUP with deadline T_setup (R147,
R151). -/
def State.sendSetup (s : State) (l : LineId) (e : TransitEntry) : State :=
  let f := s.profile e.profile
  (s.setLine l
    { (s.line l).enterStage e.slot (.atPunch (.setup true)) (some (s.line l).config.tSetup) with
      stationProfile := none }).send l (.pbSetup f.tools f.lead f.trail)

/-- An accepted arrival of route DELIVER (R151). -/
def State.deliverAtPunch (s : State) (l : LineId) (e : TransitEntry) : State :=
  if (s.line l).stationProfile = some e.profile then s.sendGo l e.slot
  else if (s.line l).inSetup = none then s.sendSetup l e
  else s.setLine l ((s.line l).enterStage e.slot (.atPunch (.setup false)) none)

/-- An accepted arrival (R151): a plate of route REJECT is passed through. -/
def State.acceptArrival (s : State) (l : LineId) (e : TransitEntry) : State :=
  if e.route = .deliver then s.deliverAtPunch l e
  else (s.setLine l ((s.line l).toSorter e.slot)).send l .pbPass

/-- An arrival matched to an entry (R150). -/
def State.matchArrival (s : State) (l : LineId) (e : TransitEntry) (mark : Option Nat) : State :=
  if (s.profile e.profile).markCheck then
    match mark with
    | none => (s.report { kind := .markUnread, slot := some e.slot, line := some l }).acceptArrival l e
    | some m => if m = e.mark then s.acceptArrival l e else s.faultLine l .mismatch (some e.slot)
  else s.acceptArrival l e

/-- PB_ARRIVAL: a phantom on a FAULTED line or with no entry in TO_PUNCH (R150, R156). -/
def State.takeArrival (s : State) (l : LineId) (mark : Option Nat) : State :=
  if (s.line l).mode = .faulted then s.faultLine l .phantom none
  else
    match (s.line l).oldestToPunch with
    | none => s.faultLine l .phantom none
    | some e => s.matchArrival l e mark

/-- PB_ARRIVAL (R150). -/
def execPbArrival (l : LineId) (mark : Option Nat) (s : State) : Host.Outcome State Fault Refusal :=
  onLine s l fun s => s.takeArrival l mark

/-- The setups that wait their turn are dealt with, oldest first, until a PB_SETUP is sent (R152, step 4). The first
argument bounds them; a transit list holds six. -/
def State.serveSetups : Nat → LineId → State → State
  | 0, _, s => s
  | n + 1, l, s =>
    match (s.line l).inSetup, (s.line l).awaitingSetup with
    | none, some e => State.serveSetups n l (s.deliverAtPunch l e)
    | _, _ => s

/-- The setup of an entry is done (R152). -/
def State.setupDone (s : State) (l : LineId) (e : TransitEntry) : State :=
  ((s.setLine l { s.line l with stationProfile := some e.profile }).sendGo l e.slot).serveSetups
    Config.transitSlots l

/-- PB_SETUP_DONE; ignored on a FAULTED line and with no PB_SETUP unanswered (R152, R156). -/
def State.takeSetupDone (s : State) (l : LineId) : State :=
  if (s.line l).mode = .faulted then s
  else
    match (s.line l).inSetup with
    | none => s
    | some e => s.setupDone l e

/-- PB_SETUP_DONE (R152). -/
def execPbSetupDone (l : LineId) (s : State) : Host.Outcome State Fault Refusal :=
  onLine s l fun s => s.takeSetupDone l

/-- PB_DONE; ignored on a FAULTED line and with no entry at work (R153, R156). -/
def State.takeDone (s : State) (l : LineId) : State :=
  if (s.line l).mode = .faulted then s
  else
    match (s.line l).oldestWorking with
    | none => s
    | some e => s.setLine l ((s.line l).toSorter e.slot)

/-- PB_DONE (R153). -/
def execPbDone (l : LineId) (s : State) : Host.Outcome State Fault Refusal :=
  onLine s l fun s => s.takeDone l

/-- PB_FAULT: on a line that is not FAULTED the station profile becomes absent (R154, R156). -/
def State.takePunchFault (s : State) (l : LineId) : State :=
  let p := (s.line l).oldestAtPunch.map TransitEntry.slot
  if (s.line l).mode = .faulted then s.faultLine l .punchFault p
  else (s.setLine l { s.line l with stationProfile := none }).faultLine l .punchFault p

/-- PB_FAULT (R154). -/
def execPbFault (l : LineId) (s : State) : Host.Outcome State Fault Refusal :=
  onLine s l fun s => s.takePunchFault l

/-! ### Deadlines (R149) -/

/-- The cause that an expiry in a stage gives (R149). -/
def Stage.expiryCause : Stage → Cause
  | .atPunch (.setup _) => .setupTimeout
  | .atPunch .work => .missing
  | .toPunch => .missing
  | .toSorter => .missing
  | .atSorter _ => .missing
  | .waitingBin => .missing

/-- DEADLINE_EXPIRY of a slot's entry (R149); nothing happens when no deadline of it is running. -/
def execDeadlineExpiry (l : LineId) (p : Slot) (s : State) : Host.Outcome State Fault Refusal :=
  match (s.line l).runningDeadline p with
  | none => .next s
  | some e => conclude (s.faultLine l e.stage.expiryCause (some p))

end Sys2Proof.Machine
end

