-- ==== Sys2Proof/Machine/Lines.lean ====
section
/-! DEFINITION. The line commands (spec 06): LINE_CONFIG, LINE_START, LINE_PAUSE, LINE_DRAIN, LINE_RESET,
LINE_CLEAR_FAULT, QUERY_LINE. -/

namespace Sys2Proof.Machine

/-- The line commands' first check (R105). -/
def onLineCommand (args : List Byte) (s : State) (run : LineId → State × Answer) : State × Answer :=
  checked (lineFields args) s (run (lineOperand args))

/-! ### LINE_CONFIG (R113) -/

/-- The bins under new capacities (R113). -/
def Line.withCapacities (ln : Line) (capacity : BinId → Nat) : Line :=
  { ln with bins := Vector.ofFn fun b => { ln.bin b with capacity := capacity b } }

/-- The BIN_FULL reports of a change of capacities: each bin that was not full and is full, in bin order (R113). -/
def fullReports (l : LineId) (before after : Line) : List Report :=
  ((List.finRange 10).filter fun b => !(before.bin b).full && (after.bin b).full).map fun b =>
    { kind := .binFull, line := some l, bin := some b }

/-- The effect of LINE_CONFIG (R113): every field takes effect, BIN_FULL is reported, and a waiting plate whose bin
gains room is routed (R163). -/
def State.configure (s : State) (l : LineId) (c : LineConfig) (capacity : BinId → Nat) : State :=
  let after := ({ s.line l with config := c }).withCapacities capacity
  ((s.setLine l after).reportAll (fullReports l (s.line l) after)).routeWaiting l

/-- LINE_CONFIG of a line (R105, R113, log 29). -/
def runLineConfig (args : List Byte) (l : LineId) (s : State) : State × Answer :=
  if (s.line l).mode = .stopped then
    checked (configFields args) s (carryOut (s.configure l (configOperand args) (capacityOperand args)))
  else refuse s .wrongState

/-- LINE_CONFIG (R113). -/
def execLineConfig (s : State) : Host.Outcome State Fault Refusal :=
  taking 0x30 (fun args s => onLineCommand args s fun l => runLineConfig args l s) s

/-! ### LINE_START, LINE_PAUSE, LINE_DRAIN (R106, R107) -/

/-- LINE_START of a line (R105, R106): the start is decided at once, and then the Dispatcher walks (log 10). -/
def runLineStart (l : LineId) (s : State) : State × Answer :=
  if (s.line l).mode = .faulted ∨ (s.line l).fitted = false then refuse s .wrongState
  else if (s.line l).mode = .running then unchanged s
  else carryOut ((s.setMode l .running).startTest l)

/-- LINE_START (R106). -/
def execLineStart (s : State) : Host.Outcome State Fault Refusal :=
  taking 0x31 (fun args s => onLineCommand args s fun l => runLineStart l s) s

/-- LINE_PAUSE of a line (R105, R107). -/
def runLinePause (l : LineId) (s : State) : State × Answer :=
  match (s.line l).mode with
  | .running => carryOut (s.setMode l (if (s.line l).exposure = none then .paused else .pausing))
  | .pausing => unchanged s
  | .paused => unchanged s
  | .held => unchanged s
  | .stopped => refuse s .wrongState
  | .draining => refuse s .wrongState
  | .faulted => refuse s .wrongState

/-- LINE_PAUSE (R107). -/
def execLinePause (s : State) : Host.Outcome State Fault Refusal :=
  taking 0x32 (fun args s => onLineCommand args s fun l => runLinePause l s) s

/-- LINE_DRAIN of a line (R105, R107): the drain is tested at once, and a start is decided when its conditions hold. -/
def runLineDrain (l : LineId) (s : State) : State × Answer :=
  match (s.line l).mode with
  | .faulted => refuse s .wrongState
  | .stopped => unchanged s
  | .draining => unchanged s
  | .running => carryOut (((s.setMode l .draining).drainTest l).startTest l)
  | .pausing => carryOut (((s.setMode l .draining).drainTest l).startTest l)
  | .paused => carryOut (((s.setMode l .draining).drainTest l).startTest l)
  | .held => carryOut (((s.setMode l .draining).drainTest l).startTest l)

/-- LINE_DRAIN (R107). -/
def execLineDrain (s : State) : Host.Outcome State Fault Refusal :=
  taking 0x33 (fun args s => onLineCommand args s fun l => runLineDrain l s) s

/-! ### LINE_RESET and LINE_CLEAR_FAULT (R111, R112, R157) -/

/-- One transit entry is removed and its record spoiled (R112, R157). -/
def State.clearEntry (l : LineId) (c : Cause) (s : State) (e : TransitEntry) : State :=
  (s.setLine l ((s.line l).dropEntry e.slot)).spoil e.slot c

/-- Every transit entry is removed, oldest first (R111, R112, R157). -/
def State.clearTransit (s : State) (l : LineId) (c : Cause) : State :=
  (s.line l).transit.foldl (State.clearEntry l c) s

/-- LINE_RESET abandons the exposure in flight (R112, step 1). -/
def State.abandonExposure (s : State) (l : LineId) : State :=
  match (s.line l).exposure with
  | none => s
  | some c =>
    let s1 := ((s.send l .exposeAbort).closeExposure l c).spoil c.slot .lineReset
    s1.setLine l { s1.line l with resetAbort := true }

/-- The line forgets its fault cause and becomes STOPPED (R111, R112). -/
def State.stopLine (s : State) (l : LineId) : State :=
  (s.setLine l { s.line l with faultCause := none }).setMode l .stopped

/-- The effect of LINE_RESET (R112, R158). -/
def State.resetLine (s : State) (l : LineId) : State :=
  let s1 := (s.abandonExposure l).clearTransit l .lineReset
  let s2 := s1.returnEntries l (s1.line l).queue
  ((s2.setLine l { s2.line l with stationProfile := none }).stopLine l).tell

/-- LINE_RESET (R112): taken in every line state. -/
def execLineReset (s : State) : Host.Outcome State Fault Refusal :=
  taking 0x34 (fun args s => onLineCommand args s fun l => carryOut (s.resetLine l)) s

/-- LINE_CLEAR_FAULT of a line (R111, R157). -/
def runLineClearFault (l : LineId) (s : State) : State × Answer :=
  if (s.line l).mode = .faulted then
    if (s.line l).exposure = none then carryOut ((s.clearTransit l .lineFault).stopLine l) else refuse s .busy
  else refuse s .wrongState

/-- LINE_CLEAR_FAULT (R111). -/
def execLineClearFault (s : State) : Host.Outcome State Fault Refusal :=
  taking 0x35 (fun args s => onLineCommand args s fun l => runLineClearFault l s) s

/-- QUERY_LINE (R114). -/
def execQueryLine (s : State) : Host.Outcome State Fault Refusal :=
  taking 0x36 (fun args s => onLineCommand args s fun l => answer s (s.line l).encode) s

end Sys2Proof.Machine
end

