-- ==== Sys2Proof/Machine/Link.lean ====
section
/-! DEFINITION. The commands of the Page Feed Link (spec 01): power-on, the link signal, received frames, the end of
a transmission, BAD_FRAME, ENGINE_RESET and ENGINE_INFO. -/

namespace Sys2Proof.Machine

/-! ### Reset (R14) -/

/-- Every block takes its reset values (R14). What no reset reaches is kept: the link signal, which ports are fitted
(logs 5, 6), what has been sent (log 4), the waiting commands and the counters of the free values. A frame in
transmission is cut off, and nothing of it is listed as sent (log 30). -/
def State.resetBlocks (s : State) : State :=
  { link := { up := s.link.up }
    lines := s.lines.map fun ln => { fitted := ln.fitted }
    out := s.out
    powerCycle := s.powerCycle
    resetDraws := s.resetDraws
    pending := s.pending }

/-- POWER_ON (R14): the contents of plate memory are arbitrary afterwards (R42, log 7). -/
def execPowerOn (s : State) : Host.Outcome State Fault Refusal :=
  conclude { s.resetBlocks with powerCycle := s.powerCycle + 1 }

/-- Plate memory after a reset: a band write in service may have written any of its bytes (R55, log 8). -/
def State.memoryAfterReset (s : State) : Memory :=
  match s.store.inService with
  | some (.write w) =>
    (List.range w.bytes.length).foldl
      (fun m i => if Config.resetWriteLands s.resetDraws i then m.write (w.addr + i) (w.bytes.getD i 0) else m)
      s.store.mem
  | _ => s.store.mem

/-- The lines with an exposure in flight. -/
def State.exposingLines (s : State) : List LineId := allLines.filter fun l => (s.line l).exposure.isSome

/-- An ENGINE_RESET (R14): plate memory keeps its contents (R42), and a line with an exposure in flight is sent
EXPOSE_ABORT and has its reset-abort flag set (R104). The order of several EXPOSE_ABORT messages the spec does not give;
DESIGN CHOICE: ascending order of line (log 33). -/
def State.engineReset (s : State) : State :=
  { s.resetBlocks with
    store := { mem := s.memoryAfterReset }
    lines := s.lines.map fun ln => { fitted := ln.fitted, resetAbort := ln.exposure.isSome }
    out := s.out ++ s.exposingLines.map fun l => .station l .exposeAbort
    resetDraws := s.resetDraws + 1 }

/-- ENGINE_RESET (R14): carried out, it receives no REPLY. -/
def execEngineReset (s : State) : Host.Outcome State Fault Refusal :=
  match s.argsOf 0x01 with
  | none => .next s
  | some _ => conclude s.engineReset

/-- ENGINE_INFO (R15). -/
def execEngineInfo (s : State) : Host.Outcome State Fault Refusal := taking 0x02 (fun _ s => answer s s.engineInfo) s

/-- BAD_FRAME (R8): the frame at the head has not the shape of a known command. -/
def execBadFrame (s : State) : Host.Outcome State Fault Refusal :=
  match s.controlHead with
  | none => .next s
  | some f =>
    match commandOf f.body with
    | some _ => .next s
    | none => conclude (s.dropControl.placeReply f (f.body.headD 0) { status := .badFrame })

/-! ### The link signal (R1, R11) -/

/-- A frame in transmission is cut off: a PACE frame gives the PACE state back, any other frame stays at its source
(R11). How much of it has left the engine the spec does not say; DESIGN CHOICE: nothing of it is listed as sent, since
only whole frames are (log 30). -/
def LinkPort.cutOff (k : LinkPort) : LinkPort :=
  match k.tx with
  | some (.pace _ before) => { k with tx := none, pace := before }
  | _ => { k with tx := none }

/-- LINK_DOWN (R11): a frame in reception is discarded and a frame in transmission is cut off. -/
def execLinkDown (s : State) : Host.Outcome State Fault Refusal :=
  if s.link.up then .next { s with link := { s.link.cutOff with up := false, parser := .hunt false } } else .next s

/-- LINK_UP (R11): the parser begins in HUNT and the transmitter chooses again. -/
def execLinkUp (s : State) : Host.Outcome State Fault Refusal :=
  if s.link.up then .next s else conclude { s with link := { s.link with up := true, parser := .hunt false } }

/-! ### Received frames (R1, R3, R7) -/

/-- A CONTROL frame that passes its check joins the control queue, or is discarded when the queue holds 16 (R7). -/
def State.controlArrives (s : State) (f : RawFrame) : State :=
  if s.link.controlQueue.length < Config.controlSlots then
    { s with link := { s.link with controlQueue := s.link.controlQueue ++ [{ tag := f.tag, body := f.body }] } }
  else s

/-- A whole frame has arrived (R3): one that fails its check, or whose kind is neither BAND nor CONTROL, is discarded
without trace. -/
def State.frameArrives (s : State) (f : RawFrame) : State :=
  if f.passes then
    if f.kind = kindBand then (s.bandArrives f.body).finish
    else if f.kind = kindControl then (s.controlArrives f).finish
    else s
  else s

/-- Received bytes go through the parser, and each frame is acted on as a whole (R1). -/
def State.receive (s : State) (bytes : List Byte) : State :=
  (s.link.parser.run bytes).2.foldl State.frameArrives
    { s with link := { s.link with parser := (s.link.parser.run bytes).1 } }

/-- FRAME_ARRIVAL (R1, R3); nothing is received while the link is down (log 17). -/
def execFrameArrival (bytes : List Byte) (s : State) : Host.Outcome State Fault Refusal :=
  if s.link.up then .next (s.receive bytes) else .next s

/-- DAMAGED_FRAME (R1): a header whose body length is above 196,626 is discarded and the parser hunts again with the
next byte. -/
def execDamagedFrame (bytes : List Byte) (s : State) : Host.Outcome State Fault Refusal :=
  if s.link.up then .next (s.receive bytes) else .next s

/-! ### Transmission (R10, R13) -/

/-- A whole frame has left the engine. -/
def State.emit (s : State) (kind : Nat) (tag : BitVec 16) (body : List Byte) : State :=
  { s with out := s.out ++ [.frame (frameBytes kind tag body)] }

/-- The transmission of a frame ends and the frame leaves its source (R10): the REPLY slot empties, or the Report
Queue's head record is removed and the report sequence number advances (R13). -/
def State.endTransmission (s : State) (t : Transmission) : State :=
  let s1 := { s with link := { s.link with tx := none } }
  match t with
  | .pace carried _ => s1.emit kindPace 0 carried.encode
  | .reply =>
    match s.link.reply with
    | none => s1
    | some r => { s1 with link := { s1.link with reply := none } }.emit kindReply r.tag r.encode
  | .report =>
    match s.reports.records with
    | [] => s1
    | r :: rest =>
      { s1 with
        link := { s1.link with awaitingStart := false }
        reports := { s.reports with records := rest, seq := (s.reports.seq + 1) % 65536 } }.emit
          kindReport (BitVec.ofNat 16 s.reports.seq) r.encode

/-- TRANSMISSION_END (R10). -/
def execTransmissionEnd (s : State) : Host.Outcome State Fault Refusal :=
  match s.link.tx with
  | none => .next s
  | some t => conclude (s.endTransmission t)

end Sys2Proof.Machine
end

