-- ==== Sys2Proof/Machine/Pages.lean ====
section
/-! DEFINITION. The commands of the Page Directory and Band Intake (spec 02): RELEASE_PAGE, DISCARD_PAGE, QUERY_PAGE
and the completion of a band write. -/

namespace Sys2Proof.Machine

/-- RELEASE_PAGE of an entry (R39). -/
def runReleasePage (k : PageIx) (s : State) : State × Answer :=
  if (s.page k).state = .complete then
    if (s.page k).demand = 0 then carryOut (s.releasePage k) else refuse s .inDemand
  else refuse s .wrongState

/-- RELEASE_PAGE (R39). -/
def execReleasePage (s : State) : Host.Outcome State Fault Refusal :=
  taking 0x10 (fun args s => checked (pageFields args) s (runReleasePage (pageOperand args) s)) s

/-- The effect of DISCARD_PAGE (R40): the raster is handed back, the band in progress is abandoned, the entry takes the
values of R17 with its demand count kept, and an abandoned band without a row write in flight is disposed of. -/
def State.discardPage (s : State) (k : PageIx) : State :=
  let e := s.page k
  let s1 := match e.raster with
    | some d => s.onStore fun st => st.dropDirHold d false
    | none => s
  ((s1.abandonHead k).setPage k { demand := e.demand }).disposeAbandoned

/-- DISCARD_PAGE of an entry (R40). -/
def runDiscardPage (k : PageIx) (s : State) : State × Answer :=
  if s.referenced k then refuse s .referenced else carryOut (s.discardPage k)

/-- DISCARD_PAGE (R40). -/
def execDiscardPage (s : State) : Host.Outcome State Fault Refusal :=
  taking 0x11 (fun args s => checked (pageFields args) s (runDiscardPage (pageOperand args) s)) s

/-- QUERY_PAGE (R41). -/
def execQueryPage (s : State) : Host.Outcome State Fault Refusal :=
  taking 0x12 (fun args s => checked (pageFields args) s (answer s (s.page (pageOperand args)).encode)) s

/-- A band write writes its bytes at the addressed place (R52). -/
def State.writeLands (s : State) (w : BandWrite) : State :=
  s.onStore fun st => { st with mem := st.mem.writeBytes w.addr w.bytes }

/-- BAND_WRITE_COMPLETION (R29, R52): the bytes are written, the completion is handed to Band Intake, and then the
arbiter grants its next request. -/
def execBandWriteCompletion (s : State) : Host.Outcome State Fault Refusal :=
  match s.store.inService with
  | some (.write w) => conclude (s.writeLands w).beginHanding.writeHanded
  | _ => .next s

end Sys2Proof.Machine
end

