-- ==== Sys2Proof/Machine/Plates.lean ====
section
/-! DEFINITION. The commands of the Plate Plan (spec 04): LOAD_PLATE, DROP_PLATE, REMAKE_PLATE, QUERY_PLATE. -/

namespace Sys2Proof.Machine

/-- The keys whose demand a record holds: those of its tiles in a demanding state, and none otherwise (R56, R66). -/
def PlateRecord.demandKeys (r : PlateRecord) : List PageIx := if r.state.demands then r.load.keys else []

/-- The record a load leaves: PLANNED with the loaded fields, the engine's fields absent, pass kept (R62, R63). -/
def PlateRecord.loaded (r : PlateRecord) (x : PlateLoad) : PlateRecord :=
  { state := .planned, load := x, pass := r.pass }

/-- Loading a FREE record (R62). -/
def State.loadFree (s : State) (p : Slot) (x : PlateLoad) : State :=
  ((s.setPlate p ((s.plate p).loaded x)).offerDemand [] x.keys).evaluate p

/-- Replacing a loaded record (R63). -/
def State.replacePlate (s : State) (p : Slot) (x : PlateLoad) : State :=
  let r := s.plate p
  let s1 := s.leaveReady p
  let s2 := s1.offerDemand r.demandKeys x.keys
  (s2.setPlate p (r.loaded x)).evaluate p

/-- LOAD_PLATE of a slot (R62). -/
def runLoadPlate (p : Slot) (x : PlateLoad) (s : State) : State × Answer :=
  if (s.plate p).state.inFlight then refuse s .isProtected
  else if (s.profile x.profile).present = false then refuse s .profileAbsent
  else if (s.plate p).state = .free then carryOut (s.loadFree p x)
  else carryOut (s.replacePlate p x)

/-- LOAD_PLATE (R60 to R63). -/
def execLoadPlate (s : State) : Host.Outcome State Fault Refusal :=
  taking 0x20 (fun args s =>
    checked (plateFields args) s (runLoadPlate (slotOperand args) (plateOperand args) s)) s

/-- A record leaves the list or the queue it stands in (R68); a DRAINING line is tested (R107) right at the removal, so
before the reports of the demand's removal (log 28). -/
def State.takeOut (s : State) (p : Slot) : State :=
  match (s.plate p).state, (s.plate p).line with
  | .ready, _ => s.leaveReady p
  | .queued, some l => (s.leaveQueue l p).drainTest l
  | _, _ => s

/-- The effect of DROP_PLATE (R68): the demand is removed, the fields take the values of R58, pass is kept. -/
def State.dropPlate (s : State) (p : Slot) : State :=
  ((s.takeOut p).offerDemand (s.plate p).demandKeys []).setPlate p { pass := (s.plate p).pass }

/-- DROP_PLATE of a slot (R68). -/
def runDropPlate (p : Slot) (s : State) : State × Answer :=
  match (s.plate p).state with
  | .free => refuse s .notLoaded
  | .exposing => refuse s .isProtected
  | .exposed => refuse s .isProtected
  | .queued => carryOut (s.dropPlate p)
  | .ready => carryOut (s.dropPlate p)
  | .planned => carryOut (s.dropPlate p)
  | .delivered => carryOut (s.dropPlate p)
  | .obsolete => carryOut (s.dropPlate p)
  | .spoiled => carryOut (s.dropPlate p)

/-- DROP_PLATE (R68). -/
def execDropPlate (s : State) : Host.Outcome State Fault Refusal :=
  taking 0x21 (fun args s => checked (slotFields args) s (runDropPlate (slotOperand args) s)) s

/-- REMAKE_PLATE of a slot (R69). -/
def runRemakePlate (p : Slot) (s : State) : State × Answer :=
  match (s.plate p).state with
  | .delivered => carryOut ((s.offerDemand [] (s.plate p).load.keys).remake p)
  | .obsolete => carryOut (s.remake p)
  | .spoiled => carryOut (s.remake p)
  | .free => refuse s .wrongState
  | .planned => refuse s .wrongState
  | .ready => refuse s .wrongState
  | .queued => refuse s .wrongState
  | .exposing => refuse s .wrongState
  | .exposed => refuse s .wrongState

/-- REMAKE_PLATE (R69). -/
def execRemakePlate (s : State) : Host.Outcome State Fault Refusal :=
  taking 0x22 (fun args s => checked (slotFields args) s (runRemakePlate (slotOperand args) s)) s

/-- QUERY_PLATE (R78). -/
def execQueryPlate (s : State) : Host.Outcome State Fault Refusal :=
  taking 0x23 (fun args s => checked (slotFields args) s (answer s (s.plate (slotOperand args)).encode)) s

end Sys2Proof.Machine
end

