-- ==== Sys2Proof/Machine/Sorting.lean ====
section
/-! DEFINITION. The sorter's events and BIN_OPEN, BIN_CLOSE (spec 10). -/

namespace Sys2Proof.Machine

/-! ### SO_ARRIVAL (R162, R163) -/

/-- The deadlines of the entries in TO_SORTER are stopped (R163). -/
def Line.holdDeadlines (ln : Line) : Line :=
  { ln with transit := ln.transit.map fun e => if e.stage = .toSorter then { e with deadline := none } else e }

/-- SO_WAIT is sent: the entry waits for its bin, and the TO_SORTER deadlines are held (R162, R163). -/
def State.waitForBin (s : State) (l : LineId) (p : Slot) : State :=
  (s.setLine l ((s.line l).enterStage p .waitingBin none).holdDeadlines).send l .soWait

/-- An arrival at the sorter is matched to an entry (R162). -/
def State.arriveAtSorter (s : State) (l : LineId) (e : TransitEntry) : State :=
  if (s.line l).hasRoom (s.targetBin e) then s.routeEntry l e.slot (s.targetBin e) else s.waitForBin l e.slot

/-- SO_ARRIVAL: a phantom on a FAULTED line or with no entry in TO_SORTER (R162, R168). -/
def State.takeSorterArrival (s : State) (l : LineId) : State :=
  if (s.line l).mode = .faulted then s.faultLine l .phantom none
  else
    match (s.line l).oldestToSorter with
    | none => s.faultLine l .phantom none
    | some e => s.arriveAtSorter l e

/-- SO_ARRIVAL (R162). -/
def execSoArrival (l : LineId) (s : State) : Host.Outcome State Fault Refusal :=
  onLine s l fun s => s.takeSorterArrival l

/-! ### SO_STACKED (R90, R164, R165) -/

/-- The page key and version that PLATE_OBSOLETE names at a stacking: those of the first tile whose bound version is
below the current version of its page entry (R90). -/
def State.passedPage (s : State) (r : PlateRecord) : Option (PageIx × Nat) :=
  ((r.load.keys.zip (r.bound.getD [])).find? fun q => decide (q.2 < (s.page q.1).version)).map fun q =>
    (q.1, (s.page q.1).version)

/-- The record's fields after any fate: line and doom absent (R164). -/
def PlateRecord.landed (r : PlateRecord) (g : PlateState) (place : Option (LineId × BinId)) : PlateRecord :=
  { r with state := g, line := none, doom := none, place := place }

/-- DELIVERED, with its report and the fall of its demand (R90, R164). -/
def State.deliver (s : State) (l : LineId) (b : BinId) (p : Slot) : State :=
  let r := s.plate p
  ((s.setPlate p (r.landed .delivered (some (l, b)))).report
    { kind := .plateDelivered, slot := some p, line := some l, pass := some r.pass, bin := some b }).offerDemand
      r.load.keys []

/-- OBSOLETE in the delivery bin, with PLATE_OBSOLETE (R90). -/
def State.obsoleteInBin (s : State) (l : LineId) (b : BinId) (p : Slot) : State :=
  let r := s.plate p
  let q := s.passedPage r
  ((s.setPlate p { r.landed .obsolete (some (l, b)) with lastCause := some .obsolete }).report
    { kind := .plateObsolete, slot := some p, line := some l, bin := some b,
      key := q.map fun x => keyBytes x.1, version := q.map Prod.snd }).autoRemake p

/-- A plate in the reject bin: OBSOLETE, or SPOILED with its doom as cause, with PLATE_REJECTED (R90). -/
def State.rejected (s : State) (l : LineId) (b : BinId) (p : Slot) (c : Cause) : State :=
  let r := s.plate p
  ((s.setPlate p
    { r.landed (if c = .obsolete then .obsolete else .spoiled) none with lastCause := some c }).report
    { kind := .plateRejected, slot := some p, line := some l, bin := some b, cause := some c }).autoRemake p

/-- The record's fate, from the entry's route and the doom (R90). -/
def State.fate (s : State) (l : LineId) (b : BinId) (e : TransitEntry) : State :=
  match e.route, (s.plate e.slot).doom with
  | .deliver, none => s.deliver l b e.slot
  | .deliver, some _ => s.obsoleteInBin l b e.slot
  | .reject _, some d => s.rejected l b e.slot d.cause
  | .reject c, none => s.rejected l b e.slot c

/-- The bin's count rises and the entry leaves the transit list (R164, step 1). -/
def Line.stacked (ln : Line) (b : BinId) (p : Slot) : Line :=
  (ln.setBin b { ln.bin b with count := (ln.bin b).count + 1 }).dropEntry p

/-- BIN_FULL, when a stacking has brought the count to the capacity (R164, step 5, log 14). -/
def State.fullTest (s : State) (l : LineId) (b : BinId) : State :=
  if ((s.line l).bin b).full then s.report { kind := .binFull, line := some l, bin := some b } else s

/-- A plate is stacked in its routed bin (R164). -/
def State.stack (s : State) (l : LineId) (b : BinId) (e : TransitEntry) : State :=
  let s1 := (s.setLine l ((s.line l).stacked b e.slot)).fate l b e
  (((s1.wakeIntake).fullTest l b).startTest l).routeWaiting l

/-- A plate is misrouted (R165). -/
def State.misroute (s : State) (l : LineId) (e : TransitEntry) : State :=
  ((s.setLine l ((s.line l).dropEntry e.slot)).spoil e.slot .misroute).faultLine l .misroute (some e.slot)

/-- SO_STACKED: ignored on a FAULTED line; a phantom with no entry in AT_SORTER (R164, R165, R168). -/
def State.takeStacked (s : State) (l : LineId) (bin : Nat) : State :=
  if (s.line l).mode = .faulted then s
  else
    match (s.line l).oldestAtSorter with
    | none => s.faultLine l .phantom none
    | some e =>
      match e.routedBin with
      | none => s
      | some b => if bin = b.val then s.stack l b e else s.misroute l e

/-- SO_STACKED (R164). -/
def execSoStacked (l : LineId) (bin : Nat) (s : State) : Host.Outcome State Fault Refusal :=
  onLine s l fun s => s.takeStacked l bin

/-! ### SO_BIN_EMPTIED and SO_FAULT (R166, R168) -/

/-- SO_BIN_EMPTIED, in every line state; a bin outside 0..9 makes it ignored (R166). -/
def State.takeEmptied (s : State) (l : LineId) (bin : Nat) : State :=
  if h : bin < 10 then
    ((s.setLine l ((s.line l).setBin ⟨bin, h⟩ { (s.line l).bin ⟨bin, h⟩ with count := 0 })).report
      { kind := .binEmptied, line := some l, bin := some ⟨bin, h⟩ }).routeWaiting l
  else s

/-- SO_BIN_EMPTIED (R166). -/
def execSoBinEmptied (l : LineId) (bin : Nat) (s : State) : Host.Outcome State Fault Refusal :=
  onLine s l fun s => s.takeEmptied l bin

/-- SO_FAULT (R168): the report names the slot of the oldest entry in AT_SORTER when there is one. -/
def execSoFault (l : LineId) (s : State) : Host.Outcome State Fault Refusal :=
  onLine s l fun s => s.faultLine l .sorterFault ((s.line l).oldestAtSorter.map TransitEntry.slot)

/-! ### BIN_OPEN and BIN_CLOSE (R167) -/

/-- A bin's closed flag is written. -/
def State.setClosed (s : State) (l : LineId) (b : BinId) (closed : Bool) : State :=
  s.setLine l ((s.line l).setBin b { (s.line l).bin b with closed := closed })

/-- BIN_OPEN (R167): the waiting entries are tested for room. -/
def execBinOpen (s : State) : Host.Outcome State Fault Refusal :=
  taking 0x50 (fun args s => checked (binFields 0 args) s
    (carryOut ((s.setClosed (lineOperand args) (binOperand args) false).routeWaiting (lineOperand args)))) s

/-- BIN_CLOSE (R167): bin 0 is refused. -/
def execBinClose (s : State) : Host.Outcome State Fault Refusal :=
  taking 0x51 (fun args s => checked (binFields 1 args) s
    (carryOut (s.setClosed (lineOperand args) (binOperand args) true))) s

end Sys2Proof.Machine
end

