-- ==== Sys2Proof/Machine/Dispatch.lean ====
section
/-! DEFINITION. The commands, one arm each, and their meanings. -/

namespace Sys2Proof.Machine

def exec (i : Instr) (s : State) : Host.Outcome State Fault Refusal :=
  match i with
  | .powerOn => Sys2Proof.Machine.execPowerOn s
  | .linkDown => Sys2Proof.Machine.execLinkDown s
  | .linkUp => Sys2Proof.Machine.execLinkUp s
  | .frameArrival bytes => Sys2Proof.Machine.execFrameArrival bytes s
  | .transmissionEnd => Sys2Proof.Machine.execTransmissionEnd s
  | .badFrame => Sys2Proof.Machine.execBadFrame s
  | .engineReset => Sys2Proof.Machine.execEngineReset s
  | .engineInfo => Sys2Proof.Machine.execEngineInfo s
  | .releasePage => Sys2Proof.Machine.execReleasePage s
  | .discardPage => Sys2Proof.Machine.execDiscardPage s
  | .queryPage => Sys2Proof.Machine.execQueryPage s
  | .loadPlate => Sys2Proof.Machine.execLoadPlate s
  | .dropPlate => Sys2Proof.Machine.execDropPlate s
  | .remakePlate => Sys2Proof.Machine.execRemakePlate s
  | .queryPlate => Sys2Proof.Machine.execQueryPlate s
  | .lineConfig => Sys2Proof.Machine.execLineConfig s
  | .lineStart => Sys2Proof.Machine.execLineStart s
  | .linePause => Sys2Proof.Machine.execLinePause s
  | .lineDrain => Sys2Proof.Machine.execLineDrain s
  | .lineReset => Sys2Proof.Machine.execLineReset s
  | .lineClearFault => Sys2Proof.Machine.execLineClearFault s
  | .queryLine => Sys2Proof.Machine.execQueryLine s
  | .loadProfile => Sys2Proof.Machine.execLoadProfile s
  | .binOpen => Sys2Proof.Machine.execBinOpen s
  | .binClose => Sys2Proof.Machine.execBinClose s
  | .bandWriteCompletion => Sys2Proof.Machine.execBandWriteCompletion s
  | .beginAccept line => Sys2Proof.Machine.execBeginAccept line s
  | .beginRefuse line cause => Sys2Proof.Machine.execBeginRefuse line cause s
  | .beginRefuseLocal line => Sys2Proof.Machine.execBeginRefuseLocal line s
  | .beginTimeout line => Sys2Proof.Machine.execBeginTimeout line s
  | .scanReadCompletion => Sys2Proof.Machine.execScanReadCompletion s
  | .lineRequest line => Sys2Proof.Machine.execLineRequest line s
  | .exposeEnd line cause => Sys2Proof.Machine.execExposeEnd line cause s
  | .exposeEndFault line => Sys2Proof.Machine.execExposeEndFault line s
  | .unitStatusReport line ready stock unitLocal => Sys2Proof.Machine.execUnitStatusReport line ready stock unitLocal s
  | .pbArrival line mark => Sys2Proof.Machine.execPbArrival line mark s
  | .pbSetupDone line => Sys2Proof.Machine.execPbSetupDone line s
  | .pbDone line => Sys2Proof.Machine.execPbDone line s
  | .pbFault line => Sys2Proof.Machine.execPbFault line s
  | .deadlineExpiry line slot => Sys2Proof.Machine.execDeadlineExpiry line slot s
  | .soArrival line => Sys2Proof.Machine.execSoArrival line s
  | .soStacked line bin => Sys2Proof.Machine.execSoStacked line bin s
  | .soBinEmptied line bin => Sys2Proof.Machine.execSoBinEmptied line bin s
  | .soFault line => Sys2Proof.Machine.execSoFault line s
  | .damagedFrame bytes => Sys2Proof.Machine.execDamagedFrame bytes s

end Sys2Proof.Machine
end

