-- ==== Sys2Proof/Safety.lean ====
section
/-! DEFINITION. What a safe run is, and the invariants of the engine that the spec states over all its rules. -/

namespace Sys2Proof.Machine

/-! ### Capacities and line states -/

/-- The lists of the Link Port, the Report Queue and Band Intake stay within their capacities, and the report sequence
number stays below 65536 (R7, R12, R13, R18). -/
def State.LinkBounded (s : State) : Prop :=
  s.link.controlQueue.length ≤ 16 ∧ s.reports.records.length ≤ 256 ∧ s.reports.seq < 65536
  ∧ s.intake.buffer.length ≤ 4

/-- A line has at most 8 queue entries, and its transit entries with its exposure in flight are at most 6 (R103); its
feed buffer holds at most 16 scan lines (R130). -/
def Line.Bounded (ln : Line) : Prop :=
  ln.queue.length ≤ 8 ∧ ln.transit.length + ln.exposure.isSome.toNat ≤ 6 ∧ ln.feed.length ≤ 16

/-- Every line is within its capacities. -/
def State.LinesBounded (s : State) : Prop := ∀ l : LineId, (s.line l).Bounded

/-- What a line's state implies: a fault cause in FAULTED alone (R104); no queue in STOPPED and FAULTED (R107, R110);
no exposure in flight in STOPPED, PAUSED and HELD (R107, R109); no deadline in FAULTED (R156); and a line whose port is
not fitted is STOPPED with nothing on it (R105). -/
def Line.Consistent (ln : Line) : Prop :=
  (ln.faultCause.isSome = true ↔ ln.mode = .faulted)
  ∧ (ln.mode = .stopped ∨ ln.mode = .faulted → ln.queue = [])
  ∧ (ln.mode = .stopped ∨ ln.mode = .paused ∨ ln.mode = .held → ln.exposure = none)
  ∧ (ln.mode = .faulted → ∀ e ∈ ln.transit, e.deadline = none)
  ∧ (ln.fitted = false → ln.mode = .stopped ∧ ln.transit = [])

/-- Every line's state and contents agree. -/
def State.LinesConsistent (s : State) : Prop := ∀ l : LineId, (s.line l).Consistent

/-- Bin 0 of every line is open (R160). -/
def State.RejectBinsOpen (s : State) : Prop := ∀ l : LineId, ((s.line l).bin 0).closed = false

/-! ### Strips and descriptors -/

/-- Every strip number is either in the free list or in the strip list of exactly one descriptor (R43). -/
def RasterStore.StripsConserved (st : RasterStore) : Prop :=
  (st.free ++ st.table.toList.flatMap Descriptor.strips).Perm (List.range 16384)

/-- A FREE descriptor holds no strip and carries no directory hold (R45). -/
def RasterStore.FreeEmpty (st : RasterStore) : Prop :=
  ∀ d : DescId, (st.desc d).state = .free → (st.desc d).strips = [] ∧ (st.desc d).dirHold = false

/-- The current raster of a page entry is a descriptor of that page, not FREE, with the directory hold (R16, R45). -/
def State.RastersHeld (s : State) : Prop :=
  ∀ (k : PageIx) (d : DescId), (s.page k).raster = some d →
    (s.store.desc d).state ≠ .free ∧ (s.store.desc d).dirHold = true ∧ (s.store.desc d).key = some k

/-- The Raster Store and the Page Directory agree on what each strip and each descriptor is for. -/
def State.StoreSound (s : State) : Prop := s.store.StripsConserved ∧ s.store.FreeEmpty ∧ s.RastersHeld

/-! ### Exposure holds -/

/-- What a descriptor's state says of its holds (R45): FREE holds nothing, FILLING the directory's hold alone, FILLED
the directory's with any of exposures, and RETIRED those of exposures alone, of which there is one. -/
def Descriptor.HoldsFit (x : Descriptor) : Prop :=
  match x.state with
  | .free => x.dirHold = false ∧ x.expHolds = 0
  | .filling => x.dirHold = true ∧ x.expHolds = 0
  | .filled => x.dirHold = true
  | .retired => x.dirHold = false ∧ 0 < x.expHolds

/-- The holds of the exposures in flight (R45, R49, R50, R128). A descriptor counts the lines whose exposure holds it; an
exposure holds a raster once, and only rasters of pages that its record has tiles on; an active tile reads a raster that
is held, of its page in the version bound. The raster of an entry is there when the entry is RECEIVING or COMPLETE, in the
entry's version, and is then FILLING or FILLED. -/
structure State.HoldsSound (s : State) : Prop where
  fit : ∀ d : DescId, (s.store.desc d).HoldsFit
  counted : ∀ d : DescId, (s.store.desc d).expHolds =
    allLines.countP fun l => (s.line l).exposure.any fun c => decide (d ∈ c.holds)
  once : ∀ (l : LineId) (c : Exposure), (s.line l).exposure = some c → c.holds.Nodup
  held : ∀ (l : LineId) (c : Exposure), (s.line l).exposure = some c → ∀ d ∈ c.holds,
    ∃ k ∈ (s.plate c.slot).load.keys, (s.store.desc d).key = some k
  reads : ∀ (l : LineId) (c : Exposure), (s.line l).exposure = some c → ∃ vs, (s.plate c.slot).bound = some vs
    ∧ ∀ (i : Nat) (d : DescId) (g : TileGeometry), (s.line l).composer.tiles[i]? = some (.active d g) →
      d ∈ c.holds ∧ (s.store.desc d).key = (s.plate c.slot).load.keys[i]? ∧ vs[i]? = some (s.store.desc d).version
  rasters : ∀ k : PageIx, (s.page k).raster.isSome = true ↔ (s.page k).state = .receiving ∨ (s.page k).state = .complete
  versions : ∀ (k : PageIx) (d : DescId), (s.page k).raster = some d → (s.store.desc d).version = (s.page k).version
    ∧ (s.store.desc d).state = if (s.page k).state = .receiving then .filling else .filled

/-! ### Where a record stands (R59) -/

/-- A record is READY exactly when it is in the ready list, QUEUED exactly when it is in its line's queue, EXPOSING
exactly when it is its line's exposure in flight, EXPOSED exactly when it is in its line's transit list, and no list
holds it twice (R59); it has a line in the last three of these states alone (R74). The ready list holds its URGENT
records before its NORMAL ones (R97). -/
structure State.Placed (s : State) : Prop where
  ready : ∀ p : Slot, p ∈ s.ready ↔ (s.plate p).state = .ready
  readyOnce : s.ready.Nodup
  classes : s.ready = s.ready.filter s.urgent ++ s.ready.filter fun p => !s.urgent p
  queued : ∀ (p : Slot) (l : LineId),
    p ∈ (s.line l).queue ↔ (s.plate p).state = .queued ∧ (s.plate p).line = some l
  queuedOnce : ∀ l : LineId, (s.line l).queue.Nodup
  exposing : ∀ (p : Slot) (l : LineId),
    (s.line l).exposure.map Exposure.slot = some p ↔ (s.plate p).state = .exposing ∧ (s.plate p).line = some l
  exposed : ∀ (p : Slot) (l : LineId),
    p ∈ (s.line l).transit.map TransitEntry.slot ↔ (s.plate p).state = .exposed ∧ (s.plate p).line = some l
  exposedOnce : ∀ l : LineId, ((s.line l).transit.map TransitEntry.slot).Nodup
  onLine : ∀ p : Slot, (s.plate p).line.isSome = true ↔ (s.plate p).state.inFlight = true

/-! ### Demand (R37) -/

/-- The number of tile references to a key held by the records in the demanding states. -/
def State.references (s : State) (k : PageIx) : Nat :=
  ((List.finRange 512).map fun p => (s.plate p).demandKeys.count k).sum

/-- Every page entry's demand count equals the number of tile references to its key held by demanding records
(R37). -/
def State.DemandExact (s : State) : Prop := ∀ k : PageIx, (s.page k).demand = s.references k

/-! ### Version coherence -/

/-- Every bound version of a record is the current version of its tile's page entry. -/
def State.Current (s : State) (p : Slot) : Prop :=
  (s.plate p).bound = some ((s.plate p).load.keys.map fun k => (s.page k).version)
  ∧ ∀ k ∈ (s.plate p).load.keys, (s.page k).version ≠ 0

/-- No plate record is DELIVERED with a version that is not current (R73): what makes a run safe. -/
def State.Safe (s : State) : Prop := ∀ p : Slot, (s.plate p).state = .delivered → s.Current p

/-- Version coherence: the safety of a state with all that keeps it so. -/
structure State.Coherent (s : State) : Prop where
  placed : s.Placed
  demand : s.DemandExact
  head : s.intake.phase ≠ none → s.intake.buffer ≠ []
  writing : ∀ (b : Band) (rest : List Band), s.intake.buffer = b :: rest →
    s.intake.phase = some .writing ∨ s.intake.phase = some .waitingStrip → (s.page b.key).state = .receiving
  versions : ∀ k : PageIx, (s.page k).version = 0 ↔ (s.page k).state = .empty
  complete : ∀ p : Slot, (s.plate p).state = .ready ∨ (s.plate p).state = .queued → s.pagesComplete p = true
  unanswered : ∀ (l : LineId) (c : Exposure), (s.line l).exposure = some c → c.answered = false →
    (s.plate c.slot).withdraw = false → s.pagesComplete c.slot = true
  answered : ∀ (l : LineId) (c : Exposure), (s.line l).exposure = some c → c.answered = true →
    (s.plate c.slot).withdraw = false
  exposing : ∀ p : Slot, (s.plate p).state = .exposing → (s.plate p).withdraw = false → (s.plate p).doom = none →
    s.Current p
  exposed : ∀ p : Slot, (s.plate p).state = .exposed → (s.plate p).doom = none → s.Current p
  delivered : s.Safe

/-! ### What the statements speak of -/

/-- No walk is owed and no completion is being handed over: so the engine stands between two commands (logs 9, 12). -/
def State.Quiet (s : State) : Prop := s.told = false ∧ s.store.handing = false

/-- Between two commands every READY record that could be placed has been, and every line that could start has started
(R100, R101, R108). -/
structure State.Settled (s : State) : Prop where
  quiet : s.Quiet
  placed : ∀ p ∈ s.ready, ∀ l : LineId, s.eligible p l = false
  started : ∀ l : LineId, (s.line l).startReady = false

/-- The REPLY slot is empty, and the frame at the head of the control queue carries a command code and argument
bytes (R7, R8). -/
structure State.Offers (s : State) (f : ControlFrame) (code : Byte) (args : List Byte) : Prop where
  slot : s.link.reply = none
  head : s.link.controlQueue.head? = some f
  body : f.body = code :: args

/-- The frame `f` is taken from the queue and answered, and nothing else is done: what a query and a refusal are. -/
def State.replied (s : State) (f : ControlFrame) (code : Byte) (a : Answer) : State :=
  (s.dropControl.placeReply f code a).finish

/-- After the effect of a command the engine wakes a stalled band, walks, and answers OK (R9, R51, R100). -/
def State.carried (s : State) (f : ControlFrame) (code : Byte) : State :=
  (s.wakeIntake.settle.placeReply f code {}).finish

/-- A command's fields are examined in order against `ranges`, where element i - 1 is the range of field i: all of them are
in range exactly when no field is refused, and the field named in a refusal is the first one out of range (R9). -/
def Examines (fields : List FieldCheck) (ranges : List Prop) : Prop :=
  (firstBad fields = none ↔ ∀ r ∈ ranges, r)
  ∧ ∀ i, firstBad fields = some i ↔ 0 < i ∧ ¬ ranges.getD (i - 1) True ∧ ∀ j < i - 1, ranges.getD j True

/-- The eighteen control commands that are answered by a REPLY, with their codes (spec 01, section 1.7). -/
def replyingCommands : List (Instr × Byte) :=
  [(.engineInfo, 0x02), (.releasePage, 0x10), (.discardPage, 0x11), (.queryPage, 0x12), (.loadPlate, 0x20),
    (.dropPlate, 0x21), (.remakePlate, 0x22), (.queryPlate, 0x23), (.lineConfig, 0x30), (.lineStart, 0x31),
    (.linePause, 0x32), (.lineDrain, 0x33), (.lineReset, 0x34), (.lineClearFault, 0x35), (.queryLine, 0x36),
    (.loadProfile, 0x40), (.binOpen, 0x50), (.binClose, 0x51)]

end Sys2Proof.Machine
end

