-- ==== Sys2Proof/Certificates/Slice0/Obligations.lean ====
section
/-! DEFINITION. The statements for the provers, one definition each. -/

open Sys2Proof Sys2Proof.Machine


/-! ### The machine and its reset -/

/-- With a command at the front of the queue a step is that command's execution on the state with the queue's rest;
with an empty queue the engine idles (log 2). -/
def Obligations.StepTakesTheFront : Prop :=
  (∀ (c : Instr) (rest : List Instr) (s : State), s.pending = c :: rest → step s = exec c { s with pending := rest })
  ∧ ∀ s : State, s.pending = [] → step s = .next s

/-- Every command, in every state, answers a next state: none stops the engine. The waiting commands are left as they
are, which is log 2's choice, and the list of what has been sent only grows, POWER_ON and ENGINE_RESET not excepted,
which is log 4's. -/
def Obligations.EveryCommandCompletes : Prop :=
  ∀ (c : Instr) (s : State), ∃ t, exec c s = .next t ∧ t.pending = s.pending ∧ s.out <+: t.out

/-- Every step keeps the engine settled: where before it no record of the ready list has an eligible line, no line's
start conditions hold and nothing is owed, so it is after it, for a ready list that holds the READY records. And what
a command with an effect ends with leaves nothing owed: afterwards the Dispatcher is told of nothing and no completion
is being handed over. Where the Dispatcher had been told, its walks have placed every record they could and started
every line they could: no record of the ready list has an eligible line, and no line's start conditions hold. The
frame of what a command with an effect ends with (the walk, the starts, the arbiter's grant and the transmitter). It
changes no page entry, no profile, nothing of Band Intake, no byte of plate memory, no free strip, of a raster
descriptor its exposure holds alone, of a plate record neither the loaded fields nor the pass, of a line its queue,
its exposure, its Composer and its feed buffer alone, and of the Link Port the transmission and the PACE state alone.
-/
def Obligations.CommandsEndSettled : Prop :=
  ((∀ s t : State, s.Placed → s.Settled → step s = .next t → t.Settled)
   ∧ ∀ s : State, s.finish.Quiet ∧
     (s.told = true →
       (∀ p ∈ s.finish.ready, ∀ l : LineId, s.finish.eligible p l = false)
       ∧ ∀ l : LineId, (s.finish.line l).startReady = false))
  ∧ (∀ s : State,
       s.finish.pages = s.pages ∧ s.finish.profiles = s.profiles ∧ s.finish.intake = s.intake
       ∧ s.finish.store.mem = s.store.mem ∧ s.finish.store.free = s.store.free
       ∧ (∀ d : DescId, { s.finish.store.desc d with expHolds := 0 } = { s.store.desc d with expHolds := 0 })
       ∧ (∀ p : Slot, (s.finish.plate p).load = (s.plate p).load ∧ (s.finish.plate p).pass = (s.plate p).pass)
       ∧ (∀ l : LineId, s.finish.line l =
           { s.line l with
             queue := (s.finish.line l).queue, exposure := (s.finish.line l).exposure,
             composer := (s.finish.line l).composer, feed := (s.finish.line l).feed })
       ∧ s.finish.link = { s.link with tx := s.finish.link.tx, pace := s.finish.link.pace }
       ∧ s.finish.pending = s.pending ∧ s.finish.powerCycle = s.powerCycle ∧ s.finish.resetDraws = s.resetDraws)

/-- The state after reset stands between two commands and has every property that the other statements show each
command to keep: the capacities, the agreement of each line's state and contents, the reject bins open, the canonical
form of plate memory, the conservation of strips, the holds of exposures, version coherence, and nothing left to place
or start. -/
def Obligations.ResetStateIsSound : Prop :=
  State.reset.Quiet ∧ State.reset.LinkBounded ∧ State.reset.LinesBounded ∧ State.reset.LinesConsistent
  ∧ State.reset.RejectBinsOpen ∧ State.reset.store.mem.wf ∧ State.reset.StoreSound ∧ State.reset.Coherent
  ∧ State.reset.HoldsSound ∧ State.reset.Settled

/-- POWER_ON gives every block its reset values. Kept are the link signal, the fitted ports, what has been sent, the
waiting commands and the count of resets (logs 4, 5, 6, 30: the model's choices); the power cycle advances, since the
contents of plate memory are arbitrary afterwards. That the next row of Band Intake is 0 is log 34's choice, and that
a FREE descriptor has no page key log 35's. With the link up the first frame, the REPORT ENGINE_STARTED, is begun.
ENGINE_RESET at the head of the control queue gives every block its reset values, with the queue it stood in emptied
and no REPLY placed. The contents of plate memory are kept, but for the bytes of a band write in service, each of
which is written or not. A line with an exposure in flight is sent EXPOSE_ABORT and has its reset-abort flag set; that
several lines are sent it in ascending order is log 33's choice, that Band Intake's next row is 0 log 34's, and that a
FREE descriptor has no page key log 35's. -/
def Obligations.ResetsRestoreTheEngine : Prop :=
  (∀ s : State, exec .powerOn s = .next { State.reset with
     link := { State.reset.link with up := s.link.up, tx := if s.link.up then some .report else none }
     lines := s.lines.map fun ln => { fitted := ln.fitted }
     out := s.out, powerCycle := s.powerCycle + 1, resetDraws := s.resetDraws, pending := s.pending })
  ∧ (∀ (s : State) (f : ControlFrame), s.Offers f 0x01 [] →
       exec .engineReset s = .next { State.reset with
         link := { State.reset.link with up := s.link.up, tx := if s.link.up then some .report else none }
         store := { State.reset.store with mem := s.memoryAfterReset }
         lines := s.lines.map fun ln => { fitted := ln.fitted, resetAbort := ln.exposure.isSome }
         out := s.out ++ (allLines.filter fun l => (s.line l).exposure.isSome).map fun l => .station l .exposeAbort
         powerCycle := s.powerCycle, resetDraws := s.resetDraws + 1, pending := s.pending }
       ∧ (∀ w : BandWrite, s.store.inService = some (.write w) → s.store.mem.wf → ∀ a : Nat,
           (w.addr ≤ a ∧ a < w.addr + w.bytes.length ∧ s.memoryAfterReset.read? a = w.bytes[a - w.addr]?)
           ∨ s.memoryAfterReset.read? a = s.store.mem.read? a)
       ∧ ((∀ w : BandWrite, s.store.inService ≠ some (.write w)) → s.memoryAfterReset = s.store.mem))

/-! ### The Page Feed Link (spec 01) -/

/-- A whole frame, sent to a parser in HUNT, arrives with its last byte and not before: the parser delivers its kind,
its tag and its body as they were sent, the frame passes its check, and the parser is in HUNT again. So it is for
every kind, every tag and every body of at most 196,626 bytes, delimiters among its bytes included. A band's fields,
laid out as the BAND body, make a body that passes the form check, is no longer than the parser accepts, and is read
as that band: with the last mark 18 bytes of header and the page check, without it 14 bytes. -/
def Obligations.FramesAreReadAsSent : Prop :=
  (∀ (kind : Nat) (tag : BitVec 16) (body : List Byte) (half : Bool), kind < 256 → body.length ≤ Config.maxBody →
     (∃ f : RawFrame, (Parser.hunt half).run (frameBytes kind tag body) = (.hunt false, [f])
       ∧ f.kind = kind ∧ f.tag = tag ∧ f.body = body ∧ f.passes = true)
     ∧ ((Parser.hunt half).run (frameBytes kind tag body).dropLast).2 = [])
  ∧ (∀ b : Band, b.version < 65536 → b.index < 65536 → b.rows ≤ 64 → b.firstRow < 65536
       → 1 ≤ b.width ∧ b.width ≤ 24576 → 1 ≤ b.height ∧ b.height ≤ 32768 → b.payload.length = b.rows * rowBytes b.width
       → (b.last = true ∨ 1 ≤ b.rows ∧ b.check = 0) →
       let body := u8 b.page.val ++ u8 b.sep.val ++ u16 b.version ++ u16 b.index ++ flag b.last ++ u8 b.rows
         ++ u16 b.firstRow ++ u16 b.width ++ u16 b.height ++ (if b.last then u32 b.check.toNat else []) ++ b.payload
       body.length ≤ Config.maxBody ∧ bandMalformed body = false ∧ bandOf body = b)

/-- LINK_DOWN on a link that is up discards the frame in reception and cuts off the frame in transmission: a PACE
frame gives the PACE state back the value it held before, and a REPLY or REPORT stays at its source. LINK_UP on a link
that is down leaves the parser in HUNT and lets the transmitter choose. Neither changes anything else, and a signal
that is already there changes nothing. That nothing of a cut-off frame is listed as sent is log 30's choice. -/
def Obligations.LinkSignalObeyed : Prop :=
  ∀ s : State,
    (s.link.up = true → exec .linkDown s = .next { s with
      link := { s.link with
        up := false, parser := .hunt false, tx := none
        pace := match s.link.tx with
          | some (.pace _ before) => before
          | _ => s.link.pace } })
    ∧ (s.link.up = false → exec .linkDown s = .next s)
    ∧ (s.link.up = false →
        exec .linkUp s = .next (State.finish { s with link := { s.link with up := true, parser := .hunt false } }))
    ∧ (s.link.up = true → exec .linkUp s = .next s)

/-- The order of transmission: with the link down or a frame in transmission no frame is begun; after a reset the
REPORT ENGINE_STARTED comes first; then a PACE frame when the intake condition differs from the PACE state, which
takes the condition; then the REPLY; then the record at the head of the Report Queue. Nothing but the transmission and
the PACE state changes. A frame leaves its source when its transmission ends: a PACE frame has gone with tag 0 and its
one byte, a REPLY empties the REPLY slot and carries its frame's tag, a REPORT removes the head record, carries the
report sequence number as its tag and advances it, 65535 being followed by 0. With nothing in transmission the command
changes nothing. A report record is 15 bytes, each field at its offset in the table, an absent one as 0, with the gap
mark and the presence bits; and the codes of the report kinds, of the causes with the line states, and of the statuses
are those of the tables. -/
def Obligations.FramesAreTransmitted : Prop :=
  (∀ s : State,
     (s.link.up = false ∨ s.link.tx ≠ none → s.transmit = s)
     ∧ (s.link.up = true → s.link.tx = none →
       (s.link.awaitingStart = true → s.reports.records ≠ [] →
         s.transmit = { s with link := { s.link with tx := some .report } })
       ∧ (s.link.awaitingStart = false → s.link.pace ≠ s.condition →
         s.transmit = { s with
           link := { s.link with tx := some (.pace s.condition s.link.pace), pace := s.condition } })
       ∧ (s.link.awaitingStart = false → s.link.pace = s.condition → s.link.reply ≠ none →
         s.transmit = { s with link := { s.link with tx := some .reply } })
       ∧ (s.link.awaitingStart = false → s.link.pace = s.condition → s.link.reply = none → s.reports.records ≠ [] →
         s.transmit = { s with link := { s.link with tx := some .report } })
       ∧ (s.link.awaitingStart = false → s.link.pace = s.condition → s.link.reply = none → s.reports.records = [] →
         s.transmit = s))
     ∧ s.condition = if s.intake.buffer.length < 3 then .go else .hold)
  ∧ (∀ s : State,
       (∀ c before, s.link.tx = some (.pace c before) →
         exec .transmissionEnd s = .next (State.finish { s with
           link := { s.link with tx := none }
           out := s.out ++ [.frame (frameBytes 0x83 0 [if c = .go then 1 else 0])] }))
       ∧ (∀ r : Reply, s.link.tx = some .reply → s.link.reply = some r →
         exec .transmissionEnd s = .next (State.finish { s with
           link := { s.link with tx := none, reply := none }
           out := s.out ++ [.frame (frameBytes 0x81 r.tag ([r.code] ++ u8 r.status.code ++ u8 r.field ++ r.data))] }))
       ∧ (∀ (r : Report) (rest : List Report), s.link.tx = some .report → s.reports.records = r :: rest →
         r.encode.length = 15
         ∧ exec .transmissionEnd s = .next (State.finish { s with
             link := { s.link with tx := none, awaitingStart := false }
             reports := { s.reports with records := rest, seq := (s.reports.seq + 1) % 65536 }
             out := s.out ++ [.frame (frameBytes 0x82 (BitVec.ofNat 16 s.reports.seq) r.encode)] }))
       ∧ (s.link.tx = none → exec .transmissionEnd s = .next s))
  ∧ ((∀ r : Report,
       let d := r.encode
       d.length = 15 ∧ byteAt d 0 = r.kind.code ∧ byteAt d 1 = r.gap.toNat
       ∧ (∀ i < 8, (d.getD 2 0).getLsbD i = [r.line.isSome, r.slot.isSome, r.key.isSome, r.version.isSome,
         r.oldVersion.isSome, r.pass.isSome, r.bin.isSome, r.cause.isSome].getD i false)
       ∧ byteAt d 3 = (r.line.map Fin.val).getD 0 ∧ u16At d 4 = (r.slot.map Fin.val).getD 0
       ∧ d.getD 6 0 = (r.key.map Prod.fst).getD 0 ∧ d.getD 7 0 = (r.key.map Prod.snd).getD 0
       ∧ u16At d 8 = r.version.getD 0 % 65536 ∧ u16At d 10 = r.oldVersion.getD 0 % 65536
       ∧ byteAt d 12 = r.pass.getD 0 % 256 ∧ byteAt d 13 = (r.bin.map Fin.val).getD 0
       ∧ byteAt d 14 = (r.cause.map Cause.code).getD 0)
     ∧ ([.engineStarted, .pageComplete, .pageBroken, .bandDropped, .pageSuperseded, .pageReleased, .memoryStall, .plateQueued,
         .plateUnqueued, .exposureStarted, .exposureEnded, .tileClamped, .markOmitted, .markUnread, .plateDelivered,
         .plateRejected, .plateObsolete, .lineState, .lineFault, .binFull, .binEmptied] : List ReportKind).map
       ReportKind.code = List.range' 1 21
     ∧ ([.malformed, .orphan, .duplicate, .alreadyComplete, .stale, .overrun, .gap, .checkMismatch, .sizeMismatch, .rowExcess,
         .clipEmpty, .clipReduced, .offPlate, .obsolete, .underrun, .aborted, .lineReset, .lineFault, .unitFault, .unitSilent,
         .unitLocal, .phantom, .mismatch, .missing, .punchFault, .setupTimeout, .misroute, .sorterFault] : List Cause).map
       Cause.code = List.range' 1 28
     ∧ (∀ m : LineMode, (Cause.lineState m).code = m.code)
     ∧ ([.stopped, .running, .pausing, .paused, .held, .draining, .faulted] : List LineMode).map LineMode.code =
       List.range' 0x20 7
     ∧ ([.ok, .badFrame, .badField, .wrongState, .isProtected, .notLoaded, .referenced, .inDemand, .busy, .profileAbsent] :
       List Status).map Status.code = List.range 10)

/-- A CONTROL frame that passes its check joins the back of the control queue with its tag and body, or, when the
queue holds 16, is discarded. A BAND frame that passes its check: a malformed one is reported MALFORMED, with the key
and version when its body holds four bytes; a well-formed one takes a free slot at the back of the intake buffer,
where Band Intake goes on; with four slots occupied it is an overrun, reported, which breaks the entry that is
RECEIVING its version. A frame that fails its check, or whose kind is neither BAND nor CONTROL, is discarded without
trace, and so is a frame whose header gives a body length above 196,626: the parser is in HUNT again and nothing else
has changed. While the link is down nothing is received (log 17). -/
def Obligations.FramesAreTaken : Prop :=
  (∀ (s : State) (half : Bool) (tag : BitVec 16) (body : List Byte), s.link.up = true → s.link.parser = .hunt half →
     body.length ≤ Config.maxBody →
     (s.link.controlQueue.length < 16 →
       exec (.frameArrival (frameBytes 0x02 tag body)) s = .next (State.finish { s with
         link := { s.link with
           parser := .hunt false
           controlQueue := s.link.controlQueue ++ [{ tag := tag, body := body }] } }))
     ∧ (16 ≤ s.link.controlQueue.length →
       exec (.frameArrival (frameBytes 0x02 tag body)) s = .next (State.finish { s with
         link := { s.link with parser := .hunt false } })))
  ∧ (∀ (s : State) (half : Bool) (tag : BitVec 16) (body : List Byte), s.link.up = true → s.link.parser = .hunt half →
       body.length ≤ Config.maxBody →
       let s0 := { s with link := { s.link with parser := .hunt false } }
       let b := bandOf body
       let lost := s0.report
         { kind := .bandDropped, key := some (keyBytes b.key), version := some b.version, cause := some .overrun }
       (bandMalformed body = true → body.length < 4 → exec (.frameArrival (frameBytes 0x01 tag body)) s =
         .next (s0.report { kind := .bandDropped, cause := some .malformed }).finish)
       ∧ (bandMalformed body = true → 4 ≤ body.length → exec (.frameArrival (frameBytes 0x01 tag body)) s =
         .next (s0.report
           { kind := .bandDropped, key := some (body.getD 0 0, body.getD 1 0), version := some (u16At body 2),
             cause := some .malformed }).finish)
       ∧ (bandMalformed body = false → s.intake.buffer.length < 4 → exec (.frameArrival (frameBytes 0x01 tag body)) s =
         .next (State.runIntake { s0 with intake := { s.intake with buffer := s.intake.buffer ++ [b] } }).finish)
       ∧ (bandMalformed body = false → 4 ≤ s.intake.buffer.length →
         ¬ ((s.page b.key).state = .receiving ∧ (s.page b.key).version = b.version) →
         exec (.frameArrival (frameBytes 0x01 tag body)) s = .next lost.finish)
       ∧ (bandMalformed body = false → 4 ≤ s.intake.buffer.length →
         (s.page b.key).state = .receiving → (s.page b.key).version = b.version →
         exec (.frameArrival (frameBytes 0x01 tag body)) s = .next
           ((((lost.breakPage b.key .overrun).abandonHead b.key).wakeIntake).disposeAbandoned).finish))
  ∧ (∀ (s : State) (half : Bool) (kind : Nat) (tag : BitVec 16) (body : List Byte), s.link.parser = .hunt half →
       kind < 256 → body.length ≤ Config.maxBody →
       (s.link.up = true → kind ≠ 1 ∧ kind ≠ 2 →
         exec (.frameArrival (frameBytes kind tag body)) s = .next { s with link := { s.link with parser := .hunt false } })
       ∧ (∀ c : CheckWord, s.link.up = true → c ≠ checkOf (coveredBytes kind tag body) →
         exec (.frameArrival ([0x7B, 0xD4] ++ coveredBytes kind tag body ++ u32 c.toNat)) s =
           .next { s with link := { s.link with parser := .hunt false } })
       ∧ (∀ header : List Byte, s.link.up = true → header.length = 7 → Config.maxBody < u32At header 3 →
         exec (.damagedFrame ([0x7B, 0xD4] ++ header)) s = .next { s with link := { s.link with parser := .hunt false } })
       ∧ (∀ bytes : List Byte, s.link.up = false →
         exec (.frameArrival bytes) s = .next s ∧ exec (.damagedFrame bytes) s = .next s))

/-- Reports offered in order to a queue of at most 256 records: as many as there is room for are appended in that
order, the first with the gap flag as its mark and the others without a mark; the flag is cleared by the first that
enters and set by the first that is discarded. After a reset the queue holds ENGINE_STARTED alone, with no mark and
the flag clear. -/
def Obligations.ReportsEnterInOrder : Prop :=
  (∀ (s : State) (r : Report) (rs : List Report), s.reports.records.length ≤ 256 →
    s.reportAll (r :: rs) = { s with
      reports := { s.reports with
        records := s.reports.records ++ (({ r with gap := s.reports.gapFlag } :: rs.map fun x => { x with gap := false }).take
          (256 - s.reports.records.length))
        gapFlag := decide (256 < s.reports.records.length + (rs.length + 1)) } })
  ∧ State.reset.reports = { records := [{ kind := .engineStarted, gap := false }], gapFlag := false, seq := 0 }

/-! ### Control frames (spec 01) -/

/-- A frame whose body has not the shape of a known command is removed from the queue and answered BAD_FRAME, with the
code as received or 0 for an empty body. A body has the shape of a command exactly when its code is in the table and
the number of its argument bytes is the one the table gives, which for LOAD_PLATE is 17 and 17 for each of one to four
tiles. That BAD_FRAME does nothing on a head that has the shape of a command is log 1's choice. -/
def Obligations.ShapelessFramesAreRefused : Prop :=
  (∀ (s : State) (f : ControlFrame) (rest : List ControlFrame), s.link.reply = none → s.link.controlQueue = f :: rest →
    (commandOf f.body = none → exec .badFrame s = .next (State.finish { s with
      link := { s.link with
        controlQueue := rest
        reply := some { tag := f.tag, code := f.body.headD 0, status := .badFrame, field := 0, data := [] } } }))
    ∧ (commandOf f.body ≠ none → exec .badFrame s = .next s))
  ∧ commandOf [] = none
  ∧ ∀ (code : Byte) (args : List Byte),
      (commandOf (code :: args) = some (code.toNat, args) ∨ commandOf (code :: args) = none)
      ∧ ((commandOf (code :: args)).isSome = true ↔
          (code.toNat, args.length) ∈ [(0x01, 0), (0x02, 0), (0x10, 2), (0x11, 2), (0x12, 2), (0x21, 2), (0x22, 2),
            (0x23, 2), (0x30, 15), (0x31, 1), (0x32, 1), (0x33, 1), (0x34, 1), (0x35, 1), (0x36, 1), (0x40, 21),
            (0x50, 2), (0x51, 2)]
          ∨ code = 0x20 ∧ 17 ≤ args.length ∧ 1 ≤ byteAt args 16 ∧ byteAt args 16 ≤ 4
            ∧ args.length = 17 + 17 * byteAt args 16)

/-- A control command whose frame stands at the head of the queue, with the shape of the command and the REPLY slot
empty, is taken: the frame leaves the queue and exactly one REPLY stands in the slot, with the frame's tag and the
command's code. A field index other than 0 goes with BAD_FIELD alone, and reply data with OK alone. A command that is
refused has no effect but its REPLY. Where the head of the queue is another frame, or none, or the slot is occupied,
the taking does not happen and nothing changes (log 1). -/
def Obligations.TakenFramesAreAnsweredOnce : Prop :=
  ∀ q ∈ replyingCommands, ∀ s : State,
    (∀ (f : ControlFrame) (args : List Byte), s.Offers f q.2 args → commandOf f.body ≠ none →
      ∃ (t : State) (a : Answer), exec q.1 s = .next t
        ∧ t.link.controlQueue = s.link.controlQueue.tail
        ∧ t.link.reply = some { tag := f.tag, code := q.2, status := a.status, field := a.field, data := a.data }
        ∧ (a.status ≠ .badField → a.field = 0) ∧ (a.data ≠ [] → a.status = .ok)
        ∧ (a.status ≠ .ok → t = s.replied f q.2 a))
    ∧ ((∀ (f : ControlFrame) (args : List Byte), s.Offers f q.2 args → commandOf f.body = none) → exec q.1 s = .next s)

/-! ### Pages and bands (spec 02, 03) -/

/-- RELEASE_PAGE of a key: a COMPLETE entry without demand becomes RELEASED, keeps its version and loses its raster,
whose descriptor, held by no exposure, is freed with its strips at the back of the free list, and PAGE_RELEASED is
made; then the REPLY is OK. A COMPLETE entry in demand is refused IN_DEMAND, an entry in another state WRONG_STATE,
and a separation above 3 BAD_FIELD with field index 2. DISCARD_PAGE of a key is refused REFERENCED when a record that
is not FREE has a tile on it, and otherwise carried out. With no band in progress its effect is the entry's alone: it
takes the reset values, its demand count kept, every other entry stays, and the raster's descriptor, held by no
exposure, is freed. With a band of the entry in progress and a row write of it in flight, the band is abandoned
besides; with none in flight, as in WAITING_STRIP, whose stall is ended, it leaves its slot at once and Band Intake
goes on. A head band of another entry, or one that still waits for a descriptor, is left alone. A separation above 3
is refused BAD_FIELD with field index 2. A band whose entry stops receiving its version is abandoned in WRITING and in
WAITING_STRIP, where the stall ends, and in no other phase; no head band of another key is. An abandoned band with no
row write in flight leaves its slot at once, and Band Intake goes on; with one in flight it stays. That for
DISCARD_PAGE the disposal comes after the entry has its reset values is log 11's choice (DEDUCED): R40 lists the
abandonment before the reset. That the next row is 0 after a band has left its slot is log 34's choice. -/
def Obligations.PagesAreReleasedAndDiscarded : Prop :=
  (∀ (s : State) (f : ControlFrame) (k : PageIx),
     (∀ page sep : Byte, s.Offers f 0x10 [page, sep] → 3 < sep.toNat →
       exec .releasePage s = .next (s.replied f 0x10 { status := .badField, field := 2 }))
     ∧ (s.Offers f 0x10 [(keyBytes k).1, (keyBytes k).2] →
       ((s.page k).state = .complete → (s.page k).demand = 0 →
         exec .releasePage s = .next ((s.dropControl.releasePage k).carried f 0x10))
       ∧ ((s.page k).state = .complete → 0 < (s.page k).demand →
         exec .releasePage s = .next (s.replied f 0x10 { status := .inDemand }))
       ∧ ((s.page k).state ≠ .complete →
         exec .releasePage s = .next (s.replied f 0x10 { status := .wrongState })))
     ∧ ∀ d : DescId, (s.page k).raster = some d → (s.store.desc d).expHolds = 0 →
       s.releasePage k = { s with
         pages := s.pages.set k.val { s.page k with state := .released, raster := none }
         store := { s.store with
           free := s.store.free ++ (s.store.desc d).strips
           table := s.store.table.set d.val {} }
         reports := s.reports.offer
           { kind := .pageReleased, key := some (keyBytes k), version := some (s.page k).version } })
  ∧ (∀ (s : State) (f : ControlFrame) (k : PageIx),
       (∀ page sep : Byte, s.Offers f 0x11 [page, sep] → 3 < sep.toNat →
         exec .discardPage s = .next (s.replied f 0x11 { status := .badField, field := 2 }))
       ∧ (s.Offers f 0x11 [(keyBytes k).1, (keyBytes k).2] →
         ((∃ p : Slot, (s.plate p).state ≠ .free ∧ k ∈ (s.plate p).load.keys) →
           exec .discardPage s = .next (s.replied f 0x11 { status := .referenced }))
         ∧ ((∀ p : Slot, k ∈ (s.plate p).load.keys → (s.plate p).state = .free) →
           exec .discardPage s = .next ((s.dropControl.discardPage k).carried f 0x11)))
       ∧ (s.intake.phase = none → (s.page k).raster = none →
         s.discardPage k = { s with pages := s.pages.set k.val { demand := (s.page k).demand } })
       ∧ ∀ d : DescId, (s.page k).raster = some d → (s.store.desc d).expHolds = 0 →
         let freed := { s.store with
           free := s.store.free ++ (s.store.desc d).strips, table := s.store.table.set d.val {} }
         (s.intake.phase = none →
           s.discardPage k = { s with pages := s.pages.set k.val { demand := (s.page k).demand }, store := freed })
         ∧ ∀ (b : Band) (rest : List Band), s.intake.buffer = b :: rest → b.key = k → s.intake.phase = some .writing →
           s.store.writeInFlight = true →
           s.discardPage k = { s with
             pages := s.pages.set k.val { demand := (s.page k).demand }
             store := freed
             intake := { s.intake with phase := some .abandoned } })
  ∧ (∀ (s : State) (k : PageIx) (b : Band) (rest : List Band), s.intake.buffer = b :: rest →
       (b.key = k → s.intake.phase = some .writing →
         s.abandonHead k = { s with intake := { s.intake with phase := some .abandoned } })
       ∧ (b.key = k → s.intake.phase = some .waitingStrip →
         s.abandonHead k = { s with intake := { s.intake with phase := some .abandoned, stall := false } })
       ∧ (b.key ≠ k ∨ (s.intake.phase ≠ some .writing ∧ s.intake.phase ≠ some .waitingStrip) → s.abandonHead k = s)
       ∧ (s.intake.phase = some .abandoned → s.store.writeInFlight = false → s.disposeAbandoned =
         State.runIntake { s with intake := { s.intake with buffer := rest, phase := none, nextRow := 0 } })
       ∧ (s.intake.phase ≠ some .abandoned ∨ s.store.writeInFlight = true → s.disposeAbandoned = s)
       ∧ ∀ d : DescId, (s.page k).raster = some d → (s.store.desc d).expHolds = 0 →
         let emptied : State := { s with
           pages := s.pages.set k.val { demand := (s.page k).demand }
           store := { s.store with
             free := s.store.free ++ (s.store.desc d).strips, table := s.store.table.set d.val {} } }
         (b.key = k → s.intake.phase = some .waitingStrip → s.store.writeInFlight = false →
           s.discardPage k = State.runIntake { emptied with
             intake := { buffer := rest, phase := none, nextRow := 0, stall := false } })
         ∧ (b.key ≠ k ∨ (s.intake.phase ≠ some .writing ∧ s.intake.phase ≠ some .waitingStrip) →
           s.intake.phase ≠ some .abandoned ∨ s.store.writeInFlight = true → s.discardPage k = emptied))

/-- The completion of a band write: its bytes stand at the addressed place, every other byte of plate memory is as it
was; for a band in WRITING the entry's rows received and the band's next row advance by one, and then the next row is
begun, or the band is finished and leaves its slot, after its last-band decision when it carries the last mark; for an
abandoned band the completion changes no entry, and the band leaves its slot. The next row of the head band. A row
that begins a strip takes the strip at the front of the free list, which joins the back of the raster's strip list;
with none free the band waits for a strip, with one MEMORY_STALL report for a stall. The write then asked for
addresses the row's place in its strip, and carries the row's pixels as the band has them and pad bits 0. A waking: a
band that waits for a strip goes on with its row once a strip is free, the stall ended; one that waits for a
descriptor is taken again once one is FREE; else nothing is woken. That a strip position past the raster's strip list
reads as strip 0, which never arises, is log 22's choice. -/
def Obligations.BandWritesComplete : Prop :=
  (∀ (s : State) (w : BandWrite), s.store.inService = some (.write w) → s.store.mem.wf →
     let s0 := { s with store := { s.store with
       mem := s.store.mem.writeBytes w.addr w.bytes, inService := none, handing := true } }
     (∀ t, exec .bandWriteCompletion s = .next t → t.store.mem.wf ∧ ∀ a : Nat,
       t.store.mem.read? a = if w.addr ≤ a ∧ a < w.addr + w.bytes.length then w.bytes[a - w.addr]?
         else s.store.mem.read? a)
     ∧ ∀ (b : Band) (rest : List Band), s.intake.buffer = b :: rest →
       let s1 := { s0 with
         pages := s.pages.set b.key.val { s.page b.key with rows := (s.page b.key).rows + 1 }
         intake := { s.intake with nextRow := s.intake.nextRow + 1 } }
       (s.intake.phase = some .writing → s.intake.nextRow + 1 < b.rows →
         exec .bandWriteCompletion s = .next (s1.startRow b).finish)
       ∧ (s.intake.phase = some .writing → b.rows ≤ s.intake.nextRow + 1 → b.last = false →
         exec .bandWriteCompletion s = .next s1.popHead.runIntake.finish)
       ∧ (s.intake.phase = some .writing → b.rows ≤ s.intake.nextRow + 1 → b.last = true →
         exec .bandWriteCompletion s = .next (s1.lastBandDecision b).popHead.runIntake.finish)
       ∧ (s.intake.phase = some .abandoned → exec .bandWriteCompletion s = .next s0.popHead.runIntake.finish))
  ∧ ((∀ (s : State) (b : Band) (d : DescId), (s.page b.key).raster = some d →
       let row := (s.page b.key).rows
       let r := (s.store.desc d).perStrip
       let requested := fun st : RasterStore =>
         let n := (st.desc d).strips.getD (row / r) 0
         { s with store := st.request (.write
           { desc := d, strip := n, row := row % r, bytes := b.rowOf s.intake.nextRow
             addr := n * 262144 + row % r * (((s.store.desc d).width + 7) / 8) }) }
       let waiting : State := { s with intake := { s.intake with phase := some .waitingStrip, stall := true } }
       (row % r ≠ 0 → s.startRow b = requested s.store)
       ∧ (∀ (n : Nat) (rest : List Nat), row % r = 0 → s.store.free = n :: rest → s.startRow b = requested { s.store with
           free := rest
           table := s.store.table.set d.val { s.store.desc d with strips := (s.store.desc d).strips ++ [n] } })
       ∧ (row % r = 0 → s.store.free = [] → s.intake.stall = true → s.startRow b = waiting)
       ∧ (row % r = 0 → s.store.free = [] → s.intake.stall = false → s.startRow b = waiting.report
           { kind := .memoryStall, key := some (keyBytes b.key), version := some b.version }))
     ∧ (∀ (b : Band) (n : Nat), let size := (b.width + 7) / 8
       1 ≤ b.width → b.payload.length = b.rows * size → n < b.rows → (b.rowOf n).length = size
         ∧ ∀ x, x < 8 * size → ((b.rowOf n).getD (x / 8) 0).getMsbD (x % 8) =
           (decide (x < b.width) && (b.payload.getD (n * size + x / 8) 0).getMsbD (x % 8)))
     ∧ ∀ s : State,
       (∀ (b : Band) (rest : List Band), s.intake.phase = some .waitingStrip → s.intake.buffer = b :: rest →
         s.store.free ≠ [] →
         s.wakeIntake = State.startRow { s with intake := { s.intake with phase := some .writing, stall := false } } b)
       ∧ (s.intake.phase = some .waitingStrip → s.store.free = [] → s.wakeIntake = s)
       ∧ (s.intake.phase = some .waitingDescriptor → s.intake.buffer ≠ [] → (∃ d, (s.store.desc d).state = .free) →
         s.wakeIntake = State.runIntake { s with intake := { s.intake with phase := none } })
       ∧ (s.intake.phase = some .waitingDescriptor → (∀ d, (s.store.desc d).state ≠ .free) → s.wakeIntake = s)
       ∧ (s.intake.phase ≠ some .waitingStrip → s.intake.phase ≠ some .waitingDescriptor → s.wakeIntake = s))

/-- A band of version 0 is dropped MALFORMED, and a band of a version above 0 and below the entry's current version is
dropped STALE, in every state of the entry, which is unchanged. Every BAND_DROPPED report made by the judgement
carries the band's key, its version and the cause: a band that is disposed of at its judgement makes that report and
nothing else, or else it breaks its RECEIVING entry for a gap. -/
def Obligations.OldBandsAreDropped : Prop :=
  ∀ (s : State) (b : Band),
    let dropped := fun c : Cause => s.report
      { kind := .bandDropped, key := some (keyBytes b.key), version := some b.version, cause := some c }
    (b.version = 0 → s.judge b = (dropped .malformed, .disposed))
    ∧ (0 < b.version → b.version < (s.page b.key).version → s.judge b = (dropped .stale, .disposed))
    ∧ ((s.judge b).2 = .disposed → (∃ c, (s.judge b).1 = dropped c)
      ∨ ((s.page b.key).state = .receiving ∧ (s.judge b).1 = s.breakPage b.key .gap))

/-- The judgement of a band of the entry's current version, row by row of the table: it continues a reception at the
expected index, restarts it at index 0, is a duplicate below and a gap above; a COMPLETE entry drops it
ALREADY_COMPLETE; a BROKEN or RELEASED entry begins again at index 0, when a descriptor is free, and drops any other
as ORPHAN. No verdict changes the version, and none touches a plate record. A band of a newer version, or any band
from version 1 up on an EMPTY entry: with an index other than 0 it is dropped ORPHAN; with index 0 it waits while no
descriptor is free and otherwise takes the FREE descriptor of lowest index, in which the entry begins receiving the
version. On an entry of version 0 that is all. On an entry of another version the supersession is raised:
PAGE_SUPERSEDED with both versions, and then the Plate Plan takes it. The raster that the entry had loses the
directory hold: with an exposure hold on it its descriptor stays, RETIRED, its strips and exposure holds kept; with
none it is freed at once, its strips at the back of the free list. -/
def Obligations.BandsAreJudged : Prop :=
  (∀ (s : State) (b : Band), 0 < b.version → b.version = (s.page b.key).version →
     let e := s.page b.key
     let dropped := fun c : Cause => s.report
       { kind := .bandDropped, key := some (keyBytes b.key), version := some b.version, cause := some c }
     (e.state = .receiving → b.index = e.nextBand → s.judge b = (s, .accepted))
     ∧ (∀ d, e.state = .receiving → b.index ≠ e.nextBand → b.index = 0 → e.raster = some d →
       s.judge b = ({ s with
         pages := s.pages.set b.key.val
           { e with nextBand := 0, rows := 0, width := b.width, height := b.height, check := 0xFFFFFFFF#32 }
         store := { s.store with
           free := s.store.free ++ (s.store.desc d).strips
           table := s.store.table.set d.val
             { s.store.desc d with
               width := b.width, height := b.height, perStrip := rowsPerStrip b.width, strips := [] } } }, .accepted))
     ∧ (e.state = .receiving → 0 < b.index → b.index < e.nextBand → s.judge b = (dropped .duplicate, .disposed))
     ∧ (e.state = .receiving → e.nextBand < b.index → b.index ≠ 0 → s.judge b = (s.breakPage b.key .gap, .disposed))
     ∧ (e.state = .complete → s.judge b = (dropped .alreadyComplete, .disposed))
     ∧ (e.state = .broken ∨ e.state = .released → b.index ≠ 0 → s.judge b = (dropped .orphan, .disposed))
     ∧ (e.state = .broken ∨ e.state = .released → b.index = 0 → s.store.firstFree = none → s.judge b = (s, .waits))
     ∧ (∀ d, e.state = .broken ∨ e.state = .released → b.index = 0 → s.store.firstFree = some d →
       s.judge b = ({ s with
         pages := s.pages.set b.key.val
           { e with
             state := .receiving, raster := some d, nextBand := 0, rows := 0, width := b.width, height := b.height,
             check := 0xFFFFFFFF#32, cause := none }
         store := { s.store with
           table := s.store.table.set d.val
             { state := .filling, key := some b.key, version := b.version, width := b.width, height := b.height,
               perStrip := rowsPerStrip b.width, strips := [], dirHold := true, expHolds := 0 } } }, .accepted))
     ∧ (e.state ≠ .empty → ((s.judge b).1.page b.key).version = b.version ∧ (s.judge b).1.plates = s.plates))
  ∧ (∀ (s : State) (b : Band), 0 < b.version →
       (s.page b.key).version < b.version ∨ (s.page b.key).version = b.version ∧ (s.page b.key).state = .empty →
       let e := s.page b.key
       (b.index ≠ 0 → s.judge b = (s.report
         { kind := .bandDropped, key := some (keyBytes b.key), version := some b.version, cause := some .orphan },
         .disposed))
       ∧ (b.index = 0 → s.store.firstFree = none → s.judge b = (s, .waits))
       ∧ ∀ d, b.index = 0 → s.store.firstFree = some d →
         (s.store.desc d).state = .free ∧ (∀ d', (s.store.desc d').state = .free → d ≤ d')
         ∧ let filling : Descriptor :=
             { state := .filling, key := some b.key, version := b.version, width := b.width, height := b.height,
               perStrip := rowsPerStrip b.width, strips := [], dirHold := true, expHolds := 0 }
           let taken := { s.store with table := s.store.table.set d.val filling }
           (∀ old : DescId, old ≠ d → taken.desc old = s.store.desc old)
           ∧ let received := { s with
             store := match e.raster with
               | some old =>
                 if (taken.desc old).expHolds = 0 then
                   { taken with free := taken.free ++ (taken.desc old).strips, table := taken.table.set old.val {} }
                 else
                   { taken with
                     table := taken.table.set old.val { taken.desc old with dirHold := false, state := .retired } }
               | none => taken
             pages := s.pages.set b.key.val
               { e with
                 state := .receiving, version := b.version, raster := some d, nextBand := 0, rows := 0,
                 width := b.width, height := b.height, check := 0xFFFFFFFF#32, cause := none } }
           (e.version = 0 → s.judge b = (received, .accepted))
           ∧ (e.version ≠ 0 → s.judge b =
             (State.supersede (received.report
               { kind := .pageSuperseded, key := some (keyBytes b.key), version := some b.version,
                 oldVersion := some e.version }) b.key b.version, .accepted)))

/-- Band Intake takes the head band that has no verdict yet. By its judgement it waits for a descriptor, with one
MEMORY_STALL report for a stall; or is disposed of and leaves its slot; or is accepted, and leaves its slot at once
when its checks or its last-band decision dispose of it. Then the band behind it is taken. That the next row is 0
after a band has left its slot is log 34's choice. An accepted band meets its checks in order: another size than the
entry's breaks it SIZE_MISMATCH, a first row other than the rows received for a GAP, rows past the declared height
ROW_EXCESS. A band that passes raises the expected index by one, and all its payload goes into the running check, the
check register over the payloads accepted, in order. With rows it begins to be written; without it meets the last-band
decision. The last-band decision: with the rows received equal to the declared height and the check values equal the
page completes: COMPLETE, its descriptor FILLED, PAGE_COMPLETE made, and the readiness of the records with a tile on
the key evaluated in slot order. With the rows equal and the checks different the entry breaks CHECK_MISMATCH, and
with the rows below the height it breaks for a GAP. An entry that breaks is BROKEN with the cause, its version kept,
its raster freed at once with its strips at the back of the free list, PAGE_BROKEN made. -/
def Obligations.LastBandsDecide : Prop :=
  (∀ s : State, s.intake.buffer.length ≤ 4 →
     (s.intake.phase ≠ none ∨ s.intake.buffer = [] → s.runIntake = s)
     ∧ ∀ (b : Band) (rest : List Band), s.intake.phase = none → s.intake.buffer = b :: rest →
       let waiting : State := { s with intake := { s.intake with phase := some .waitingDescriptor, stall := true } }
       let judged := (s.judge b).1
       let going : State := { judged with intake := { judged.intake with stall := false } }
       ((s.judge b).2 = .waits → s.intake.stall = true → s.runIntake = waiting)
       ∧ ((s.judge b).2 = .waits → s.intake.stall = false → s.runIntake = waiting.report
         { kind := .memoryStall, key := some (keyBytes b.key), version := some b.version })
       ∧ ((s.judge b).2 = .disposed → s.runIntake = going.popHead.runIntake)
       ∧ ((s.judge b).2 = .accepted → (going.acceptBand b).2 = true → s.runIntake = (going.acceptBand b).1.popHead.runIntake)
       ∧ ((s.judge b).2 = .accepted → (going.acceptBand b).2 = false → s.runIntake = (going.acceptBand b).1)
       ∧ judged.intake = s.intake
       ∧ s.popHead = { s with intake := { s.intake with buffer := rest, phase := none, nextRow := 0 } })
  ∧ ((∀ (s : State) (b : Band),
       let e := s.page b.key
       let sized := b.width = e.width ∧ b.height = e.height
       let into : State := { s with
         pages := s.pages.set b.key.val { e with nextBand := e.nextBand + 1, check := checkRun e.check b.payload } }
       (¬ sized → s.acceptBand b = (s.breakPage b.key .sizeMismatch, true))
       ∧ (sized → b.firstRow ≠ e.rows → s.acceptBand b = (s.breakPage b.key .gap, true))
       ∧ (sized → b.firstRow = e.rows → e.height < b.firstRow + b.rows →
         s.acceptBand b = (s.breakPage b.key .rowExcess, true))
       ∧ (sized → b.firstRow = e.rows → b.firstRow + b.rows ≤ e.height → b.rows = 0 →
         s.acceptBand b = (into.lastBandDecision b, true))
       ∧ (sized → b.firstRow = e.rows → b.firstRow + b.rows ≤ e.height → 0 < b.rows → s.acceptBand b =
         (State.startRow { into with intake := { s.intake with phase := some .writing, nextRow := 0 } } b, false)))
     ∧ (∀ payloads : List (List Byte), checkValue (payloads.foldl checkRun 0xFFFFFFFF#32) = checkOf payloads.flatten)
     ∧ checkValue 0xFFFFFFFF#32 = 0)
  ∧ (∀ (s : State) (b : Band) (d : DescId), (s.page b.key).raster = some d →
       let e := s.page b.key
       let broken := fun c : Cause => { s with
         pages := s.pages.set b.key.val { e with state := .broken, cause := some c, raster := none }
         store := { s.store with
           free := s.store.free ++ (s.store.desc d).strips, table := s.store.table.set d.val {} }
         reports := s.reports.offer
           { kind := .pageBroken, key := some (keyBytes b.key), version := some e.version, cause := some c } }
       (e.rows = e.height → checkValue e.check = b.check → s.lastBandDecision b =
         ((List.finRange 512).filter fun p => decide (b.key ∈ (s.plate p).load.keys)).foldl State.evaluate { s with
           pages := s.pages.set b.key.val { e with state := .complete }
           store := { s.store with table := s.store.table.set d.val { s.store.desc d with state := .filled } }
           reports := s.reports.offer
             { kind := .pageComplete, key := some (keyBytes b.key), version := some e.version } })
       ∧ (e.rows = e.height → checkValue e.check ≠ b.check → s.lastBandDecision b = broken .checkMismatch)
       ∧ (e.rows ≠ e.height → s.lastBandDecision b = broken .gap)
       ∧ ∀ c : Cause, s.breakPage b.key c = broken c)

/-- A page entry's version never decreases, but by DISCARD_PAGE, POWER_ON and ENGINE_RESET: whatever other command is
taken in whatever state, every entry's version afterwards is at least what it was. -/
def Obligations.VersionsNeverDecrease : Prop :=
  ∀ (c : Instr) (s t : State), c ≠ .discardPage → c ≠ .powerOn → c ≠ .engineReset → exec c s = .next t →
    ∀ k : PageIx, (s.page k).version ≤ (t.page k).version

/-- An offer of demand changes each key's count by the net of what is removed and added, and changes nothing else of
an entry, except where a COMPLETE entry's count falls from 1 or more to 0: that page is RELEASED and its raster
absent. The plate records, the lines and the lists are as they were. By R37 more is never removed than is held; that
the count is 0 where more would be is log 22's choice, which makes the functions total. -/
def Obligations.DemandIsOffered : Prop :=
  ∀ (s : State) (removed added : List PageIx),
    let t := s.offerDemand removed added
    (∀ k : PageIx,
      let e := s.page k
      let n := e.demand + added.count k - removed.count k
      if k ∈ removed ++ added ∧ 1 ≤ e.demand ∧ n = 0 ∧ e.state = .complete then
        t.page k = { e with demand := 0, state := .released, raster := none }
      else t.page k = { e with demand := n })
    ∧ t.plates = s.plates ∧ t.lines = s.lines ∧ t.ready = s.ready ∧ t.intake = s.intake ∧ t.told = s.told
    ∧ t.store.mem = s.store.mem

/-! ### Plate records (spec 04) -/

/-- LOAD_PLATE with arguments of the right length. The first field out of range is named in a BAD_FIELD refusal; then
a record in QUEUED, EXPOSING or EXPOSED refuses PROTECTED, and then a profile that is not present refuses
PROFILE_ABSENT. Otherwise a FREE record is loaded and a record in another state replaced, and the REPLY is OK. The
fields are examined in the order of the tables of R60 and R61, each against its range there, the ten fields of tile
part t being numbered 14 + 10 × (t - 1) + 1 to 14 + 10 × t; without a clip the four clip values are not examined. What
loading a FREE record and replacing a loaded one leave: the loaded fields are the command's; bound versions, line,
place, doom, withdraw mark and last cause are absent and pass is kept; the record is READY, at the back of its class
of the ready list, when every page of its tiles is COMPLETE, and PLANNED, out of the list, otherwise. Every key's
demand has changed by the net of the old demanding references and the new ones (0 where more would be removed than is
held, which never arises, by log 22's choice). No other record is touched. -/
def Obligations.PlatesAreLoaded : Prop :=
  (∀ (s : State) (f : ControlFrame) (args : List Byte), s.Offers f 0x20 args → loadPlateLength args = some args.length →
     let p := slotOperand args
     let x := plateOperand args
     (∀ i, firstBad (plateFields args) = some i →
       exec .loadPlate s = .next (s.replied f 0x20 { status := .badField, field := i }))
     ∧ (firstBad (plateFields args) = none →
       ((s.plate p).state = .queued ∨ (s.plate p).state = .exposing ∨ (s.plate p).state = .exposed →
         exec .loadPlate s = .next (s.replied f 0x20 { status := .isProtected }))
       ∧ ((s.plate p).state ≠ .queued → (s.plate p).state ≠ .exposing → (s.plate p).state ≠ .exposed →
         ((s.profile x.profile).present = false →
           exec .loadPlate s = .next (s.replied f 0x20 { status := .profileAbsent }))
         ∧ ((s.profile x.profile).present = true → (s.plate p).state = .free →
           exec .loadPlate s = .next ((s.dropControl.loadFree p x).carried f 0x20))
         ∧ ((s.profile x.profile).present = true → (s.plate p).state ≠ .free →
           exec .loadPlate s = .next ((s.dropControl.replacePlate p x).carried f 0x20))))
     ∧ (let b := fun n => (args.getD n 0).toNat
       let w := fun n => b n + 256 * b (n + 1)
       let z := fun n => if w n < 32768 then (w n : Int) else w n - 65536
       let fixed : List Prop :=
         [w 0 ≤ 511, 1 ≤ b 2 ∧ b 2 ≤ 255, b 3 ≤ 3, b 4 ≤ 7, 288 ≤ w 5 ∧ w 5 ≤ 40960, 64 ≤ w 7 ∧ w 7 ≤ 32768, b 9 ≤ 31,
           1 ≤ b 10 ∧ b 10 ≤ 9, 1 ≤ b 11 ∧ b 11 ≤ 15, b 12 ≤ 1, b 13 ≤ 1, b 14 ≤ 1, b 15 ≤ 1, 1 ≤ b 16 ∧ b 16 ≤ 4]
       let tile := fun o : Nat =>
         [b o ≤ 255, w (o + 1) < w 5, w (o + 3) < w 7, b (o + 5) ≤ 1, -3000 ≤ z (o + 6) ∧ z (o + 6) ≤ 3000, b (o + 8) ≤ 1,
           b (o + 8) = 1 → w (o + 9) ≤ 24575, b (o + 8) = 1 → w (o + 11) ≤ 32767,
           b (o + 8) = 1 → 1 ≤ w (o + 13) ∧ w (o + 13) ≤ 24576, b (o + 8) = 1 → 1 ≤ w (o + 15) ∧ w (o + 15) ≤ 32768]
       Examines (plateFields args) (fixed ++ (List.range (b 16)).flatMap fun t => tile (17 + 17 * t))))
  ∧ (∀ (s : State) (p : Slot) (x : PlateLoad) (t : State),
       ((s.plate p).state = .free ∧ p ∉ s.ready ∧ t = s.loadFree p x) ∨ t = s.replacePlate p x →
       let old := if (s.plate p).state = .free ∨ (s.plate p).state = .delivered then [] else (s.plate p).load.keys
       let complete := x.keys.all fun k => decide ((t.page k).state = .complete)
       let others := s.ready.filter fun q => decide (q ≠ p)
       (t.plate p = { state := if complete then .ready else .planned, load := x, pass := (s.plate p).pass })
       ∧ (∀ q : Slot, q ≠ p → t.plate q = s.plate q)
       ∧ (∀ k : PageIx, (t.page k).demand = (s.page k).demand + x.keys.count k - old.count k)
       ∧ (complete = false → t.ready = others ∧ t.told = s.told)
       ∧ (complete = true → t.told = true
         ∧ (x.priority = .normal → t.ready = others ++ [p])
         ∧ (x.priority = .urgent → t.ready = others.takeWhile s.urgent ++ p :: others.dropWhile s.urgent)))

/-- LOAD_PLATE and QUERY_PLATE agree byte by byte: of a LOAD_PLATE whose fields are all in range, with the clip values
of every tile without a clip sent as 0, the record loaded, and every record with that load, is shown by QUERY_PLATE
with the command's own bytes: in bytes 1 to 15 its fields 2 to 14 with the tile count, and from byte 34 on its tile
parts. -/
def Obligations.LoadedPlatesReadBack : Prop :=
  ∀ args : List Byte, loadPlateLength args = some args.length → firstBad (plateFields args) = none →
    (∀ t < byteAt args 16, byteAt (tilePart args t) 8 = 0 → (tilePart args t).drop 9 = List.replicate 8 0) →
    u16 (slotOperand args).val = args.take 2
    ∧ ∀ r q : PlateRecord, q = r.loaded (plateOperand args) ∨ q.load = plateOperand args →
      (q.encode.drop 1).take 15 = (args.drop 2).take 15 ∧ q.encode.drop 34 = args.drop 17

/-- DROP_PLATE of a slot: a FREE record is refused NOT_LOADED, an EXPOSING or EXPOSED one PROTECTED, a slot above 511
BAD_FIELD with field index 1; any other is dropped. A drop leaves the record FREE with the values of R58 and its pass,
out of the ready list and of its line's queue, removes its demand, which a DELIVERED record has none of, and touches
no other record. That a DRAINING line is tested at the removal, before the demand's reports, is log 28's choice, and
that a demand of which more would be removed than is held is 0, which never arises, log 22's. REMAKE_PLATE of a slot:
a DELIVERED, OBSOLETE or SPOILED record is remade, for a DELIVERED one after its demand has been raised; any other is
refused WRONG_STATE, and a slot above 511 BAD_FIELD with field index 1. A remade record keeps its loaded fields, its
pass and its last cause; bound versions, line, place, doom and withdraw mark are absent; it is READY at the back of
its class and the Dispatcher told when every page of its tiles is COMPLETE, and PLANNED otherwise. A record that is
spoiled takes the cause as its last cause, with doom, line and withdraw mark absent and its bound versions and pass
kept; no demand changes. A record of remake MANUAL stays SPOILED; a record of remake AUTO is remade at once, keeping
its last cause. -/
def Obligations.PlatesAreDroppedAndRemade : Prop :=
  (∀ (s : State) (f : ControlFrame) (p : Slot),
     (∀ a b : Byte, s.Offers f 0x21 [a, b] → 511 < a.toNat + 256 * b.toNat →
       exec .dropPlate s = .next (s.replied f 0x21 { status := .badField, field := 1 }))
     ∧ (s.Offers f 0x21 (u16 p.val) →
       ((s.plate p).state = .free → exec .dropPlate s = .next (s.replied f 0x21 { status := .notLoaded }))
       ∧ ((s.plate p).state = .exposing ∨ (s.plate p).state = .exposed →
         exec .dropPlate s = .next (s.replied f 0x21 { status := .isProtected }))
       ∧ ((s.plate p).state ≠ .free → (s.plate p).state ≠ .exposing → (s.plate p).state ≠ .exposed →
         exec .dropPlate s = .next ((s.dropControl.dropPlate p).carried f 0x21)))
     ∧ (let t := s.dropPlate p
       let old := if (s.plate p).state = .free ∨ (s.plate p).state = .delivered then [] else (s.plate p).load.keys
       t.plate p = { pass := (s.plate p).pass }
       ∧ (∀ q : Slot, q ≠ p → t.plate q = s.plate q)
       ∧ (∀ k : PageIx, (t.page k).demand = (s.page k).demand - old.count k)
       ∧ ((s.plate p).state = .ready → t.ready = s.ready.filter fun q => decide (q ≠ p))
       ∧ ∀ l : LineId, (s.plate p).state = .queued → (s.plate p).line = some l → t.told = true
         ∧ (t.line l).queue = (s.line l).queue.filter fun q => decide (q ≠ p)))
  ∧ (∀ (s : State) (f : ControlFrame) (p : Slot),
       (∀ a b : Byte, s.Offers f 0x22 [a, b] → 511 < a.toNat + 256 * b.toNat →
         exec .remakePlate s = .next (s.replied f 0x22 { status := .badField, field := 1 }))
       ∧ (s.Offers f 0x22 (u16 p.val) →
         ((s.plate p).state = .delivered → exec .remakePlate s =
           .next (((s.dropControl.offerDemand [] (s.plate p).load.keys).remake p).carried f 0x22))
         ∧ ((s.plate p).state = .obsolete ∨ (s.plate p).state = .spoiled →
           exec .remakePlate s = .next ((s.dropControl.remake p).carried f 0x22))
         ∧ ((s.plate p).state ≠ .delivered → (s.plate p).state ≠ .obsolete → (s.plate p).state ≠ .spoiled →
           exec .remakePlate s = .next (s.replied f 0x22 { status := .wrongState })))
       ∧ (s.remake p).plate p =
           { s.plate p with
             state := if (s.plate p).load.keys.all fun k => decide ((s.page k).state = .complete) then .ready else .planned
             bound := none, line := none, place := none, doom := none, withdraw := false }
       ∧ (∀ q : Slot, q ≠ p → (s.remake p).plate q = s.plate q) ∧ (s.remake p).pages = s.pages
       ∧ (let complete := (s.plate p).load.keys.all fun k => decide ((s.page k).state = .complete)
         (s.remake p).told = (s.told || complete)
         ∧ (s.remake p).ready = if complete = false then s.ready
           else if (s.plate p).load.priority = .urgent then s.ready.takeWhile s.urgent ++ p :: s.ready.dropWhile s.urgent
           else s.ready ++ [p]))
  ∧ (∀ (s : State) (p : Slot) (c : Cause),
       (s.spoil p c).pages = s.pages ∧ (s.spoil p c).lines = s.lines
       ∧ (∀ q : Slot, q ≠ p → (s.spoil p c).plate q = s.plate q)
       ∧ ((s.plate p).load.remake = .manual → (s.spoil p c).plate p =
           { s.plate p with state := .spoiled, lastCause := some c, doom := none, line := none, withdraw := false }
         ∧ (s.spoil p c).ready = s.ready ∧ (s.spoil p c).told = s.told)
       ∧ ((s.plate p).load.remake = .auto → (s.spoil p c).plate p =
           { state := if (s.plate p).load.keys.all fun k => decide ((s.page k).state = .complete) then .ready else .planned
             load := (s.plate p).load, pass := (s.plate p).pass, lastCause := some c }))

/-- ENGINE_INFO is answered OK in every state with nine bytes: the number of fitted lines, and then two bytes each for
the number of strips in the free list, the number of FREE raster descriptors, the length of the ready list and the
number of records in the Report Queue, all as they are when the command is taken. It makes no report and changes
nothing. The queries show entries as they stand when they are taken, and change nothing: QUERY_PAGE the 21 bytes of
the entry, QUERY_PLATE 34 bytes and 17 for each tile of the record, QUERY_LINE 94 bytes of the line. Every field
stands at its offset in the tables, absent ones as 0 (with no exposure in flight the slot and the begin answered byte
are 0 by log 32's choice). A separation above 3 is refused BAD_FIELD with field index 2, a slot above 511 or a line
above 3 with field index 1. -/
def Obligations.QueriesShowTheState : Prop :=
  (∀ (s : State) (f : ControlFrame), s.Offers f 0x02 [] →
     exec .engineInfo s = .next (s.replied f 0x02
       { status := .ok
         data := u8 (allLines.countP fun l => (s.line l).fitted) ++ u16 s.store.free.length
           ++ u16 (s.store.table.toList.countP fun d => decide (d.state = .free)) ++ u16 s.ready.length
           ++ u16 s.reports.records.length }))
  ∧ (∀ (s : State) (f : ControlFrame) (k : PageIx) (p : Slot) (l : LineId),
       (s.Offers f 0x12 [(keyBytes k).1, (keyBytes k).2] →
         exec .queryPage s = .next (s.replied f 0x12 { data := (s.page k).encode }))
       ∧ (s.Offers f 0x23 (u16 p.val) → exec .queryPlate s = .next (s.replied f 0x23 { data := (s.plate p).encode }))
       ∧ (s.Offers f 0x36 (u8 l.val) → exec .queryLine s = .next (s.replied f 0x36 { data := (s.line l).encode }))
       ∧ (∀ a b : Byte, s.Offers f 0x12 [a, b] → 3 < b.toNat →
         exec .queryPage s = .next (s.replied f 0x12 { status := .badField, field := 2 }))
       ∧ (∀ a b : Byte, s.Offers f 0x23 [a, b] → 511 < a.toNat + 256 * b.toNat →
         exec .queryPlate s = .next (s.replied f 0x23 { status := .badField, field := 1 }))
       ∧ (∀ a : Byte, s.Offers f 0x36 [a] → 3 < a.toNat →
         exec .queryLine s = .next (s.replied f 0x36 { status := .badField, field := 1 }))
       ∧ (let d := (s.page k).encode
         let e := s.page k
         d.length = 21 ∧ byteAt d 0 = e.state.code ∧ u16At d 1 = e.version % 65536
         ∧ byteAt d 3 = e.raster.isSome.toNat ∧ u16At d 4 = (e.raster.map Fin.val).getD 0
         ∧ u16At d 6 = e.nextBand % 65536 ∧ u16At d 8 = e.rows % 65536 ∧ u16At d 10 = e.width % 65536
         ∧ u16At d 12 = e.height % 65536 ∧ u32At d 14 = (checkValue e.check).toNat ∧ u16At d 18 = e.demand % 65536
         ∧ byteAt d 20 = (e.cause.map Cause.code).getD 0)
       ∧ (let d := (s.plate p).encode
         let r := s.plate p
         let x := r.load
         d.length = 34 + 17 * x.tiles.length ∧ byteAt d 0 = r.state.code
         ∧ byteAt d 1 = x.edition % 256 ∧ byteAt d 2 = x.color.val ∧ byteAt d 3 = x.sizeClass % 256
         ∧ u16At d 4 = x.width % 65536 ∧ u16At d 6 = x.height % 65536 ∧ byteAt d 8 = x.profile.val
         ∧ byteAt d 9 = x.dest.val ∧ byteAt d 10 = x.mask % 256 ∧ byteAt d 11 = (decide (x.priority = .urgent)).toNat
         ∧ byteAt d 12 = x.holdAfter.toNat ∧ byteAt d 13 = (decide (x.action = .abort)).toNat
         ∧ byteAt d 14 = (decide (x.remake = .manual)).toNat ∧ byteAt d 15 = x.tiles.length % 256
         ∧ byteAt d 16 = r.pass % 256
         ∧ byteAt d 17 = r.line.isSome.toNat ∧ byteAt d 18 = (r.line.map Fin.val).getD 0
         ∧ byteAt d 19 = (r.doom.map fun x => x.cause.code).getD 0 ∧ byteAt d 20 = r.withdraw.toNat
         ∧ byteAt d 21 = r.place.isSome.toNat ∧ byteAt d 22 = (r.place.map fun q => q.1.val).getD 0
         ∧ byteAt d 23 = (r.place.map fun q => q.2.val).getD 0 ∧ byteAt d 24 = (r.lastCause.map Cause.code).getD 0
         ∧ byteAt d 25 = r.bound.isSome.toNat
         ∧ (∀ i < 4, u16At d (26 + 2 * i) = (r.bound.getD []).getD i 0 % 65536)
         ∧ ∀ (i : Nat) (t : Tile), x.tiles[i]? = some t →
           byteAt d (34 + 17 * i) = t.page.val ∧ u16At d (35 + 17 * i) = t.originX % 65536
           ∧ u16At d (37 + 17 * i) = t.originY % 65536 ∧ byteAt d (39 + 17 * i) = (decide (t.turn = .inverted)).toNat
           ∧ (u16At d (40 + 17 * i) : Int) = t.scale % 65536 ∧ byteAt d (42 + 17 * i) = t.clip.isSome.toNat
           ∧ u16At d (43 + 17 * i) = (t.clip.map Clip.cx).getD 0 % 65536
           ∧ u16At d (45 + 17 * i) = (t.clip.map Clip.cy).getD 0 % 65536
           ∧ u16At d (47 + 17 * i) = (t.clip.map Clip.cw).getD 0 % 65536
           ∧ u16At d (49 + 17 * i) = (t.clip.map Clip.ch).getD 0 % 65536)
       ∧ (let d := (s.line l).encode
         let ln := s.line l
         d.length = 94 ∧ byteAt d 0 = ln.mode.code ∧ byteAt d 1 = (ln.faultCause.map Cause.code).getD 0
         ∧ byteAt d 2 = ln.fitted.toNat ∧ byteAt d 3 = ln.unitReady.toNat ∧ byteAt d 4 = ln.stock.getD 255 % 256
         ∧ byteAt d 5 = ln.unitLocal.toNat ∧ byteAt d 6 = ln.config.expected.getD 8 % 256
         ∧ byteAt d 7 = ln.config.tPb % 256 ∧ byteAt d 8 = ln.config.tSo % 256 ∧ byteAt d 9 = ln.config.tSetup % 256
         ∧ byteAt d 10 = ln.stationProfile.isSome.toNat ∧ byteAt d 11 = (ln.stationProfile.map Fin.val).getD 0
         ∧ byteAt d 12 = ln.queue.length % 256 ∧ (∀ i < 8, u16At d (13 + 2 * i) = (ln.queue.map Fin.val).getD i 0)
         ∧ byteAt d 29 = ln.exposure.isSome.toNat ∧ u16At d 30 = (ln.exposure.map fun c => c.slot.val).getD 0
         ∧ byteAt d 32 = ((ln.exposure.map Exposure.answered).getD false).toNat
         ∧ byteAt d 33 = ln.transit.length % 256
         ∧ (∀ (i : Nat) (e : TransitEntry), i < 6 → ln.transit[i]? = some e →
             u16At d (34 + 5 * i) = e.slot.val ∧ byteAt d (36 + 5 * i) = e.stage.code
             ∧ (e.route = .deliver → byteAt d (37 + 5 * i) = 0 ∧ byteAt d (38 + 5 * i) = 0)
             ∧ ∀ c, e.route = .reject c → byteAt d (37 + 5 * i) = 1 ∧ byteAt d (38 + 5 * i) = c.code)
         ∧ (∀ i < 6, ln.transit[i]? = none → ∀ j < 5, byteAt d (34 + 5 * i + j) = 0)
         ∧ ∀ b : BinId, byteAt d (64 + 3 * b.val) = (ln.bin b).count % 256
           ∧ byteAt d (65 + 3 * b.val) = (ln.bin b).capacity % 256 ∧ byteAt d (66 + 3 * b.val) = (ln.bin b).closed.toNat)
       ∧ ([.empty, .receiving, .complete, .broken, .released] : List PageState).map PageState.code = [0, 1, 2, 3, 4]
       ∧ ([.free, .planned, .ready, .queued, .exposing, .exposed, .delivered, .obsolete, .spoiled] : List PlateState).map
         PlateState.code = [0, 1, 2, 3, 4, 5, 6, 7, 8]
       ∧ ([.stopped, .running, .pausing, .paused, .held, .draining, .faulted] : List LineMode).map LineMode.code =
         [0x20, 0x21, 0x22, 0x23, 0x24, 0x25, 0x26]
       ∧ ∀ (step : PunchStep) (b : BinId), ([.toPunch, .atPunch step, .toSorter, .atSorter b, .waitingBin] : List Stage).map
         Stage.code = [0, 1, 2, 3, 4])

/-! ### Supersession (spec 05) -/

/-- A supersession changes nothing for a record that is FREE, PLANNED, OBSOLETE or SPOILED. A READY record leaves the
ready list and is PLANNED, with no report. A QUEUED record leaves its line's queue and is PLANNED with its line
absent, PLATE_UNQUEUED is made, and the line is tested for the end of its draining: right after that record's report,
which is log 28's choice. The Dispatcher is told of the last two. A supersession of a DELIVERED record by version w of
key k: it becomes OBSOLETE with last cause OBSOLETE, its bound versions and place kept; PLATE_OBSOLETE is made with
the slot, the key, the version and the place's line and bin; demand is offered on each tile's key; and a record of
remake AUTO is remade. -/
def Obligations.IdleRecordsAreSuperseded : Prop :=
  (∀ (s : State) (k : PageIx) (w : Nat) (p : Slot),
     let t := State.supersedeOne k w s p
     ((s.plate p).state = .free ∨ (s.plate p).state = .planned ∨ (s.plate p).state = .obsolete
       ∨ (s.plate p).state = .spoiled → t = s)
     ∧ ((s.plate p).state = .ready → t = { s with
         ready := s.ready.filter fun q => decide (q ≠ p)
         plates := s.plates.set p.val { s.plate p with state := .planned }
         told := true })
     ∧ ∀ l : LineId, (s.plate p).state = .queued → (s.plate p).line = some l → t = State.drainTest { s with
         lines := s.lines.set l.val { s.line l with queue := (s.line l).queue.filter fun q => decide (q ≠ p) }
         plates := s.plates.set p.val { s.plate p with state := .planned, line := none }
         reports := s.reports.offer { kind := .plateUnqueued, slot := some p, line := some l }
         told := true } l)
  ∧ (∀ (s : State) (k : PageIx) (w : Nat) (p : Slot), (s.plate p).state = .delivered →
       let u := State.offerDemand { s with
         plates := s.plates.set p.val { s.plate p with state := .obsolete, lastCause := some .obsolete }
         reports := s.reports.offer
           { kind := .plateObsolete, slot := some p, key := some (keyBytes k), version := some w,
             line := (s.plate p).place.map Prod.fst, bin := (s.plate p).place.map Prod.snd } } [] (s.plate p).load.keys
       ((s.plate p).load.remake = .manual → State.supersedeOne k w s p = u)
       ∧ ((s.plate p).load.remake = .auto → State.supersedeOne k w s p = u.remake p))

/-- A supersession of a record being imaged: with the begin unanswered the withdraw mark is set and nothing else
changes; with the begin accepted the doom becomes OBSOLETE unless one is set, and under ABORT, unless the abort has
been sent, EXPOSE_ABORT is sent and the feed buffer flushed, while under FINISH nothing more is done. No report is
made. A supersession of a record in transit: its doom becomes OBSOLETE unless one is set. An entry not yet routed by
SO_ROUTE, of route DELIVER, is turned to REJECT with cause OBSOLETE, its stage and deadline unchanged. An entry
already routed keeps its route, and so does one already REJECT. No report is made. A supersession deals with every
record that has a tile on the key, in ascending slot order; then, on each line where it has turned a waiting plate,
the waiting plates are tried for room, so that they are taken oldest first (log 31). On such a line, not FAULTED and
its entries of different slots, no plate is left waiting for a bin that has room. -/
def Obligations.WorkingRecordsAreSuperseded : Prop :=
  (∀ (s : State) (k : PageIx) (w : Nat) (p : Slot) (l : LineId) (c : Exposure),
     (s.plate p).state = .exposing → (s.plate p).line = some l → (s.line l).exposure = some c →
     let t := State.supersedeOne k w s p
     let doomed := s.plates.set p.val { s.plate p with doom := some ((s.plate p).doom.getD .obsolete) }
     (c.answered = false → t = { s with plates := s.plates.set p.val { s.plate p with withdraw := true } })
     ∧ (c.answered = true → (s.plate p).load.action = .finish ∨ c.abortSent = true → t = { s with plates := doomed })
     ∧ (c.answered = true → (s.plate p).load.action = .abort → c.abortSent = false → t = { s with
         plates := doomed
         lines := s.lines.set l.val { s.line l with exposure := some { c with abortSent := true }, feed := [] }
         out := s.out ++ [.station l .exposeAbort] }))
  ∧ (∀ (s : State) (k : PageIx) (w : Nat) (p : Slot) (l : LineId) (e : TransitEntry),
       (s.plate p).state = .exposed → (s.plate p).line = some l → (s.line l).entryOf p = some e →
       let t := State.supersedeOne k w s p
       let doomed := s.plates.set p.val { s.plate p with doom := some ((s.plate p).doom.getD .obsolete) }
       let turned := { s with
         plates := doomed
         lines := s.lines.set l.val { s.line l with
           transit := (s.line l).transit.map fun x => if x.slot = p then { x with route := .reject .obsolete } else x } }
       ((∃ b, e.stage = .atSorter b) ∨ e.route ≠ .deliver → t = { s with plates := doomed })
       ∧ (e.route = .deliver → (∀ b, e.stage ≠ .atSorter b) → t = turned))
  ∧ (∀ (s : State) (k : PageIx) (w : Nat),
       let turns := fun l : LineId =>
         ∃ e ∈ (s.line l).transit, e.stage = .waitingBin ∧ e.route = .deliver ∧ k ∈ (s.plate e.slot).load.keys
       s.supersede k w = (([0, 1, 2, 3] : List LineId).filter fun l => decide (turns l)).foldl State.routeWaiting
         (((List.finRange 512).filter fun p => decide (k ∈ (s.plate p).load.keys)).foldl (State.supersedeOne k w) s)
       ∧ ∀ l : LineId, turns l → (s.line l).mode ≠ .faulted → ((s.line l).transit.map TransitEntry.slot).Nodup →
         ∀ e ∈ ((s.supersede k w).line l).transit, e.stage = .waitingBin →
           ((s.supersede k w).line l).hasRoom ((s.supersede k w).targetBin e) = false)

/-! ### The Dispatcher and the lines (spec 06) -/

/-- A walk examines each record of the ready list and places it on the eligible line of the lowest load, the
lowest-numbered among equals, where it becomes QUEUED, out of the ready list, URGENT ahead of the first NORMAL entry
and behind the URGENT ones and NORMAL at the back, with PLATE_QUEUED made; without an eligible line it stays. After
the walk no record of the list has an eligible line. -/
def Obligations.WalkPlacesEveryRecord : Prop :=
  (∀ (s : State) (p : Slot) (l : LineId), s.eligible p l = true →
    (∀ l', s.eligible p l' = true → (s.line l).load < (s.line l').load ∨ (s.line l).load = (s.line l').load ∧ l ≤ l') →
    s.walkOne p = { s with
      ready := s.ready.filter fun q => decide (q ≠ p)
      plates := s.plates.set p.val { s.plate p with state := .queued, line := some l }
      lines := s.lines.set l.val { s.line l with queue := (s.walkOne p |>.line l).queue }
      reports := s.reports.offer { kind := .plateQueued, slot := some p, line := some l } }
    ∧ (s.urgent p = false → ((s.walkOne p).line l).queue = (s.line l).queue ++ [p])
    ∧ (∀ us ns : List Slot, s.urgent p = true → (s.line l).queue = us ++ ns → (∀ q ∈ us, s.urgent q = true) →
      (∀ q ∈ ns, s.urgent q = false) → ((s.walkOne p).line l).queue = us ++ p :: ns))
  ∧ (∀ (s : State) (p : Slot), (∀ l, s.eligible p l = false) → s.walkOne p = s)
  ∧ (∀ s : State, s.walk = s.ready.foldl State.walkOne s)
  ∧ ∀ s : State, ∀ p ∈ s.walk.ready, ∀ l : LineId, s.walk.eligible p l = false

/-- A line is eligible for a record exactly when the record's mask names it, its port is fitted, it is RUNNING,
PAUSING, PAUSED or HELD, the unit's stock class is known and equals the record's size class, the line's expected size
class is ANY or equals it too, and its queue holds fewer than 8 entries. -/
def Obligations.EligibilityHasSixConditions : Prop :=
  ∀ (s : State) (p : Slot) (l : LineId), s.eligible p l = true ↔
    (s.plate p).load.mask.testBit l.val = true
    ∧ (s.line l).fitted = true
    ∧ ((s.line l).mode = .running ∨ (s.line l).mode = .pausing ∨ (s.line l).mode = .paused ∨ (s.line l).mode = .held)
    ∧ (s.line l).stock = some (s.plate p).load.sizeClass
    ∧ ((s.line l).config.expected = none ∨ (s.line l).config.expected = some (s.plate p).load.sizeClass)
    ∧ (s.line l).queue.length < 8

/-- Records returned from a line's queue keep their queue order within each class: the URGENT ones stand at the front
of the ready list's URGENT class and the NORMAL ones at the front of its NORMAL class. Each is READY with its line
absent, none is left in the queue, and PLATE_UNQUEUED is made for each in queue order. The Dispatcher is told. -/
def Obligations.ReturnsKeepTheirOrder : Prop :=
  ∀ (s : State) (l : LineId) (ps us ns : List Slot), ps ≠ [] → s.ready = us ++ ns → (∀ q ∈ us, s.urgent q = true) →
    (∀ q ∈ ns, s.urgent q = false) →
    let t := s.returnEntries l ps
    t.ready = ps.filter s.urgent ++ us ++ ((ps.filter fun q => !s.urgent q) ++ ns)
    ∧ (∀ p : Slot, t.plate p = if p ∈ ps then { s.plate p with state := .ready, line := none } else s.plate p)
    ∧ t.lines = s.lines.set l.val { s.line l with queue := (s.line l).queue.filter fun q => decide (q ∉ ps) }
    ∧ t.reports = (ps.map fun p => ({ kind := .plateUnqueued, slot := some p, line := some l } : Report)).foldl
        ReportQueue.offer s.reports
    ∧ t.told = true

/-- A fault event on a line that is not FAULTED: the line is FAULTED with the event's cause, every deadline of its
transit list is stopped, LINE_FAULT and then LINE_STATE are made, its queue is returned to the ready list, and the
Dispatcher is told. The exposure in flight is not touched. On a FAULTED line the event makes its LINE_FAULT report and
nothing else. -/
def Obligations.FaultsStopTheLine : Prop :=
  ∀ (s : State) (l : LineId) (c : Cause) (p : Option Slot),
    ((s.line l).mode = .faulted → s.faultLine l c p =
      s.report { kind := .lineFault, line := some l, slot := p, cause := some c })
    ∧ ((s.line l).mode ≠ .faulted → s.faultLine l c p = (State.returnEntries { s with
        lines := s.lines.set l.val { s.line l with
          mode := .faulted, faultCause := some c
          transit := (s.line l).transit.map fun e => { e with deadline := none } }
        reports := (s.reports.offer { kind := .lineFault, line := some l, slot := p, cause := some c }).offer
          { kind := .lineState, line := some l, cause := some (.lineState .faulted) } } l (s.line l).queue).tell
      ∧ (s.faultLine l c p).line l = { s.line l with
          mode := .faulted, faultCause := some c, queue := []
          transit := (s.line l).transit.map fun e => { e with deadline := none } }
      ∧ ∀ l' : LineId, l' ≠ l → (s.faultLine l c p).line l' = s.line l')

/-- LINE_CONFIG is refused WRONG_STATE on a line that is not STOPPED; on a STOPPED line its first field out of range
is named in a BAD_FIELD refusal, and nothing is set. That the state is examined before fields 2 to 15 is log 29's
choice. Otherwise every field takes effect, 8 being ANY: deadlines already running, counts, closed flags and all else
of the line stay. BIN_FULL is made for each bin that was not full and is full now, in bin order, and waiting plates
are tried for room. The ranges are those of the table of R113, in its order. -/
def Obligations.LineConfigAnswers : Prop :=
  ∀ (s : State) (f : ControlFrame) (args : List Byte) (l : LineId), s.Offers f 0x30 args → args.length = 15 →
    byteAt args 0 = l.val →
    let after := { s.line l with
      config :=
        { expected := if byteAt args 1 = 8 then none else some (byteAt args 1)
          tPb := byteAt args 2, tSo := byteAt args 3, tSetup := byteAt args 4 }
      bins := Vector.ofFn fun b : BinId => { (s.line l).bin b with capacity := byteAt args (5 + b.val) } }
    let newlyFull := (List.finRange 10).filter fun b : BinId =>
      decide (((s.line l).bin b).count < ((s.line l).bin b).capacity ∧ byteAt args (5 + b.val) ≤ ((s.line l).bin b).count)
    ((s.line l).mode ≠ .stopped → exec .lineConfig s = .next (s.replied f 0x30 { status := .wrongState }))
    ∧ (∀ i, (s.line l).mode = .stopped → firstBad (configFields args) = some i →
      exec .lineConfig s = .next (s.replied f 0x30 { status := .badField, field := i }))
    ∧ ((s.line l).mode = .stopped → firstBad (configFields args) = none →
      exec .lineConfig s = .next (State.carried (State.routeWaiting { s.dropControl with
        lines := s.lines.set l.val after
        reports := (newlyFull.map fun b => ({ kind := .binFull, line := some l, bin := some b } : Report)).foldl
          ReportQueue.offer s.reports } l) f 0x30))
    ∧ (let b := fun n => (args.getD n 0).toNat
      Examines (configFields args)
        ([b 0 ≤ 3, b 1 ≤ 8, 5 ≤ b 2 ∧ b 2 ≤ 250, 5 ≤ b 3 ∧ b 3 ≤ 250, 5 ≤ b 4 ∧ b 4 ≤ 120]
          ++ (List.range 10).map fun i => 1 ≤ b (5 + i) ∧ b (5 + i) ≤ 60))

/-- LINE_START: on a STOPPED, PAUSING, PAUSED, HELD or DRAINING line that is fitted the line becomes RUNNING with its
LINE_STATE report, and a start is decided at once if its conditions hold; on a RUNNING line it is answered OK and
changes nothing; on a FAULTED line, or one not fitted, it is refused WRONG_STATE. LINE_PAUSE: a RUNNING line with an
exposure in flight becomes PAUSING and one without becomes PAUSED, with its LINE_STATE report; on a PAUSING, PAUSED or
HELD line it is answered OK and changes nothing; on a STOPPED, DRAINING or FAULTED line it is refused WRONG_STATE.
LINE_DRAIN: a RUNNING, PAUSING, PAUSED or HELD line becomes DRAINING; with an empty queue and no exposure in flight it
becomes STOPPED in the same event, with a LINE_STATE report for each change, and otherwise a start is decided if its
conditions hold. On a STOPPED or DRAINING line it is answered OK and changes nothing; on a FAULTED line it is refused
WRONG_STATE. A line command that names a line above 3 is refused BAD_FIELD with field index 1, whatever its other
fields. -/
def Obligations.LinesStartPauseAndDrain : Prop :=
  (∀ (s : State) (f : ControlFrame) (l : LineId), s.Offers f 0x31 (u8 l.val) →
     ((s.line l).fitted = true → (s.line l).mode ≠ .faulted → (s.line l).mode ≠ .running →
       exec .lineStart s = .next (State.carried (State.startTest { s.dropControl with
         lines := s.lines.set l.val { s.line l with mode := .running }
         reports := s.reports.offer { kind := .lineState, line := some l, cause := some (.lineState .running) }
         told := true } l) f 0x31))
     ∧ ((s.line l).fitted = true → (s.line l).mode = .running → exec .lineStart s = .next (s.replied f 0x31 {}))
     ∧ ((s.line l).fitted = false ∨ (s.line l).mode = .faulted →
       exec .lineStart s = .next (s.replied f 0x31 { status := .wrongState })))
  ∧ (∀ (s : State) (f : ControlFrame) (l : LineId), s.Offers f 0x32 (u8 l.val) →
       let m : LineMode := if (s.line l).exposure = none then .paused else .pausing
       ((s.line l).mode = .running → exec .linePause s = .next (State.carried { s.dropControl with
         lines := s.lines.set l.val { s.line l with mode := m }
         reports := s.reports.offer { kind := .lineState, line := some l, cause := some (.lineState m) }
         told := true } f 0x32))
       ∧ ((s.line l).mode = .pausing ∨ (s.line l).mode = .paused ∨ (s.line l).mode = .held →
         exec .linePause s = .next (s.replied f 0x32 {}))
       ∧ ((s.line l).mode = .stopped ∨ (s.line l).mode = .draining ∨ (s.line l).mode = .faulted →
         exec .linePause s = .next (s.replied f 0x32 { status := .wrongState })))
  ∧ (∀ (s : State) (f : ControlFrame) (l : LineId), s.Offers f 0x33 (u8 l.val) →
       let draining : Report := { kind := .lineState, line := some l, cause := some (.lineState .draining) }
       let stopped : Report := { kind := .lineState, line := some l, cause := some (.lineState .stopped) }
       ((s.line l).mode = .running ∨ (s.line l).mode = .pausing ∨ (s.line l).mode = .paused ∨ (s.line l).mode = .held →
         ((s.line l).queue = [] → (s.line l).exposure = none → exec .lineDrain s = .next (State.carried { s.dropControl with
           lines := s.lines.set l.val { s.line l with mode := .stopped }
           reports := (s.reports.offer draining).offer stopped
           told := true } f 0x33))
         ∧ ((s.line l).queue ≠ [] ∨ (s.line l).exposure ≠ none →
           exec .lineDrain s = .next (State.carried (State.startTest { s.dropControl with
             lines := s.lines.set l.val { s.line l with mode := .draining }
             reports := s.reports.offer draining
             told := true } l) f 0x33)))
       ∧ ((s.line l).mode = .stopped ∨ (s.line l).mode = .draining →
         exec .lineDrain s = .next (s.replied f 0x33 {}))
       ∧ ((s.line l).mode = .faulted → exec .lineDrain s = .next (s.replied f 0x33 { status := .wrongState })))
  ∧ (∀ (s : State) (f : ControlFrame) (args : List Byte), 3 < byteAt args 0 →
       (s.Offers f 0x30 args → args.length = 15 →
         exec .lineConfig s = .next (s.replied f 0x30 { status := .badField, field := 1 }))
       ∧ (args.length = 1 →
         (s.Offers f 0x31 args → exec .lineStart s = .next (s.replied f 0x31 { status := .badField, field := 1 }))
         ∧ (s.Offers f 0x32 args → exec .linePause s = .next (s.replied f 0x32 { status := .badField, field := 1 }))
         ∧ (s.Offers f 0x33 args → exec .lineDrain s = .next (s.replied f 0x33 { status := .badField, field := 1 }))
         ∧ (s.Offers f 0x34 args → exec .lineReset s = .next (s.replied f 0x34 { status := .badField, field := 1 }))
         ∧ (s.Offers f 0x35 args → exec .lineClearFault s = .next (s.replied f 0x35 { status := .badField, field := 1 }))))

/-- LINE_RESET is taken in every line state. It leaves the line STOPPED with no fault cause, no exposure in flight, an
empty queue, an empty transit list and no station profile; the configuration, the unit's flags and stock class, the
fitted flag and the bins are kept; the reset-abort flag is set when an exposure was in flight and else kept. Every
record that was imaged or in transit there has last cause LINE_RESET, its line and doom absent, its pass kept, and is
SPOILED, or remade when AUTO; one of remake MANUAL keeps its bound versions, and one of remake AUTO has none and is
READY when every page of its tiles is COMPLETE and PLANNED otherwise. The queue returns to the ready list, at the
front of each class in queue order, each record READY with its line absent; a remade record that is READY joins at the
back of its class. The reports are one PLATE_UNQUEUED for each queue entry, in queue order, and then LINE_STATE unless
the line was STOPPED. The exposure's holds are released and its waiting read withdrawn. No other record, no page and
no other line is touched, and the Dispatcher is told. LINE_CLEAR_FAULT is refused WRONG_STATE on a line that is not
FAULTED and BUSY while an exposure is in flight. Otherwise the line is left STOPPED with no fault cause and an empty
transit list, everything else of it kept, the station profile among it. Every record that was in transit has last
cause LINE_FAULT, its line and doom absent and its pass kept; one of remake MANUAL is SPOILED and keeps its bound
versions, and one of remake AUTO has none and is READY, at the back of its class, when every page of its tiles is
COMPLETE and PLANNED otherwise. LINE_STATE is the only report, no other record, no page and no other line is touched,
and the Dispatcher is told. -/
def Obligations.LinesAreResetAndCleared : Prop :=
  (∀ (s : State) (f : ControlFrame) (l : LineId),
     (s.Offers f 0x34 (u8 l.val) → exec .lineReset s = .next ((s.dropControl.resetLine l).carried f 0x34))
     ∧ (let t := s.resetLine l
       let queue := (s.line l).queue
       let imaged := ((s.line l).exposure.map Exposure.slot).toList ++ (s.line l).transit.map TransitEntry.slot
       let complete := fun p : Slot => (s.plate p).load.keys.all fun k => decide ((s.page k).state = .complete)
       let back := imaged.filter fun p => decide ((s.plate p).load.remake = .auto) && complete p
       let unqueued := (queue.map fun p => ({ kind := .plateUnqueued, slot := some p, line := some l } : Report)).foldl
         ReportQueue.offer s.reports
       t.line l = { s.line l with
         mode := .stopped, faultCause := none, exposure := none, queue := [], transit := [], stationProfile := none
         composer := if (s.line l).exposure = none then (s.line l).composer else {}
         feed := if (s.line l).exposure = none then (s.line l).feed else []
         resetAbort := (s.line l).resetAbort || (s.line l).exposure.isSome }
       ∧ (∀ l' : LineId, l' ≠ l → t.line l' = s.line l')
       ∧ (∀ p ∈ imaged,
         (t.plate p).line = none ∧ (t.plate p).doom = none ∧ (t.plate p).withdraw = false
         ∧ (t.plate p).lastCause = some .lineReset ∧ (t.plate p).pass = (s.plate p).pass
         ∧ (t.plate p).load = (s.plate p).load
         ∧ ((s.plate p).load.remake = .manual → (t.plate p).bound = (s.plate p).bound
           ∧ (p ∉ queue → (t.plate p).state = .spoiled))
         ∧ ((s.plate p).load.remake = .auto → (t.plate p).bound = none ∧ (t.plate p).place = none
           ∧ (p ∉ queue → (t.plate p).state = if complete p then .ready else .planned)))
       ∧ (∀ p ∈ queue, (t.plate p).state = .ready ∧ (t.plate p).line = none
         ∧ (p ∉ imaged → t.plate p = { s.plate p with state := .ready, line := none }))
       ∧ (∀ p : Slot, p ∉ imaged → p ∉ queue → t.plate p = s.plate p)
       ∧ t.ready = queue.filter s.urgent ++ s.ready.takeWhile s.urgent ++ back.filter s.urgent
         ++ (queue.filter fun p => !s.urgent p) ++ s.ready.dropWhile s.urgent ++ back.filter fun p => !s.urgent p
       ∧ t.reports = (if (s.line l).mode = .stopped then unqueued
         else unqueued.offer { kind := .lineState, line := some l, cause := some (.lineState .stopped) })
       ∧ t.out = s.out ++ (if (s.line l).exposure = none then [] else [.station l .exposeAbort])
       ∧ (∀ c : Exposure, (s.line l).exposure = some c → t.store = (s.closeExposure l c).store)
       ∧ ((s.line l).exposure = none → t.store = s.store)
       ∧ t = { s with
         plates := t.plates, ready := t.ready, lines := t.lines, reports := t.reports, out := t.out, store := t.store
         told := true }))
  ∧ (∀ (s : State) (f : ControlFrame) (l : LineId),
       (s.Offers f 0x35 (u8 l.val) →
         ((s.line l).mode ≠ .faulted → exec .lineClearFault s = .next (s.replied f 0x35 { status := .wrongState }))
         ∧ ((s.line l).mode = .faulted → (s.line l).exposure ≠ none →
           exec .lineClearFault s = .next (s.replied f 0x35 { status := .busy }))
         ∧ ((s.line l).mode = .faulted → (s.line l).exposure = none → exec .lineClearFault s =
           .next (((s.dropControl.clearTransit l .lineFault).stopLine l).carried f 0x35)))
       ∧ ((s.line l).mode = .faulted →
         let t := (s.clearTransit l .lineFault).stopLine l
         let spoiled := (s.line l).transit.map TransitEntry.slot
         let complete := fun p : Slot => (s.plate p).load.keys.all fun k => decide ((s.page k).state = .complete)
         let back := spoiled.filter fun p => decide ((s.plate p).load.remake = .auto) && complete p
         t.line l = { s.line l with mode := .stopped, faultCause := none, transit := [] }
         ∧ (∀ l' : LineId, l' ≠ l → t.line l' = s.line l')
         ∧ (∀ p ∈ spoiled,
           ((s.plate p).load.remake = .manual → t.plate p = { s.plate p with
             state := .spoiled, lastCause := some .lineFault, doom := none, line := none, withdraw := false })
           ∧ ((s.plate p).load.remake = .auto → t.plate p =
             { state := if complete p then .ready else .planned
               load := (s.plate p).load, pass := (s.plate p).pass, lastCause := some .lineFault }))
         ∧ (∀ p : Slot, p ∉ spoiled → t.plate p = s.plate p)
         ∧ t.ready = s.ready.takeWhile s.urgent ++ back.filter s.urgent ++ s.ready.dropWhile s.urgent
           ++ back.filter fun p => !s.urgent p
         ∧ t = { s with
           plates := t.plates, ready := t.ready, lines := t.lines, told := true
           reports := s.reports.offer { kind := .lineState, line := some l, cause := some (.lineState .stopped) } }))

/-! ### Exposures (spec 07, 08) -/

/-- A line decides a start exactly when it is RUNNING or DRAINING, has no exposure in flight, its reset-abort flag is
clear, its queue is not empty, the unit's ready flag is set and its transit list holds fewer than 6 entries. Then the
exposure begins, before the Composer goes on: the record leaves the head of the queue and is EXPOSING, bound to the
current version of each tile's page; a context is created with the provisional pass (255 followed by 1) and the mark
value slot × 128 + (pass mod 128), unanswered, its timer running, nothing sent; each distinct current raster takes one
hold; EXPOSE_BEGIN is sent; and the Dispatcher is told. The record's pass stays. The setup of a tile, against the
raster of its page, and the reports of a setup, tile by tile: CLIP_EMPTY alone for a page without raster or a window
off the raster; else CLIP_REDUCED for a window that passes the raster's edge, and then OFF_PLATE for a rectangle not
wholly on the plate; after the tiles MARK_OMITTED for a mark that does not fit. TILE_CLAMPED carries slot, line, page
key and cause, MARK_OMITTED slot and line. A page without raster never arises by the rules (R115, R131: every tile's
page is COMPLETE); that its tile is EMPTY and makes CLIP_EMPTY is log 22's choice, which makes the functions total. -/
def Obligations.ExposuresBegin : Prop :=
  (∀ (s : State) (l : LineId),
     ((s.line l).startReady = true ↔
       ((s.line l).mode = .running ∨ (s.line l).mode = .draining) ∧ (s.line l).exposure = none
       ∧ (s.line l).resetAbort = false ∧ (s.line l).queue ≠ [] ∧ (s.line l).unitReady = true
       ∧ (s.line l).transit.length < 6)
     ∧ ((s.line l).startReady = false → s.startTest l = s)
     ∧ ∀ (p : Slot) (rest : List Slot), (s.line l).startReady = true → (s.line l).queue = p :: rest →
       let x := (s.plate p).load
       let f := s.profile x.profile
       let pass := if (s.plate p).pass = 255 then 1 else (s.plate p).pass + 1
       let m := p.val * 128 + pass % 128
       let holds := s.rastersOf x
       ∃ u : State, s.startTest l = u.feedLine l
         ∧ holds.Nodup ∧ (∀ d : DescId, d ∈ holds ↔ ∃ k ∈ x.keys, (s.page k).raster = some d)
         ∧ (∀ d : DescId, u.store.desc d =
             { s.store.desc d with expHolds := (s.store.desc d).expHolds + if d ∈ holds then 1 else 0 })
         ∧ u.plates = s.plates.set p.val
             { s.plate p with state := .exposing, bound := some (x.keys.map fun k => (s.page k).version) }
         ∧ u.lines = s.lines.set l.val { s.line l with
             queue := rest
             exposure := some { slot := p, pass := pass, mark := m, answered := false, timer := true, goSent := false, abortSent := false, linesSent := 0, holds := holds }
             composer := { tiles := x.tiles.map (s.tileSetup x f), mark := some { present := markFits x.width x.height f.mx f.my, value := m, mx := f.mx, my := f.my }, row := 0, gathered := [] } }
         ∧ u.reports = (s.setupReports l p x f).foldl ReportQueue.offer s.reports
         ∧ u.out = s.out ++ [.station l (.exposeBegin p x.width x.height x.sizeClass m)]
         ∧ u.told = true ∧ u.pages = s.pages ∧ u.ready = s.ready ∧ u.profiles = s.profiles)
  ∧ (∀ (s : State) (l : LineId) (p : Slot) (x : PlateLoad) (f : Profile),
       (∀ t : Tile, ((s.page (x.keyOf t)).raster = none → s.tileSetup x f t = .empty none)
         ∧ ∀ d : DescId, (s.page (x.keyOf t)).raster = some d →
           let found := t.setupOn x.width x.height (s.store.desc d).width (s.store.desc d).height f.dx f.dy
           (found = none → s.tileSetup x f t = .empty (some d)) ∧ ∀ g, found = some g → s.tileSetup x f t = .active d g)
       ∧ s.setupReports l p x f = (x.tiles.flatMap fun t =>
           let key := (BitVec.ofNat 8 t.page.val, BitVec.ofNat 8 x.color.val)
           let clamped := fun c : Cause =>
             ({ kind := .tileClamped, slot := some p, line := some l, key := some key, cause := some c } : Report)
           match (s.page (x.keyOf t)).raster with
           | none => [clamped .clipEmpty]
           | some d =>
             let w := (s.store.desc d).width
             let h := (s.store.desc d).height
             let c := t.clip.getD { cx := 0, cy := 0, cw := w, ch := h }
             if w ≤ c.cx ∨ h ≤ c.cy then [clamped .clipEmpty]
             else (if w < c.cx + c.cw ∨ h < c.cy + c.ch then [clamped .clipReduced] else [])
               ++ (if t.originX + f.dx < 0 ∨ t.originY + f.dy < 0
                     ∨ (x.width : Int) < t.originX + f.dx + scaledWidth (min c.cw (w - c.cx)) t.scale
                     ∨ (x.height : Int) < t.originY + f.dy + (min c.ch (h - c.cy) : Nat)
                   then [clamped .offPlate] else []))
         ++ if x.width < f.mx + 288 ∨ x.height < f.my + 64 then
           [({ kind := .markOmitted, slot := some p, line := some l } : Report)] else [])

/-- The Composer goes on until it must stop: after it has gone on, with an exposure in flight whose abort has not been
sent, the feed buffer is full, or every plate row has been formed, or a scan-source read of the line is in the
arbiter. What was in the feed buffer is still there, oldest first, and for each scan line formed the row has advanced
by one. Which step the Composer takes, with an exposure in flight whose abort has not been sent, room in the buffer
and a row left. Its next read is for the first covering tile, in tile order, whose bytes have not been gathered: of
the tile's descriptor, the source row cy + v, the bytes floor(c(u0)/8) to floor(c(u1)/8), at their place in plate
memory. It is made when no read of the line is in the arbiter, and else the Composer waits. When no covering tile is
left the scan line is formed and the Composer goes on at the next row. Otherwise it does nothing but consider
EXPOSE_GO. That a strip position past the raster's strip list reads as strip 0, which never arises, is log 22's
choice. -/
def Obligations.ComposerGoesOn : Prop :=
  (∀ (s : State) (l : LineId) (c : Exposure), (s.line l).exposure = some c → (s.line l).feed.length ≤ 16 →
     let t := s.feedLine l
     (c.abortSent = true ∨ 16 ≤ (t.line l).feed.length ∨ (s.plate c.slot).load.height ≤ (t.line l).composer.row
       ∨ t.store.hasRead l = true)
     ∧ (t.line l).feed.length ≤ 16
     ∧ ∃ formed : List (List Byte), (t.line l).feed = (s.line l).feed ++ formed
       ∧ (t.line l).composer.row = (s.line l).composer.row + formed.length
       ∧ ∀ row ∈ formed, row.length = ((s.plate c.slot).load.width + 7) / 8)
  ∧ (∀ (s : State) (l : LineId) (c : Exposure), (s.line l).exposure = some c →
       let m := (s.line l).composer
       let x := (s.plate c.slot).load
       let v := fun g : TileGeometry =>
         if g.turn = .upright then (m.row : Int) - g.y else g.y + g.ch - 1 - m.row
       let covers := fun t : TileSetup => match t with
         | .empty _ => false
         | .active _ g => decide (g.u0 ≤ g.u1 ∧ g.v0 ≤ v g ∧ v g ≤ g.v1)
       let works := c.abortSent = false ∧ (s.line l).feed.length < 16 ∧ m.row < x.height
       (∀ (older newer : List TileSetup) (d : DescId) (g : TileGeometry), works →
         m.tiles = older ++ .active d g :: newer → covers (.active d g) = true → older.countP covers = m.gathered.length →
         let column := fun u : Int => g.cx + (2 * u.toNat + 1) * g.cw / (2 * g.ws)
         let row := g.cy + (v g).toNat
         let raster := s.store.desc d
         (s.store.hasRead l = false → s.feedLine l = { s with store := s.store.request (.read
           { line := l, desc := d, row := row, first := column g.u0 / 8
             count := column g.u1 / 8 - column g.u0 / 8 + 1
             addr := raster.strips.getD (row / raster.perStrip) 0 * 262144
               + row % raster.perStrip * ((raster.width + 7) / 8) + column g.u0 / 8 }) })
         ∧ (s.store.hasRead l = true → s.feedLine l = s))
       ∧ (works → m.tiles.countP covers ≤ m.gathered.length → s.feedLine l = State.feedLine { s with
           lines := s.lines.set l.val { s.line l with
             feed := (s.line l).feed ++ [m.scanLine x.width]
             composer := { m with row := m.row + 1, gathered := [] } } } l)
       ∧ (¬ works → s.feedLine l = s.goTest l))

/-- BEGIN_ACCEPT of an unanswered begin: the timer stops and the begin is answered, the record's pass takes the
provisional pass, EXPOSURE_STARTED carries it, a withdraw mark is cleared and turned into the supersede action, and
EXPOSE_GO is sent when the feed buffer holds 16 scan lines and the abort has not been sent. With the begin answered,
or no exposure in flight, the message is ignored. -/
def Obligations.BeginsAreAccepted : Prop :=
  ∀ (s : State) (l : LineId), (s.line l).fitted = true →
    (∀ c : Exposure, (s.line l).exposure = some c → c.answered = false →
      let u : State := { s with
        lines := s.lines.set l.val { s.line l with exposure := some { c with answered := true, timer := false } }
        plates := s.plates.set c.slot.val { s.plate c.slot with pass := c.pass, withdraw := false }
        reports := s.reports.offer
          { kind := .exposureStarted, slot := some c.slot, line := some l, pass := some c.pass } }
      ((s.plate c.slot).withdraw = false → exec (.beginAccept l) s = .next (u.goTest l).finish)
      ∧ ((s.plate c.slot).withdraw = true → exec (.beginAccept l) s = .next ((u.applyAction c.slot l).goTest l).finish))
    ∧ ((s.line l).exposure = none ∨ (∃ c, (s.line l).exposure = some c ∧ c.answered = true) →
      exec (.beginAccept l) s = .next s.finish)
    ∧ ∀ c : Exposure, (s.line l).exposure = some c →
      (c.answered = true → c.goSent = false → c.abortSent = false → (s.line l).feed.length = 16 →
        s.goTest l = { s with
          lines := s.lines.set l.val { s.line l with exposure := some { c with goSent := true } }
          out := s.out ++ [.station l .exposeGo] })
      ∧ (¬ (c.answered = true ∧ c.goSent = false ∧ c.abortSent = false ∧ (s.line l).feed.length = 16) → s.goTest l = s)

/-- BEGIN_REFUSE with cause NO_STOCK or SIZE of an unanswered begin: the exposure is closed, its bound versions become
absent and the unit ready flag is cleared. Without a withdraw mark the record goes back to the head of its queue, from
which a ninth entry is returned at the back, and then the record itself when the held stock class is not its own; or,
on a FAULTED line, to the ready list; with the mark it is PLANNED with PLATE_UNQUEUED and its readiness is evaluated.
A PAUSING line becomes PAUSED, a DRAINING line is tested, a stalled band is woken and the Dispatcher is told.
Otherwise the message clears the reset-abort flag, after which the start conditions are tested, or is ignored. Both
causes have one effect. The waking after the line's effects is log 11's choice, and the DRAINING test after all the
PLATE_UNQUEUED reports log 28's. BEGIN_REFUSE with cause LOCAL of an unanswered begin: the exposure is closed and its
bound versions become absent, the unit local flag is set and the ready flag cleared, the line takes the fault
UNIT_LOCAL with the slot in its report, and then the record joins the front of its class of the ready list, ahead of
the queue's return, or, with a withdraw mark, is PLANNED with PLATE_UNQUEUED and evaluated. That a DRAINING line goes
straight to FAULTED here is log 13's choice. Otherwise the message clears the reset-abort flag or is ignored. -/
def Obligations.BeginsAreRefused : Prop :=
  (∀ (s : State) (l : LineId) (cause : RefuseCause), (s.line l).fitted = true →
     (∀ c : Exposure, (s.line l).exposure = some c → c.answered = false →
       let closed := s.closeExposure l c
       let u : State := { closed with
         plates := s.plates.set c.slot.val { s.plate c.slot with bound := none }
         lines := closed.lines.set l.val { closed.line l with unitReady := false } }
       let done := fun v : State => ((v.endPause l).drainTest l).wakeIntake.tell
       ((s.plate c.slot).withdraw = true → exec (.beginRefuse l cause) s = .next (done (State.evaluate { u with
         plates := u.plates.set c.slot.val { u.plate c.slot with state := .planned, line := none, withdraw := false }
         reports := u.reports.offer { kind := .plateUnqueued, slot := some c.slot, line := some l } } c.slot)).finish)
       ∧ ((s.plate c.slot).withdraw = false → (s.line l).mode = .faulted →
         exec (.beginRefuse l cause) s = .next (done (u.returnToReady c.slot).tell).finish)
       ∧ ((s.plate c.slot).withdraw = false → (s.line l).mode ≠ .faulted →
         let back : State := { u with
           plates := u.plates.set c.slot.val { u.plate c.slot with state := .queued }
           lines := u.lines.set l.val { u.line l with queue := c.slot :: (s.line l).queue } }
         ((s.line l).stock = some (s.plate c.slot).load.sizeClass → (s.line l).queue.length < 8 →
           exec (.beginRefuse l cause) s = .next (done back).finish)
         ∧ ((s.line l).stock ≠ some (s.plate c.slot).load.sizeClass → (s.line l).queue.length < 8 →
           exec (.beginRefuse l cause) s = .next (done (back.returnEntries l [c.slot])).finish)
         ∧ (∀ last, (s.line l).stock = some (s.plate c.slot).load.sizeClass → (s.line l).queue.length = 8 →
           (s.line l).queue.getLast? = some last → last ≠ c.slot →
           exec (.beginRefuse l cause) s = .next (done (back.returnEntries l [last])).finish)
         ∧ (∀ last, (s.line l).stock ≠ some (s.plate c.slot).load.sizeClass → (s.line l).queue.length = 8 →
           (s.line l).queue.getLast? = some last → last ≠ c.slot →
           exec (.beginRefuse l cause) s = .next (done ((back.returnEntries l [last]).returnEntries l [c.slot])).finish)))
     ∧ ((s.line l).exposure = none ∨ (∃ c, (s.line l).exposure = some c ∧ c.answered = true) →
       ((s.line l).resetAbort = false → exec (.beginRefuse l cause) s = .next s.finish)
       ∧ ((s.line l).resetAbort = true → exec (.beginRefuse l cause) s = .next (State.startTest { s with
         lines := s.lines.set l.val { s.line l with resetAbort := false } } l).finish)))
  ∧ (∀ (s : State) (l : LineId), (s.line l).fitted = true →
       (∀ c : Exposure, (s.line l).exposure = some c → c.answered = false →
         let closed := s.closeExposure l c
         let u := State.faultLine { closed with
           plates := s.plates.set c.slot.val { s.plate c.slot with bound := none }
           lines := closed.lines.set l.val { closed.line l with unitLocal := true, unitReady := false } } l .unitLocal (some c.slot)
         ((u.plate c.slot).withdraw = false →
           exec (.beginRefuseLocal l) s = .next (u.returnToReady c.slot).wakeIntake.tell.finish)
         ∧ ((u.plate c.slot).withdraw = true → exec (.beginRefuseLocal l) s = .next (State.evaluate { u with
           plates := u.plates.set c.slot.val { u.plate c.slot with state := .planned, line := none, withdraw := false }
           reports := u.reports.offer { kind := .plateUnqueued, slot := some c.slot, line := some l } }
             c.slot).wakeIntake.tell.finish))
       ∧ ((s.line l).exposure = none ∨ (∃ c, (s.line l).exposure = some c ∧ c.answered = true) →
         ((s.line l).resetAbort = false → exec (.beginRefuseLocal l) s = .next s.finish)
         ∧ ((s.line l).resetAbort = true → exec (.beginRefuseLocal l) s = .next (State.startTest { s with
           lines := s.lines.set l.val { s.line l with resetAbort := false } } l).finish)))

/-- The begin timer's expiry: EXPOSE_ABORT is sent and the reset-abort flag set, the exposure is closed, the record is
SPOILED with cause UNIT_SILENT (and remade when AUTO), the line takes the fault UNIT_SILENT with the slot in its
report, a stalled band is woken and the Dispatcher told. With the timer stopped, or no exposure in flight, nothing
changes. That a DRAINING line goes to FAULTED with no STOPPED before it is log 13's choice, and the waking after the
line's effects log 11's, for this and for the next. EXPOSE_END with cause FAULT, whether or not the begin has been
answered: the exposure is closed, the record is SPOILED with cause UNIT_FAULT (and remade when AUTO) with its pass as
it stands, no plate enters transit, the line takes the fault UNIT_FAULT with the slot in its report, a stalled band is
woken and the Dispatcher is told. -/
def Obligations.UnitFailuresSpoilThePlate : Prop :=
  (∀ (s : State) (l : LineId),
     (∀ c : Exposure, (s.line l).exposure = some c → c.timer = true →
       exec (.beginTimeout l) s = .next ((((State.closeExposure { s with
         out := s.out ++ [.station l .exposeAbort]
         lines := s.lines.set l.val { s.line l with resetAbort := true } } l c).spoil c.slot .unitSilent).faultLine l
           .unitSilent (some c.slot)).wakeIntake.tell).finish)
     ∧ (∀ c : Exposure, (s.line l).exposure = some c → c.timer = false → exec (.beginTimeout l) s = .next s)
     ∧ ((s.line l).exposure = none → exec (.beginTimeout l) s = .next s))
  ∧ (∀ (s : State) (l : LineId) (c : Exposure), (s.line l).fitted = true → (s.line l).exposure = some c →
       exec (.exposeEndFault l) s = .next ((((s.closeExposure l c).spoil c.slot .unitFault).faultLine l .unitFault
         (some c.slot)).wakeIntake.tell).finish
       ∧ ((s.closeExposure l c).spoil c.slot .unitFault).line l =
           { s.line l with feed := [], composer := {}, exposure := none }
       ∧ (((s.closeExposure l c).spoil c.slot .unitFault).plate c.slot).pass = (s.plate c.slot).pass)

/-- What every end of an exposure does first: the line's waiting read is removed and its read in service is marked for
discard; the holds are released one by one in the order taken, a descriptor left without any hold being freed at once;
the feed buffer is flushed, the Composer's setup cleared and the context removed. No record, no page, no queue and no
transit list changes. That a count of exposure holds with none left to release is 0, which never arises, is log 22's
choice. -/
def Obligations.ExposuresAreClosed : Prop :=
  ∀ (s : State) (l : LineId) (c : Exposure),
    let t := s.closeExposure l c
    let withdrawn := { s.store with
      waitingReads := s.store.waitingReads.set l.val none
      inService := match s.store.inService with
        | some (.read r) => some (.read (if r.line = l then { r with discard := true } else r))
        | q => q }
    t = { s with
      store := c.holds.foldl RasterStore.dropHold withdrawn
      lines := s.lines.set l.val { s.line l with feed := [], composer := {}, exposure := none } }
    ∧ t.store.mem = s.store.mem
    ∧ ∀ (st : RasterStore) (d : DescId),
      ((st.desc d).expHolds ≤ 1 → (st.desc d).dirHold = false → st.dropHold d =
        { st with free := st.free ++ (st.desc d).strips, table := st.table.set d.val {} })
      ∧ (1 < (st.desc d).expHolds ∨ (st.desc d).dirHold = true → st.dropHold d =
        { st with table := st.table.set d.val { st.desc d with expHolds := (st.desc d).expHolds - 1 } })

/-- The completion of a scan-source read: one marked for discard reaches no Composer, and the Composer of the line's
next exposure goes on; otherwise the bytes read join those gathered for the scan line being composed, and the Composer
goes on; after the abort they are discarded. No byte of plate memory changes. The read hands back the byte last
written at each address, and for an address not written since power-on the free value of log 7. The memory access
arbiter. A request is granted at its arrival when none is in service and no completion is being handed over (log 12);
otherwise it waits in its maker's place. Of waiting requests a grant takes the read of the line with the fewest
buffered scan lines, the lowest-numbered among equals, and the write when no read waits. The grant after a completion
is made once it has been handed over, by the levels at that moment. -/
def Obligations.ScanReadsComplete : Prop :=
  (∀ (s : State) (r : ScanRead), s.store.inService = some (.read r) →
     let u : State := { s with store := { s.store with inService := none, handing := true } }
     let bytes := (List.range r.count).map fun i =>
       (s.store.mem.read? (r.addr + i)).getD (Config.arbitraryByte s.powerCycle (r.addr + i))
     (r.discard = true → exec .scanReadCompletion s = .next (u.feedLine r.line).finish)
     ∧ (∀ c : Exposure, r.discard = false → (s.line r.line).exposure = some c → c.abortSent = false →
       exec .scanReadCompletion s = .next (State.feedLine { u with
         lines := s.lines.set r.line.val { s.line r.line with
           composer := { (s.line r.line).composer with
             gathered := (s.line r.line).composer.gathered ++ [bytes] } } } r.line).finish)
     ∧ (∀ c : Exposure, r.discard = false → (s.line r.line).exposure = some c → c.abortSent = true →
       exec .scanReadCompletion s = .next u.finish)
     ∧ (r.discard = false → (s.line r.line).exposure = none → exec .scanReadCompletion s = .next u.finish)
     ∧ ∀ t, exec .scanReadCompletion s = .next t → t.store.mem = s.store.mem)
  ∧ ((∀ (st : RasterStore) (q : Request),
       (st.inService = none → st.handing = false → st.request q = { st with inService := some q })
       ∧ (st.inService ≠ none ∨ st.handing = true →
         (∀ w, q = .write w → st.request q = { st with waitingWrite := some w })
         ∧ ∀ r, q = .read r → st.request q = { st with waitingReads := st.waitingReads.set r.line.val (some r) }))
     ∧ (∀ (st : RasterStore) (level : LineId → Nat),
       (∀ (l : LineId) (r : ScanRead), st.waitingReads[l.val] = some r →
         (∀ l' : LineId, st.waitingReads[l'.val] ≠ none → level l < level l' ∨ level l = level l' ∧ l ≤ l') →
         st.grant level = { st with inService := some (.read r), waitingReads := st.waitingReads.set l.val none })
       ∧ ((∀ l : LineId, st.waitingReads[l.val] = none) →
         st.grant level = { st with inService := st.waitingWrite.map Request.write, waitingWrite := none }))
     ∧ ∀ s : State, s.finish = s.settle.endHanding.transmit
       ∧ (s.store.handing = false → s.endHanding = s)
       ∧ (s.store.handing = true → s.endHanding = { s with
         store := { s.store with handing := false }.grant fun l => (s.line l).feed.length }))

/-- A line request with go sent, abort not sent and fewer scan lines sent than PH is served: the scan line at the
front of the feed buffer goes to the unit, one more is counted as sent, and the Composer goes on. On an empty buffer
it is an underrun: the doom becomes UNDERRUN unless one is set, EXPOSE_ABORT is sent and the abort noted, with no
report. In every other case it is ignored. -/
def Obligations.LineRequestsAreServed : Prop :=
  ∀ (s : State) (l : LineId), (s.line l).fitted = true →
    (∀ c : Exposure, (s.line l).exposure = some c →
      let served := c.goSent = true ∧ c.abortSent = false ∧ c.linesSent < (s.plate c.slot).load.height
      (∀ (row : List Byte) (rest : List (List Byte)), served → (s.line l).feed = row :: rest →
        exec (.lineRequest l) s = .next (State.feedLine { s with
          lines := s.lines.set l.val { s.line l with
            feed := rest, exposure := some { c with linesSent := c.linesSent + 1 } }
          out := s.out ++ [.station l (.scanLine row)] } l).finish)
      ∧ (served → (s.line l).feed = [] → exec (.lineRequest l) s = .next (State.finish { s with
          plates := s.plates.set c.slot.val { s.plate c.slot with doom := some ((s.plate c.slot).doom.getD .underrun) }
          lines := s.lines.set l.val { s.line l with exposure := some { c with abortSent := true }, feed := [] }
          out := s.out ++ [.station l .exposeAbort] }))
      ∧ (¬ served → exec (.lineRequest l) s = .next s.finish))
    ∧ ((s.line l).exposure = none → exec (.lineRequest l) s = .next s.finish)

/-- EXPOSE_END with cause NORMAL or ABORTED of an answered begin ends the exposure with a plate. It is taken as NORMAL
for a NORMAL end of an exposure whose abort has not been sent and which has sent PH scan lines; any other end gives
the doom ABORTED unless one is set. The exposure is closed; the record is EXPOSED; a transit entry is appended at
TO_PUNCH, with the mark, the profile, the route of the doom, and the deadline T_pb, or none on a FAULTED line;
EXPOSURE_ENDED is made, with the doom as its cause; the line's state follows; a stalled band is woken, at this place
by log 11's choice; the line tests its start; and the Dispatcher is told. Under hold after a RUNNING line becomes
HELD, a PAUSING one PAUSED and then HELD, a DRAINING one HELD untested, and any other stays; else a PAUSING line
becomes PAUSED, a DRAINING one with nothing queued STOPPED, and any other stays. -/
def Obligations.ExposuresEndWithAPlate : Prop :=
  ∀ (s : State) (l : LineId) (c : Exposure) (cause : EndCause), (s.line l).fitted = true →
    (s.line l).exposure = some c → c.answered = true →
    let r := s.plate c.slot
    let normal := cause = .normal ∧ c.abortSent = false ∧ c.linesSent = r.load.height
    let doom := if normal then r.doom else some (r.doom.getD .aborted)
    let closed := s.closeExposure l c
    let u : State := { closed with
      plates := s.plates.set c.slot.val { r with state := .exposed, doom := doom }
      lines := closed.lines.set l.val { closed.line l with
        transit := (s.line l).transit ++
          [{ slot := c.slot, mark := c.mark, profile := r.load.profile, stage := .toPunch, since := (s.line l).stageClock,
             route := match doom with
               | none => .deliver
               | some d => .reject d.cause
             deadline := if (s.line l).mode = .faulted then none else some (s.line l).config.tPb }]
        stageClock := (s.line l).stageClock + 1 }
      reports := s.reports.offer
        { kind := .exposureEnded, slot := some c.slot, line := some l, pass := some r.pass, cause := doom.map Doom.cause } }
    exec (.exposeEnd l cause) s = .next ((((u.afterEnd l r.load.holdAfter).wakeIntake).startTest l).tell).finish
    ∧ ∀ v : State,
      let changed := fun (v : State) (m : LineMode) => { v with
        lines := v.lines.set l.val { v.line l with mode := m }
        reports := v.reports.offer { kind := .lineState, line := some l, cause := some (.lineState m) }
        told := true }
      let kept := fun m : LineMode => m = .stopped ∨ m = .paused ∨ m = .held ∨ m = .faulted
      ((v.line l).mode = .running → v.afterEnd l true = changed v .held ∧ v.afterEnd l false = v)
      ∧ ((v.line l).mode = .pausing →
        v.afterEnd l true = changed (changed v .paused) .held ∧ v.afterEnd l false = changed v .paused)
      ∧ ((v.line l).mode = .draining → v.afterEnd l true = changed v .held
        ∧ ((v.line l).queue = [] → (v.line l).exposure = none → v.afterEnd l false = changed v .stopped)
        ∧ ((v.line l).queue ≠ [] ∨ (v.line l).exposure ≠ none → v.afterEnd l false = v))
      ∧ (kept (v.line l).mode → v.afterEnd l true = v ∧ v.afterEnd l false = v)

/-- An EXPOSE_END that ends nothing: with cause NORMAL or ABORTED and the begin unanswered it is ignored, and the
exposure with its begin timer goes on as it was; with no exposure in flight an EXPOSE_END of any cause is ignored, but
for clearing the reset-abort flag, after which the start conditions are tested. -/
def Obligations.StrayEndsAreIgnored : Prop :=
  ∀ (s : State) (l : LineId) (cause : EndCause), (s.line l).fitted = true →
    (∀ c, (s.line l).exposure = some c → c.answered = false → exec (.exposeEnd l cause) s = .next s.finish
      ∧ (s.finish.line l).exposure = some c)
    ∧ ((s.line l).exposure = none → (s.line l).resetAbort = false →
      exec (.exposeEnd l cause) s = .next s.finish ∧ exec (.exposeEndFault l) s = .next s.finish)
    ∧ ((s.line l).exposure = none → (s.line l).resetAbort = true →
      let cleared : State := { s with lines := s.lines.set l.val { s.line l with resetAbort := false } }
      exec (.exposeEnd l cause) s = .next (cleared.startTest l).finish
      ∧ exec (.exposeEndFault l) s = .next (cleared.startTest l).finish)

/-- A unit status report, in every line state: the local flag takes the report's, the ready flag takes the report's
when local is no and is cleared when it is yes. A new stock class is held, and every queue entry of another class is
returned to the ready list, all of them for an unknown class, after which, by log 28's choice, a DRAINING line is
tested. The line tests its start conditions and the Dispatcher is told; the exposure in flight and the reset-abort
flag are left alone. -/
def Obligations.UnitStatusIsTaken : Prop :=
  ∀ (s : State) (l : LineId) (ready : Bool) (stock : Option Nat) (unitLocal : Bool), (s.line l).fitted = true →
    let flags := { s.line l with unitLocal := unitLocal, unitReady := ready && !unitLocal }
    ((s.line l).stock = stock → exec (.unitStatusReport l ready stock unitLocal) s =
      .next ((State.startTest { s with lines := s.lines.set l.val flags } l).tell).finish)
    ∧ ((s.line l).stock ≠ stock → exec (.unitStatusReport l ready stock unitLocal) s =
      .next ((((State.returnEntries { s with lines := s.lines.set l.val { flags with stock := stock } } l
        ((s.line l).queue.filter fun p => decide (some (s.plate p).load.sizeClass ≠ stock))).drainTest l).startTest
          l).tell).finish)

/-! ### Placement arithmetic (spec 07) -/

/-- The scaled width of a tile: D is cw′ × s / 1,000,000 rounded toward minus infinity after 500,000 has been added to
the product, and Ws = cw′ + D. For every width 1..24576 and scale −3000..+3000 D lies within −74..+74, D is 0 up to a
width of 166, and Ws is at least 1. The column map of a tile: every tile column takes a source column within the
clamped window, and the map does not decrease. Unscaled it is the identity from cx. Widened by D, each source column
of the window is used once or twice, and exactly D of them twice. Narrowed by −D, each is used once or not at all, and
exactly −D of them are not used. The turn does not enter it. -/
def Obligations.ColumnsAreScaledAndSampled : Prop :=
  (∀ (cw : Nat) (scale : Int), 1 ≤ cw → cw ≤ 24576 → -3000 ≤ scale → scale ≤ 3000 →
     (fanOut cw scale * 1000000 ≤ (cw : Int) * scale + 500000
       ∧ (cw : Int) * scale + 500000 < (fanOut cw scale + 1) * 1000000)
     ∧ (scaledWidth cw scale : Int) = cw + fanOut cw scale
     ∧ -74 ≤ fanOut cw scale ∧ fanOut cw scale ≤ 74 ∧ (cw ≤ 166 → fanOut cw scale = 0) ∧ 1 ≤ scaledWidth cw scale)
  ∧ (∀ (g : TileGeometry) (scale : Int), 1 ≤ g.cw → g.cw ≤ 24576 → -3000 ≤ scale → scale ≤ 3000 →
       g.ws = scaledWidth g.cw scale →
       let uses := fun j : Nat => (List.range g.ws).countP fun u => decide (g.column u = g.cx + j)
       let usedTimes := fun n : Nat => (List.range g.cw).countP fun j => decide (uses j = n)
       (∀ u < g.ws, g.column u = g.cx + (2 * u + 1) * g.cw / (2 * g.ws)
         ∧ g.cx ≤ g.column u ∧ g.column u < g.cx + g.cw ∧ (2 * u + 1) * g.cw ≤ 1211572224
         ∧ ∀ turn, ({ g with turn := turn } : TileGeometry).column u = g.column u)
       ∧ (∀ u v, u ≤ v → v < g.ws → g.column u ≤ g.column v)
       ∧ (fanOut g.cw scale = 0 → ∀ u < g.ws, g.column u = g.cx + u)
       ∧ (0 < fanOut g.cw scale → (∀ j < g.cw, uses j = 1 ∨ uses j = 2) ∧ (usedTimes 2 : Int) = fanOut g.cw scale)
       ∧ (fanOut g.cw scale < 0 → (∀ j < g.cw, uses j = 0 ∨ uses j = 1) ∧ (usedTimes 0 : Int) = -fanOut g.cw scale))

/-- A tile's clip window is clamped to its raster: the tile is EMPTY exactly when the window begins off the raster,
and otherwise its clamped width and height are at least 1 and stay within the raster; the window is reduced when
either is below what was loaded, and an absent window never is. A pixel of an active tile stands on the plate exactly
when its tile column and tile row are visible; a tile whose rectangle is wholly inside the plate, and no other, is not
off plate. -/
def Obligations.TilesAreClipped : Prop :=
  ∀ (t : Tile) (pw ph wr hr : Nat) (dx dy : Int), 1 ≤ wr → 1 ≤ hr →
    (∀ c, t.clip = some c → 1 ≤ c.cw ∧ 1 ≤ c.ch) →
    let c := t.window wr hr
    (t.setupOn pw ph wr hr dx dy = none ↔ wr ≤ c.cx ∨ hr ≤ c.cy)
    ∧ (t.clip = none → c = { cx := 0, cy := 0, cw := wr, ch := hr } ∧ c.reduced wr hr = false)
    ∧ ∀ g, t.setupOn pw ph wr hr dx dy = some g →
      g.cx = c.cx ∧ g.cy = c.cy ∧ g.x = t.originX + dx ∧ g.y = t.originY + dy ∧ g.ws = scaledWidth g.cw t.scale
      ∧ 1 ≤ g.cw ∧ g.cx + g.cw ≤ wr ∧ g.cw ≤ c.cw ∧ (g.cw = c.cw ∨ g.cx + g.cw = wr)
      ∧ 1 ≤ g.ch ∧ g.cy + g.ch ≤ hr ∧ g.ch ≤ c.ch ∧ (g.ch = c.ch ∨ g.cy + g.ch = hr)
      ∧ (c.reduced wr hr = true ↔ g.cw < c.cw ∨ g.ch < c.ch)
      ∧ (g.offPlate pw ph = false ↔ 0 ≤ g.x ∧ g.x + g.ws ≤ pw ∧ 0 ≤ g.y ∧ g.y + g.ch ≤ ph)
      ∧ (∀ x u : Int, 0 ≤ u → u < g.ws → u = g.tileColumn x → (0 ≤ x ∧ x < pw ↔ g.u0 ≤ u ∧ u ≤ g.u1))
      ∧ ∀ y v : Int, 0 ≤ v → v < g.ch → v = g.tileRow y → (0 ≤ y ∧ y < ph ↔ g.v0 ≤ v ∧ v ≤ g.v1)

/-- The mark value: slot × 128 + (pass mod 128) lies within 0..65535, and gives the slot and the pass modulo 128 back.
The mark's pixels: over its 288 columns and 64 rows, when it is present, every pixel takes the mark's value, cell 0
ink, cells 1 to 16 the bits of the value from the most significant, cell 17 blank; a mark that does not fit the plate
is omitted. A scan line is ceil(PW/8) bytes, its pixels packed most significant bit first and its pad bits 0 where the
mark lies on the plate. A pixel outside the mark is ink exactly when some active tile that covers the row, at a
visible column there, has ink at the source column c(u) of the bytes read for it. -/
def Obligations.MarksAndScanLinesAreComposed : Prop :=
  ((∀ (p : Slot) (pass : Nat), markValue p pass = p.val * 128 + pass % 128 ∧ markValue p pass ≤ 65535
     ∧ markValue p pass / 128 = p.val ∧ markValue p pass % 128 = pass % 128)
   ∧ (∀ pw ph mx my : Nat, markFits pw ph mx my = true ↔ mx + 288 ≤ pw ∧ my + 64 ≤ ph)
   ∧ ∀ (c : Composer) (k : MarkSetup) (pw x y : Nat), c.mark = some k → k.present = true →
       k.mx ≤ x → x < k.mx + 288 → k.my ≤ y → y < k.my + 64 →
       (x < k.mx + 16 → c.pixel pw y x = true)
       ∧ (∀ j, 1 ≤ j → j ≤ 16 → k.mx + 16 * j ≤ x → x < k.mx + 16 * j + 16 →
         c.pixel pw y x = k.value.testBit (16 - j))
       ∧ (k.mx + 272 ≤ x → c.pixel pw y x = false))
  ∧ (∀ (c : Composer) (pw : Nat),
       (c.scanLine pw).length = (pw + 7) / 8
       ∧ (∀ x, x < 8 * ((pw + 7) / 8) → ((c.scanLine pw).getD (x / 8) 0).getMsbD (x % 8) = c.pixel pw c.row x)
       ∧ (∀ x, pw ≤ x → (∀ k, c.mark = some k → k.present = true → k.mx + 288 ≤ pw) → c.pixel pw c.row x = false)
       ∧ ∀ x, x < pw → (∀ k, c.mark = some k → k.covers x c.row = false) →
         (c.pixel pw c.row x = true ↔ ∃ (i : Nat) (d : DescId) (g : TileGeometry) (bytes : List Byte),
           (c.covering c.row)[i]? = some (d, g) ∧ c.gathered[i]? = some bytes
           ∧ g.u0 ≤ g.tileColumn x ∧ g.tileColumn x ≤ g.u1
           ∧ (bytes.getD (g.column (g.tileColumn x).toNat / 8 - g.column g.u0.toNat / 8) 0).getMsbD
               (g.column (g.tileColumn x).toNat % 8) = true))

/-! ### Finishing and transit (spec 09) -/

/-- LOAD_PROFILE: the first field out of range is named in a BAD_FIELD refusal; a profile that a record in QUEUED,
EXPOSING or EXPOSED names is refused PROTECTED; otherwise the entry becomes present with the command's values, its
tools being the first of the eight as the count says, each line whose station profile is the index forgets it, and the
REPLY is OK. The ranges are those of the table of R145, in its order; the tool fields past the tool count are not
examined. -/
def Obligations.LoadProfileAnswers : Prop :=
  ∀ (s : State) (f : ControlFrame) (args : List Byte) (i : ProfileId), s.Offers f 0x40 args → args.length = 21 →
    let inUse := ∃ p : Slot, ((s.plate p).state = .queued ∨ (s.plate p).state = .exposing ∨ (s.plate p).state = .exposed)
      ∧ (s.plate p).load.profile = i
    (∀ j, firstBad (profileFields args) = some j →
      exec .loadProfile s = .next (s.replied f 0x40 { status := .badField, field := j }))
    ∧ (firstBad (profileFields args) = none → byteAt args 0 = i.val → inUse →
      exec .loadProfile s = .next (s.replied f 0x40 { status := .isProtected }))
    ∧ (firstBad (profileFields args) = none → byteAt args 0 = i.val → ¬ inUse →
      exec .loadProfile s = .next (State.carried { s.dropControl with
        profiles := s.profiles.set i.val
          { present := true, dx := s16At args 1, dy := s16At args 3, mx := u16At args 5, my := u16At args 7
            markCheck := decide (byteAt args 9 = 1)
            tools := (List.range (byteAt args 10)).map fun n => byteAt args (11 + n)
            lead := byteAt args 19, trail := byteAt args 20 }
        lines := s.lines.map fun ln =>
          if ln.stationProfile = some i then { ln with stationProfile := none } else ln } f 0x40))
    ∧ (let b := fun n => (args.getD n 0).toNat
      let w := fun n => b n + 256 * b (n + 1)
      let z := fun n => if w n < 32768 then (w n : Int) else w n - 65536
      Examines (profileFields args)
        ([b 0 ≤ 31, -2048 ≤ z 1 ∧ z 1 ≤ 2047, -2048 ≤ z 3 ∧ z 3 ≤ 2047, w 5 ≤ 40959, w 7 ≤ 32767, b 9 ≤ 1,
            1 ≤ b 10 ∧ b 10 ≤ 8]
          ++ ((List.range 8).map fun i => i < b 10 → b (11 + i) ≤ 15) ++ [b 19 ≤ 135, b 20 ≤ 135]))

/-- PB_ARRIVAL is matched to the oldest entry in TO_PUNCH. With none the line takes the fault PHANTOM without a slot,
and so it does on a FAULTED line. With mark check on, a readable mark other than the entry's is the fault MISMATCH
with its slot, and an unreadable one makes MARK_UNREAD. An accepted plate of route REJECT is sent PB_PASS and enters
TO_SORTER, with T_so or with none while a plate waits for a bin (R163). One of route DELIVER whose profile is the
station profile is sent PB_GO and enters WORK with T_pb; with another profile it is sent PB_SETUP, the station profile
becomes absent and it enters SETUP with T_setup, or its setup waits its turn with no deadline while another is
unanswered. -/
def Obligations.ArrivalsAreMatched : Prop :=
  ∀ (s : State) (l : LineId) (mark : Option Nat), (s.line l).fitted = true →
    ((s.line l).mode = .faulted ∨ (∀ e ∈ (s.line l).transit, e.stage ≠ .toPunch) →
      exec (.pbArrival l mark) s = .next (s.faultLine l .phantom none).finish)
    ∧ ∀ (e : TransitEntry) (older newer : List TransitEntry), (s.line l).mode ≠ .faulted →
      (s.line l).transit = older ++ e :: newer → (∀ x ∈ older, x.stage ≠ .toPunch) → e.stage = .toPunch →
      let f := s.profile e.profile
      (∀ m, f.markCheck = true → mark = some m → m ≠ e.mark →
        exec (.pbArrival l mark) s = .next (s.faultLine l .mismatch (some e.slot)).finish)
      ∧ (f.markCheck = true → mark = none → exec (.pbArrival l mark) s = .next (State.acceptArrival { s with
          reports := s.reports.offer { kind := .markUnread, slot := some e.slot, line := some l } } l e).finish)
      ∧ (f.markCheck = false ∨ mark = some e.mark →
        exec (.pbArrival l mark) s = .next (s.acceptArrival l e).finish)
      ∧ (let moved := fun (g : Stage) (deadline : Option Nat) => { s.line l with
            transit := (s.line l).transit.map fun x =>
              if x.slot = e.slot then { x with stage := g, deadline := deadline, since := (s.line l).stageClock } else x
            stageClock := (s.line l).stageClock + 1 }
        let sent := fun (ln : Line) (ms : List StationMessage) =>
          { s with lines := s.lines.set l.val ln, out := s.out ++ ms.map (Output.station l) }
        let busy := ∃ x ∈ (s.line l).transit, x.stage = .atPunch (.setup true)
        let waits := ∃ x ∈ (s.line l).transit, x.stage = .waitingBin
        (e.route ≠ .deliver → waits → s.acceptArrival l e = sent (moved .toSorter none) [.pbPass])
        ∧ (e.route ≠ .deliver → ¬ waits →
          s.acceptArrival l e = sent (moved .toSorter (some (s.line l).config.tSo)) [.pbPass])
        ∧ (e.route = .deliver → (s.line l).stationProfile = some e.profile →
          s.acceptArrival l e = sent (moved (.atPunch .work) (some (s.line l).config.tPb)) [.pbGo])
        ∧ (e.route = .deliver → (s.line l).stationProfile ≠ some e.profile → ¬ busy → s.acceptArrival l e =
          sent { moved (.atPunch (.setup true)) (some (s.line l).config.tSetup) with stationProfile := none }
            [.pbSetup f.tools f.lead f.trail])
        ∧ (e.route = .deliver → (s.line l).stationProfile ≠ some e.profile → busy →
          s.acceptArrival l e = sent (moved (.atPunch (.setup false)) none) []))

/-- PB_SETUP_DONE applies to the entry whose PB_SETUP is unanswered: the station profile becomes the entry's profile,
PB_GO is sent and the entry enters WORK with T_pb; then the setups that wait their turn are dealt with. While no
PB_SETUP is unanswered, the oldest entry whose setup waits is sent PB_GO and enters WORK with T_pb when its profile is
the station profile, and the next is dealt with; otherwise it is sent PB_SETUP, the station profile becomes absent, it
enters SETUP with T_setup, and no other is dealt with. With no such entry, and on a FAULTED line, the message is
ignored. -/
def Obligations.SetupsAreDone : Prop :=
  ∀ (s : State) (l : LineId), (s.line l).fitted = true →
    ((s.line l).mode = .faulted ∨ (∀ x ∈ (s.line l).transit, x.stage ≠ .atPunch (.setup true)) →
      exec (.pbSetupDone l) s = .next s.finish)
    ∧ (∀ (e : TransitEntry) (older newer : List TransitEntry), (s.line l).mode ≠ .faulted →
      (s.line l).transit = older ++ e :: newer → (∀ x ∈ older, x.stage ≠ .atPunch (.setup true)) →
      e.stage = .atPunch (.setup true) →
      exec (.pbSetupDone l) s = .next (State.serveSetups 6 l { s with
        lines := s.lines.set l.val { s.line l with
          transit := (s.line l).transit.map fun x =>
            if x.slot = e.slot then
              { x with
                stage := .atPunch .work, deadline := some (s.line l).config.tPb, since := (s.line l).stageClock }
            else x
          stageClock := (s.line l).stageClock + 1
          stationProfile := some e.profile }
        out := s.out ++ [.station l .pbGo] }).finish)
    ∧ ((s.line l).transit.length ≤ 6 → ((s.line l).transit.map TransitEntry.slot).Nodup →
      let t := State.serveSetups 6 l s
      (∃ x ∈ (t.line l).transit, x.stage = .atPunch (.setup true))
      ∨ ∀ x ∈ (t.line l).transit, x.stage ≠ .atPunch (.setup false))
    ∧ ((s.line l).transit.length ≤ 6 →
      let busy := ∃ x ∈ (s.line l).transit, x.stage = .atPunch (.setup true)
      (busy ∨ (∀ x ∈ (s.line l).transit, x.stage ≠ .atPunch (.setup false)) → State.serveSetups 6 l s = s)
      ∧ ∀ (e : TransitEntry) (older newer : List TransitEntry), ¬ busy → (s.line l).transit = older ++ e :: newer →
        (∀ x ∈ older, x.stage ≠ .atPunch (.setup false)) → e.stage = .atPunch (.setup false) →
        let moved := fun (g : PunchStep) (deadline : Nat) => { s.line l with
          transit := (s.line l).transit.map fun x =>
            if x.slot = e.slot then
              { x with stage := .atPunch g, deadline := some deadline, since := (s.line l).stageClock }
            else x
          stageClock := (s.line l).stageClock + 1 }
        let f := s.profile e.profile
        ((s.line l).stationProfile = some e.profile → State.serveSetups 6 l s = State.serveSetups 6 l { s with
          lines := s.lines.set l.val (moved .work (s.line l).config.tPb)
          out := s.out ++ [.station l .pbGo] })
        ∧ ((s.line l).stationProfile ≠ some e.profile → State.serveSetups 6 l s = { s with
          lines := s.lines.set l.val { moved (.setup true) (s.line l).config.tSetup with stationProfile := none }
          out := s.out ++ [.station l (.pbSetup f.tools f.lead f.trail)] }))

/-- PB_DONE, on a line that is not FAULTED, applies to the oldest entry in AT_PUNCH with step WORK: its deadline is
cancelled and its stage becomes TO_SORTER with deadline T_so, or with none while an entry of the list waits for a bin.
With no entry at work, and on a FAULTED line, the message is ignored; and after the expiry of the WORK deadline the
line is FAULTED with cause MISSING. PB_FAULT, on a line that is not FAULTED, makes the station profile absent and the
line takes the fault PUNCH_FAULT, with the slot of the oldest entry in AT_PUNCH in its report when there is one; on a
FAULTED line it makes that report and leaves the station profile. -/
def Obligations.PunchReportsAreTaken : Prop :=
  (∀ (s : State) (l : LineId), (s.line l).fitted = true →
     ((s.line l).mode = .faulted ∨ (∀ x ∈ (s.line l).transit, x.stage ≠ .atPunch .work) →
       exec (.pbDone l) s = .next s.finish)
     ∧ ∀ (e : TransitEntry) (older newer : List TransitEntry),
       (s.line l).transit = older ++ e :: newer → (∀ x ∈ older, x.stage ≠ .atPunch .work) → e.stage = .atPunch .work →
       ((s.line l).mode ≠ .faulted → exec (.pbDone l) s = .next (State.finish { s with
         lines := s.lines.set l.val { s.line l with
           transit := (s.line l).transit.map fun x =>
             if x.slot = e.slot then
               { x with
                 stage := .toSorter, since := (s.line l).stageClock
                 deadline := if ∃ y ∈ (s.line l).transit, y.stage = .waitingBin then none
                   else some (s.line l).config.tSo }
             else x
           stageClock := (s.line l).stageClock + 1 } }))
       ∧ ((s.line l).mode ≠ .faulted → (∀ x ∈ older, x.slot ≠ e.slot) → e.deadline.isSome = true →
         ∃ t, exec (.deadlineExpiry l e.slot) s = .next t ∧ (t.line l).mode = .faulted
           ∧ (t.line l).faultCause = some .missing ∧ exec (.pbDone l) t = .next t.finish))
  ∧ (∀ (s : State) (l : LineId) (p : Option Slot), (s.line l).fitted = true →
       p = ((s.line l).transit.find? fun e => match e.stage with
         | .atPunch _ => true
         | _ => false).map TransitEntry.slot →
       ((s.line l).mode ≠ .faulted → exec (.pbFault l) s = .next (State.faultLine { s with
         lines := s.lines.set l.val { s.line l with stationProfile := none } } l .punchFault p).finish)
       ∧ ((s.line l).mode = .faulted → exec (.pbFault l) s =
         .next (s.report { kind := .lineFault, line := some l, slot := p, cause := some .punchFault }).finish))

/-- The expiry of the running deadline of a slot's entry: the line takes the fault SETUP_TIMEOUT for an entry in
AT_PUNCH with step SETUP and MISSING for any other, with the slot in its report. On a line that was not FAULTED no
deadline of the list runs afterwards, and the entries keep their stages, routes and places. With no deadline running,
or no entry of the slot, nothing changes. -/
def Obligations.DeadlinesExpire : Prop :=
  ∀ (s : State) (l : LineId) (p : Slot),
    (∀ (e : TransitEntry) (n : Nat), (s.line l).transit.find? (fun x => decide (x.slot = p)) = some e →
      e.deadline = some n →
      let c : Cause := if e.stage = .atPunch (.setup true) ∨ e.stage = .atPunch (.setup false) then .setupTimeout
        else .missing
      exec (.deadlineExpiry l p) s = .next (s.faultLine l c (some p)).finish
      ∧ ((s.line l).mode ≠ .faulted → ((s.faultLine l c (some p)).line l).transit =
        (s.line l).transit.map fun x => { x with deadline := none }))
    ∧ (∀ e : TransitEntry, (s.line l).transit.find? (fun x => decide (x.slot = p)) = some e → e.deadline = none →
      exec (.deadlineExpiry l p) s = .next s)
    ∧ ((∀ e ∈ (s.line l).transit, e.slot ≠ p) → exec (.deadlineExpiry l p) s = .next s)

/-! ### Sorting (spec 10) -/

/-- A bin has room when it is open and its count, with the entries AT_SORTER routed to it, is below its capacity.
SO_ARRIVAL is matched to the entry that has been longest in TO_SORTER: with room in its target bin (the record's
destination, or bin 0 for route REJECT) SO_ROUTE is sent and the entry enters AT_SORTER for that bin with T_so;
without, SO_WAIT is sent, the entry waits with no deadline and every deadline of TO_SORTER is stopped. With no entry
in TO_SORTER, and on a FAULTED line, it is the fault PHANTOM without a slot. Waiting plates are tried for room, oldest
first, and on a FAULTED line none is routed. Afterwards, on a line that is not FAULTED whose entries are all of
different slots, no entry is left waiting for a bin that has room; and no bin that was within its capacity, counting
the plates routed to it, has been given more than it holds. Each waiting plate stays as it was or is AT_SORTER for its
target bin with T_so, SO_ROUTE sent for it, in the order of the list; of two that wait for one bin the newer is not
routed without the older. When none is left waiting every plate in TO_SORTER takes a fresh T_so; else each keeps its
deadline. Every other plate is as it was. -/
def Obligations.PlatesAreRouted : Prop :=
  (∀ (s : State) (l : LineId), (s.line l).fitted = true →
     (∀ b : BinId, (s.line l).hasRoom b = true ↔ ((s.line l).bin b).closed = false
       ∧ ((s.line l).bin b).count + ((s.line l).transit.countP fun e => decide (e.stage = .atSorter b))
         < ((s.line l).bin b).capacity)
     ∧ ((s.line l).mode = .faulted ∨ (∀ e ∈ (s.line l).transit, e.stage ≠ .toSorter) →
       exec (.soArrival l) s = .next (s.faultLine l .phantom none).finish)
     ∧ ∀ (e : TransitEntry) (b : BinId), (s.line l).mode ≠ .faulted → e ∈ (s.line l).transit → e.stage = .toSorter →
       (∀ x ∈ (s.line l).transit, x.stage = .toSorter → x = e ∨ e.since < x.since) →
       b = (if e.route = .deliver then (s.plate e.slot).load.dest else 0) →
       let moved := fun (g : Stage) (deadline : Option Nat) => { s.line l with
         transit := (s.line l).transit.map fun x =>
           if x.slot = e.slot then { x with stage := g, deadline := deadline, since := (s.line l).stageClock } else x
         stageClock := (s.line l).stageClock + 1 }
       ((s.line l).hasRoom b = true → exec (.soArrival l) s = .next (State.finish { s with
         lines := s.lines.set l.val (moved (.atSorter b) (some (s.line l).config.tSo))
         out := s.out ++ [.station l (.soRoute b)] }))
       ∧ ((s.line l).hasRoom b = false → exec (.soArrival l) s = .next (State.finish { s with
         lines := s.lines.set l.val { moved .waitingBin none with
           transit := (moved .waitingBin none).transit.map fun x =>
             if x.stage = .toSorter then { x with deadline := none } else x }
         out := s.out ++ [.station l .soWait] })))
  ∧ (∀ (s : State) (l : LineId),
       let t := s.routeWaiting l
       ((s.line l).mode = .faulted → t = s)
       ∧ ((s.line l).mode ≠ .faulted → ((s.line l).transit.map TransitEntry.slot).Nodup →
         ∀ e ∈ (t.line l).transit, e.stage = .waitingBin → (t.line l).hasRoom (t.targetBin e) = false)
       ∧ (((s.line l).transit.map TransitEntry.slot).Nodup →
         ∀ b : BinId, ((s.line l).bin b).count + (s.line l).routedTo b ≤ ((s.line l).bin b).capacity →
           ((t.line l).bin b).count + (t.line l).routedTo b ≤ ((t.line l).bin b).capacity)
       ∧ ((s.line l).mode ≠ .faulted → ((s.line l).transit.map TransitEntry.slot).Nodup →
         let before := (s.line l).transit
         let after := (t.line l).transit
         let routed := fun e : TransitEntry => decide (e.stage = .waitingBin)
           && !after.any fun x => decide (x.slot = e.slot ∧ x.stage = .waitingBin)
         let resumed := (∃ e ∈ before, e.stage = .waitingBin) ∧ ∀ x ∈ after, x.stage ≠ .waitingBin
         after.length = before.length
         ∧ (∀ (i : Nat) (e x : TransitEntry), before[i]? = some e → after[i]? = some x →
           (routed e = true → x = { e with
               stage := .atSorter (s.targetBin e), deadline := some (s.line l).config.tSo, since := x.since }
             ∧ (s.line l).stageClock ≤ x.since)
           ∧ (resumed → e.stage = .toSorter → x = { e with deadline := some (s.line l).config.tSo })
           ∧ (routed e = false → ¬ (resumed ∧ e.stage = .toSorter) → x = e))
         ∧ (∀ (i j : Nat) (e e' : TransitEntry), i < j → before[i]? = some e → before[j]? = some e' →
           e.stage = .waitingBin → s.targetBin e = s.targetBin e' → routed e' = true → routed e = true)
         ∧ t.out = s.out ++ (before.filter routed).map fun e => .station l (.soRoute (s.targetBin e)))
       ∧ t = { s with
         lines := s.lines.set l.val { s.line l with transit := (t.line l).transit, stageClock := (t.line l).stageClock }
         out := t.out })

/-- SO_STACKED is matched to the entry that has been longest in AT_SORTER. Naming its routed bin, it stacks the plate:
the bin's count rises by one, the entry leaves the list, the record takes its fate, a stalled band is woken, BIN_FULL
is made when the count has reached or passed the capacity, the start conditions are tested, and waiting plates are
tried for room: BIN_FULL at a count above the capacity is log 14's choice, and the waking right after the fate log
11's. Naming another bin it is a misroute: no count changes, the entry leaves the list, the record is SPOILED with
cause MISROUTE (and remade when AUTO), and the line takes the fault with the slot. With no entry in AT_SORTER it is
the fault PHANTOM; on a FAULTED line it is ignored. -/
def Obligations.PlatesAreStacked : Prop :=
  ∀ (s : State) (l : LineId) (bin : Nat), (s.line l).fitted = true →
    ((s.line l).mode = .faulted → exec (.soStacked l bin) s = .next s.finish)
    ∧ ((s.line l).mode ≠ .faulted → (∀ e ∈ (s.line l).transit, ∀ b, e.stage ≠ .atSorter b) →
      exec (.soStacked l bin) s = .next (s.faultLine l .phantom none).finish)
    ∧ ∀ (e : TransitEntry) (b : BinId), (s.line l).mode ≠ .faulted → e ∈ (s.line l).transit → e.stage = .atSorter b →
      (∀ x ∈ (s.line l).transit, (∃ b', x.stage = .atSorter b') → x = e ∨ e.since < x.since) →
      let gone := (s.line l).transit.filter fun x => decide (x.slot ≠ e.slot)
      let counted := (s.line l).bins.set b.val { (s.line l).bin b with count := ((s.line l).bin b).count + 1 }
      (bin = b.val → ∃ u : State, u = State.wakeIntake (State.fate { s with
          lines := s.lines.set l.val { s.line l with transit := gone, bins := counted } } l b e)
        ∧ (((s.line l).bin b).capacity ≤ ((s.line l).bin b).count + 1 → exec (.soStacked l bin) s = .next
          (((u.report { kind := .binFull, line := some l, bin := some b }).startTest l).routeWaiting l).finish)
        ∧ (((s.line l).bin b).count + 1 < ((s.line l).bin b).capacity → exec (.soStacked l bin) s = .next
          ((u.startTest l).routeWaiting l).finish))
      ∧ (bin ≠ b.val → exec (.soStacked l bin) s = .next ((State.spoil { s with
        lines := s.lines.set l.val { s.line l with transit := gone } } e.slot .misroute).faultLine l .misroute
          (some e.slot)).finish)

/-- The fate of a stacked plate, by its route and its doom. DELIVER without a doom: DELIVERED in the bin,
PLATE_DELIVERED with the pass, and then its demand falls. DELIVER with a doom: OBSOLETE in the bin with last cause
OBSOLETE, PLATE_OBSOLETE naming the first tile whose bound version is below its page's current one. REJECT with doom
OBSOLETE: OBSOLETE; REJECT with another doom: SPOILED with the doom as its cause; both without a place, with
PLATE_REJECTED. A record that became OBSOLETE or SPOILED is remade when AUTO, after its report and its last cause are
made: bound versions and place are absent, and it is READY, at the back of its class and the Dispatcher told, when
every page of its tiles is COMPLETE, and PLANNED otherwise. The line field and the doom are absent after every fate.
-/
def Obligations.StackingDecidesTheFate : Prop :=
  ∀ (s : State) (l : LineId) (b : BinId) (e : TransitEntry),
    let p := e.slot
    let r := s.plate p
    let remade := decide (r.load.remake = .auto)
    let joins := remade && r.load.keys.all fun k => decide ((s.page k).state = .complete)
    let failed := fun (g : PlateState) (place : Option (LineId × BinId)) (c : Cause) (report : Report) => { s with
      plates := s.plates.set p.val (if remade
        then
          { state := if joins then .ready else .planned, load := r.load, pass := r.pass, lastCause := some c }
        else { r with state := g, line := none, doom := none, place := place, lastCause := some c })
      reports := s.reports.offer report
      ready := if joins = false then s.ready
        else if r.load.priority = .urgent then s.ready.takeWhile s.urgent ++ p :: s.ready.dropWhile s.urgent
        else s.ready ++ [p]
      told := s.told || joins }
    (e.route = .deliver → r.doom = none → s.fate l b e = State.offerDemand { s with
      plates := s.plates.set p.val { r with state := .delivered, line := none, doom := none, place := some (l, b) }
      reports := s.reports.offer
        { kind := .plateDelivered, slot := some p, line := some l, pass := some r.pass, bin := some b } } r.load.keys [])
    ∧ (∀ (d : Doom) (k : PageIx) (v : Nat) (older newer : List (PageIx × Nat)), e.route = .deliver → r.doom = some d →
      r.load.keys.zip (r.bound.getD []) = older ++ (k, v) :: newer →
      (∀ q ∈ older, (s.page q.1).version ≤ q.2) → v < (s.page k).version →
      s.fate l b e = failed .obsolete (some (l, b)) .obsolete
        { kind := .plateObsolete, slot := some p, line := some l, bin := some b, key := some (keyBytes k),
          version := some (s.page k).version })
    ∧ (∀ (c : Cause) (d : Doom), e.route = .reject c → r.doom = some d →
      s.fate l b e = failed (if d = .obsolete then .obsolete else .spoiled) none d.cause
        { kind := .plateRejected, slot := some p, line := some l, bin := some b, cause := some d.cause })
    ∧ (e.route ≠ .deliver ∨ r.doom ≠ none → remade = true →
      ((s.fate l b e).plate p).bound = none ∧ ((s.fate l b e).plate p).place = none
      ∧ ((s.fate l b e).plate p).state = if joins then .ready else .planned)
    ∧ ((s.fate l b e).plate p).line = none ∧ ((s.fate l b e).plate p).doom = none
    ∧ ((s.fate l b e).plate p).pass = r.pass ∧ ∀ q : Slot, q ≠ p → (s.fate l b e).plate q = s.plate q

/-- SO_BIN_EMPTIED of a bin 0..9, in every line state: its count becomes 0, its capacity and closed flag stay,
BIN_EMPTIED is made, and on a line that is not FAULTED the waiting plates are tried for room. A bin outside 0..9 makes
it ignored. BIN_OPEN and BIN_CLOSE, in every line state: the bin's closed flag is cleared or set, all else of the bin
stays, and BIN_OPEN tries the waiting plates for room. A line above 3 is refused BAD_FIELD with field index 1, a bin
above 9 with field index 2, and for BIN_CLOSE bin 0 too. SO_FAULT: the line takes the fault SORTER_FAULT, with the
slot of the entry that has been longest in AT_SORTER in its report when there is one. -/
def Obligations.BinsAreEmptiedOpenedAndClosed : Prop :=
  (∀ (s : State) (l : LineId), (s.line l).fitted = true →
     (∀ b : BinId,
       let u : State := { s with
         lines := s.lines.set l.val { s.line l with bins := (s.line l).bins.set b.val { (s.line l).bin b with count := 0 } }
         reports := s.reports.offer { kind := .binEmptied, line := some l, bin := some b } }
       exec (.soBinEmptied l b.val) s = .next (u.routeWaiting l).finish
       ∧ ((s.line l).mode = .faulted → u.routeWaiting l = u))
     ∧ ∀ n, 10 ≤ n → exec (.soBinEmptied l n) s = .next s.finish)
  ∧ (∀ (s : State) (f : ControlFrame) (l : LineId) (b : BinId),
       let flagged := fun closed : Bool => { s.dropControl with
         lines := s.lines.set l.val { s.line l with
           bins := (s.line l).bins.set b.val { (s.line l).bin b with closed := closed } } }
       (s.Offers f 0x50 (u8 l.val ++ u8 b.val) →
         exec .binOpen s = .next (((flagged false).routeWaiting l).carried f 0x50))
       ∧ (s.Offers f 0x51 (u8 l.val ++ u8 b.val) →
         (b ≠ 0 → exec .binClose s = .next ((flagged true).carried f 0x51))
         ∧ (b = 0 → exec .binClose s = .next (s.replied f 0x51 { status := .badField, field := 2 })))
       ∧ ∀ line bin : Byte,
         (3 < line.toNat →
           (s.Offers f 0x50 [line, bin] → exec .binOpen s = .next (s.replied f 0x50 { status := .badField, field := 1 }))
           ∧ (s.Offers f 0x51 [line, bin] → exec .binClose s = .next (s.replied f 0x51 { status := .badField, field := 1 })))
         ∧ (line.toNat ≤ 3 → 9 < bin.toNat →
           (s.Offers f 0x50 [line, bin] → exec .binOpen s = .next (s.replied f 0x50 { status := .badField, field := 2 }))
           ∧ (s.Offers f 0x51 [line, bin] → exec .binClose s = .next (s.replied f 0x51 { status := .badField, field := 2 }))))
  ∧ (∀ (s : State) (l : LineId), (s.line l).fitted = true →
       ((∀ e ∈ (s.line l).transit, ∀ b, e.stage ≠ .atSorter b) →
         exec (.soFault l) s = .next (s.faultLine l .sorterFault none).finish)
       ∧ ∀ (e : TransitEntry) (b : BinId), e ∈ (s.line l).transit → e.stage = .atSorter b →
         (∀ x ∈ (s.line l).transit, (∃ b', x.stage = .atSorter b') → x = e ∨ e.since < x.since) →
         exec (.soFault l) s = .next (s.faultLine l .sorterFault (some e.slot)).finish)

/-! ### What every command keeps -/

/-- The capacities hold after every command in whatever state it is taken: no more than 16 control frames, 256 report
records, 4 bands, 8 queue entries a line, 16 scan lines a feed buffer, and 6 plates of a line in transit and being
imaged; the report sequence number is below 65536. The reject bin of every line stays open. Plate memory keeps its
canonical form. The engine stands between two commands again. -/
def Obligations.CapacitiesAreKept : Prop :=
  ∀ s t : State, step s = .next t →
    (s.LinkBounded → t.LinkBounded) ∧ (s.LinesBounded → t.LinesBounded) ∧ (s.RejectBinsOpen → t.RejectBinsOpen)
    ∧ (s.store.mem.wf → t.store.mem.wf) ∧ (s.Quiet → t.Quiet)

/-- Every command keeps the agreement of a line's state with what the line holds: a fault cause in FAULTED alone; an
empty queue in STOPPED and FAULTED; no exposure in flight in STOPPED, PAUSED and HELD; no deadline running in FAULTED;
and a line that is not fitted STOPPED with nothing in transit. -/
def Obligations.LinesStayConsistent : Prop :=
  ∀ s t : State, s.LinesConsistent → step s = .next t → t.LinesConsistent

/-- Every command keeps the raster store sound: every strip number 0..16383 is in the free list or in the strip list
of exactly one descriptor; a FREE descriptor holds no strip and has no directory hold; and the raster of a page entry
is a descriptor of that page, not FREE, with the directory hold. And in a coherent engine every command keeps the
holds of exposures sound: a descriptor counts the lines, at most four, whose exposure in flight holds it; the state of
a descriptor fits its holds, so that one that is held is FILLED or RETIRED; an exposure holds a raster once; and every
active tile of a Composer reads a raster that its exposure holds, of the version bound. -/
def Obligations.StripsAreConserved : Prop :=
  (∀ s t : State, s.StoreSound → step s = .next t → t.StoreSound)
  ∧ ∀ s t : State, s.Coherent → s.StoreSound → s.HoldsSound → step s = .next t → t.HoldsSound

/-- Every command keeps version coherence: every record stands in exactly the list its state names; in the ready list
the URGENT records stand before the NORMAL ones; every page's demand count is the number of tile references to it held
by demanding records; READY and QUEUED records have every page COMPLETE; a record being imaged or in transit without
withdraw mark and doom, and every DELIVERED record, is bound to the current version of every page of its tiles. -/
def Obligations.CoherenceIsKept : Prop :=
  ∀ s t : State, s.Coherent → step s = .next t → t.Coherent

/-- Whatever commands are sent to an engine after reset, at every moment of the run no plate record is DELIVERED with
a bound version that is not the current version of its tile's page. -/
def Obligations.SafeRuns : Prop :=
  ∀ (commands : List Instr) (states : List State), states.head? = some { State.reset with pending := commands } →
    List.IsChain (fun a b => step a = .next b) states → ∀ s ∈ states, s.Safe
end

