-- ==== Sys2Proof/Laws/State.lean ====
section
/-! SUPPORT. The fields of the state after each update: one lemma per field and update, all true by definition. -/

namespace Sys2Proof.Machine

/-! ### setPage -/

@[simp] theorem State.setPage_link (s : State) (k0 : PageIx) (e : PageEntry) : (s.setPage k0 e).link = s.link := rfl
@[simp] theorem State.setPage_reports (s : State) (k0 : PageIx) (e : PageEntry) : (s.setPage k0 e).reports = s.reports := rfl
@[simp] theorem State.setPage_intake (s : State) (k0 : PageIx) (e : PageEntry) : (s.setPage k0 e).intake = s.intake := rfl
@[simp] theorem State.setPage_store (s : State) (k0 : PageIx) (e : PageEntry) : (s.setPage k0 e).store = s.store := rfl
@[simp] theorem State.setPage_plates (s : State) (k0 : PageIx) (e : PageEntry) : (s.setPage k0 e).plates = s.plates := rfl
@[simp] theorem State.setPage_ready (s : State) (k0 : PageIx) (e : PageEntry) : (s.setPage k0 e).ready = s.ready := rfl
@[simp] theorem State.setPage_lines (s : State) (k0 : PageIx) (e : PageEntry) : (s.setPage k0 e).lines = s.lines := rfl
@[simp] theorem State.setPage_profiles (s : State) (k0 : PageIx) (e : PageEntry) : (s.setPage k0 e).profiles = s.profiles := rfl
@[simp] theorem State.setPage_told (s : State) (k0 : PageIx) (e : PageEntry) : (s.setPage k0 e).told = s.told := rfl
@[simp] theorem State.setPage_out (s : State) (k0 : PageIx) (e : PageEntry) : (s.setPage k0 e).out = s.out := rfl
@[simp] theorem State.setPage_powerCycle (s : State) (k0 : PageIx) (e : PageEntry) : (s.setPage k0 e).powerCycle = s.powerCycle := rfl
@[simp] theorem State.setPage_resetDraws (s : State) (k0 : PageIx) (e : PageEntry) : (s.setPage k0 e).resetDraws = s.resetDraws := rfl
@[simp] theorem State.setPage_pending (s : State) (k0 : PageIx) (e : PageEntry) : (s.setPage k0 e).pending = s.pending := rfl
@[simp] theorem State.setPage_plate (s : State) (k0 : PageIx) (e : PageEntry) (p : Slot) : (s.setPage k0 e).plate p = s.plate p := rfl
@[simp] theorem State.setPage_line (s : State) (k0 : PageIx) (e : PageEntry) (l : LineId) : (s.setPage k0 e).line l = s.line l := rfl
@[simp] theorem State.setPage_profile (s : State) (k0 : PageIx) (e : PageEntry) (f : ProfileId) : (s.setPage k0 e).profile f = s.profile f := rfl

/-! ### setPlate -/

@[simp] theorem State.setPlate_link (s : State) (p0 : Slot) (r : PlateRecord) : (s.setPlate p0 r).link = s.link := rfl
@[simp] theorem State.setPlate_reports (s : State) (p0 : Slot) (r : PlateRecord) : (s.setPlate p0 r).reports = s.reports := rfl
@[simp] theorem State.setPlate_intake (s : State) (p0 : Slot) (r : PlateRecord) : (s.setPlate p0 r).intake = s.intake := rfl
@[simp] theorem State.setPlate_pages (s : State) (p0 : Slot) (r : PlateRecord) : (s.setPlate p0 r).pages = s.pages := rfl
@[simp] theorem State.setPlate_store (s : State) (p0 : Slot) (r : PlateRecord) : (s.setPlate p0 r).store = s.store := rfl
@[simp] theorem State.setPlate_ready (s : State) (p0 : Slot) (r : PlateRecord) : (s.setPlate p0 r).ready = s.ready := rfl
@[simp] theorem State.setPlate_lines (s : State) (p0 : Slot) (r : PlateRecord) : (s.setPlate p0 r).lines = s.lines := rfl
@[simp] theorem State.setPlate_profiles (s : State) (p0 : Slot) (r : PlateRecord) : (s.setPlate p0 r).profiles = s.profiles := rfl
@[simp] theorem State.setPlate_told (s : State) (p0 : Slot) (r : PlateRecord) : (s.setPlate p0 r).told = s.told := rfl
@[simp] theorem State.setPlate_out (s : State) (p0 : Slot) (r : PlateRecord) : (s.setPlate p0 r).out = s.out := rfl
@[simp] theorem State.setPlate_powerCycle (s : State) (p0 : Slot) (r : PlateRecord) : (s.setPlate p0 r).powerCycle = s.powerCycle := rfl
@[simp] theorem State.setPlate_resetDraws (s : State) (p0 : Slot) (r : PlateRecord) : (s.setPlate p0 r).resetDraws = s.resetDraws := rfl
@[simp] theorem State.setPlate_pending (s : State) (p0 : Slot) (r : PlateRecord) : (s.setPlate p0 r).pending = s.pending := rfl
@[simp] theorem State.setPlate_page (s : State) (p0 : Slot) (r : PlateRecord) (k : PageIx) : (s.setPlate p0 r).page k = s.page k := rfl
@[simp] theorem State.setPlate_line (s : State) (p0 : Slot) (r : PlateRecord) (l : LineId) : (s.setPlate p0 r).line l = s.line l := rfl
@[simp] theorem State.setPlate_profile (s : State) (p0 : Slot) (r : PlateRecord) (f : ProfileId) : (s.setPlate p0 r).profile f = s.profile f := rfl

/-! ### setLine -/

@[simp] theorem State.setLine_link (s : State) (l0 : LineId) (ln : Line) : (s.setLine l0 ln).link = s.link := rfl
@[simp] theorem State.setLine_reports (s : State) (l0 : LineId) (ln : Line) : (s.setLine l0 ln).reports = s.reports := rfl
@[simp] theorem State.setLine_intake (s : State) (l0 : LineId) (ln : Line) : (s.setLine l0 ln).intake = s.intake := rfl
@[simp] theorem State.setLine_pages (s : State) (l0 : LineId) (ln : Line) : (s.setLine l0 ln).pages = s.pages := rfl
@[simp] theorem State.setLine_store (s : State) (l0 : LineId) (ln : Line) : (s.setLine l0 ln).store = s.store := rfl
@[simp] theorem State.setLine_plates (s : State) (l0 : LineId) (ln : Line) : (s.setLine l0 ln).plates = s.plates := rfl
@[simp] theorem State.setLine_ready (s : State) (l0 : LineId) (ln : Line) : (s.setLine l0 ln).ready = s.ready := rfl
@[simp] theorem State.setLine_profiles (s : State) (l0 : LineId) (ln : Line) : (s.setLine l0 ln).profiles = s.profiles := rfl
@[simp] theorem State.setLine_told (s : State) (l0 : LineId) (ln : Line) : (s.setLine l0 ln).told = s.told := rfl
@[simp] theorem State.setLine_out (s : State) (l0 : LineId) (ln : Line) : (s.setLine l0 ln).out = s.out := rfl
@[simp] theorem State.setLine_powerCycle (s : State) (l0 : LineId) (ln : Line) : (s.setLine l0 ln).powerCycle = s.powerCycle := rfl
@[simp] theorem State.setLine_resetDraws (s : State) (l0 : LineId) (ln : Line) : (s.setLine l0 ln).resetDraws = s.resetDraws := rfl
@[simp] theorem State.setLine_pending (s : State) (l0 : LineId) (ln : Line) : (s.setLine l0 ln).pending = s.pending := rfl
@[simp] theorem State.setLine_page (s : State) (l0 : LineId) (ln : Line) (k : PageIx) : (s.setLine l0 ln).page k = s.page k := rfl
@[simp] theorem State.setLine_plate (s : State) (l0 : LineId) (ln : Line) (p : Slot) : (s.setLine l0 ln).plate p = s.plate p := rfl
@[simp] theorem State.setLine_profile (s : State) (l0 : LineId) (ln : Line) (f : ProfileId) : (s.setLine l0 ln).profile f = s.profile f := rfl

/-! ### setProfile -/

@[simp] theorem State.setProfile_link (s : State) (f0 : ProfileId) (x : Profile) : (s.setProfile f0 x).link = s.link := rfl
@[simp] theorem State.setProfile_reports (s : State) (f0 : ProfileId) (x : Profile) : (s.setProfile f0 x).reports = s.reports := rfl
@[simp] theorem State.setProfile_intake (s : State) (f0 : ProfileId) (x : Profile) : (s.setProfile f0 x).intake = s.intake := rfl
@[simp] theorem State.setProfile_pages (s : State) (f0 : ProfileId) (x : Profile) : (s.setProfile f0 x).pages = s.pages := rfl
@[simp] theorem State.setProfile_store (s : State) (f0 : ProfileId) (x : Profile) : (s.setProfile f0 x).store = s.store := rfl
@[simp] theorem State.setProfile_plates (s : State) (f0 : ProfileId) (x : Profile) : (s.setProfile f0 x).plates = s.plates := rfl
@[simp] theorem State.setProfile_ready (s : State) (f0 : ProfileId) (x : Profile) : (s.setProfile f0 x).ready = s.ready := rfl
@[simp] theorem State.setProfile_lines (s : State) (f0 : ProfileId) (x : Profile) : (s.setProfile f0 x).lines = s.lines := rfl
@[simp] theorem State.setProfile_told (s : State) (f0 : ProfileId) (x : Profile) : (s.setProfile f0 x).told = s.told := rfl
@[simp] theorem State.setProfile_out (s : State) (f0 : ProfileId) (x : Profile) : (s.setProfile f0 x).out = s.out := rfl
@[simp] theorem State.setProfile_powerCycle (s : State) (f0 : ProfileId) (x : Profile) : (s.setProfile f0 x).powerCycle = s.powerCycle := rfl
@[simp] theorem State.setProfile_resetDraws (s : State) (f0 : ProfileId) (x : Profile) : (s.setProfile f0 x).resetDraws = s.resetDraws := rfl
@[simp] theorem State.setProfile_pending (s : State) (f0 : ProfileId) (x : Profile) : (s.setProfile f0 x).pending = s.pending := rfl
@[simp] theorem State.setProfile_page (s : State) (f0 : ProfileId) (x : Profile) (k : PageIx) : (s.setProfile f0 x).page k = s.page k := rfl
@[simp] theorem State.setProfile_plate (s : State) (f0 : ProfileId) (x : Profile) (p : Slot) : (s.setProfile f0 x).plate p = s.plate p := rfl
@[simp] theorem State.setProfile_line (s : State) (f0 : ProfileId) (x : Profile) (l : LineId) : (s.setProfile f0 x).line l = s.line l := rfl

/-! ### report -/

@[simp] theorem State.report_link (s : State) (r : Report) : (s.report r).link = s.link := rfl
@[simp] theorem State.report_intake (s : State) (r : Report) : (s.report r).intake = s.intake := rfl
@[simp] theorem State.report_pages (s : State) (r : Report) : (s.report r).pages = s.pages := rfl
@[simp] theorem State.report_store (s : State) (r : Report) : (s.report r).store = s.store := rfl
@[simp] theorem State.report_plates (s : State) (r : Report) : (s.report r).plates = s.plates := rfl
@[simp] theorem State.report_ready (s : State) (r : Report) : (s.report r).ready = s.ready := rfl
@[simp] theorem State.report_lines (s : State) (r : Report) : (s.report r).lines = s.lines := rfl
@[simp] theorem State.report_profiles (s : State) (r : Report) : (s.report r).profiles = s.profiles := rfl
@[simp] theorem State.report_told (s : State) (r : Report) : (s.report r).told = s.told := rfl
@[simp] theorem State.report_out (s : State) (r : Report) : (s.report r).out = s.out := rfl
@[simp] theorem State.report_powerCycle (s : State) (r : Report) : (s.report r).powerCycle = s.powerCycle := rfl
@[simp] theorem State.report_resetDraws (s : State) (r : Report) : (s.report r).resetDraws = s.resetDraws := rfl
@[simp] theorem State.report_pending (s : State) (r : Report) : (s.report r).pending = s.pending := rfl
@[simp] theorem State.report_page (s : State) (r : Report) (k : PageIx) : (s.report r).page k = s.page k := rfl
@[simp] theorem State.report_plate (s : State) (r : Report) (p : Slot) : (s.report r).plate p = s.plate p := rfl
@[simp] theorem State.report_line (s : State) (r : Report) (l : LineId) : (s.report r).line l = s.line l := rfl
@[simp] theorem State.report_profile (s : State) (r : Report) (f : ProfileId) : (s.report r).profile f = s.profile f := rfl

/-! ### send -/

@[simp] theorem State.send_link (s : State) (l0 : LineId) (m : StationMessage) : (s.send l0 m).link = s.link := rfl
@[simp] theorem State.send_reports (s : State) (l0 : LineId) (m : StationMessage) : (s.send l0 m).reports = s.reports := rfl
@[simp] theorem State.send_intake (s : State) (l0 : LineId) (m : StationMessage) : (s.send l0 m).intake = s.intake := rfl
@[simp] theorem State.send_pages (s : State) (l0 : LineId) (m : StationMessage) : (s.send l0 m).pages = s.pages := rfl
@[simp] theorem State.send_store (s : State) (l0 : LineId) (m : StationMessage) : (s.send l0 m).store = s.store := rfl
@[simp] theorem State.send_plates (s : State) (l0 : LineId) (m : StationMessage) : (s.send l0 m).plates = s.plates := rfl
@[simp] theorem State.send_ready (s : State) (l0 : LineId) (m : StationMessage) : (s.send l0 m).ready = s.ready := rfl
@[simp] theorem State.send_lines (s : State) (l0 : LineId) (m : StationMessage) : (s.send l0 m).lines = s.lines := rfl
@[simp] theorem State.send_profiles (s : State) (l0 : LineId) (m : StationMessage) : (s.send l0 m).profiles = s.profiles := rfl
@[simp] theorem State.send_told (s : State) (l0 : LineId) (m : StationMessage) : (s.send l0 m).told = s.told := rfl
@[simp] theorem State.send_powerCycle (s : State) (l0 : LineId) (m : StationMessage) : (s.send l0 m).powerCycle = s.powerCycle := rfl
@[simp] theorem State.send_resetDraws (s : State) (l0 : LineId) (m : StationMessage) : (s.send l0 m).resetDraws = s.resetDraws := rfl
@[simp] theorem State.send_pending (s : State) (l0 : LineId) (m : StationMessage) : (s.send l0 m).pending = s.pending := rfl
@[simp] theorem State.send_page (s : State) (l0 : LineId) (m : StationMessage) (k : PageIx) : (s.send l0 m).page k = s.page k := rfl
@[simp] theorem State.send_plate (s : State) (l0 : LineId) (m : StationMessage) (p : Slot) : (s.send l0 m).plate p = s.plate p := rfl
@[simp] theorem State.send_line (s : State) (l0 : LineId) (m : StationMessage) (l : LineId) : (s.send l0 m).line l = s.line l := rfl
@[simp] theorem State.send_profile (s : State) (l0 : LineId) (m : StationMessage) (f : ProfileId) : (s.send l0 m).profile f = s.profile f := rfl

/-! ### emit -/

@[simp] theorem State.emit_link (s : State) (kind : Nat) (tag : BitVec 16) (body : List Byte) : (s.emit kind tag body).link = s.link := rfl
@[simp] theorem State.emit_reports (s : State) (kind : Nat) (tag : BitVec 16) (body : List Byte) : (s.emit kind tag body).reports = s.reports := rfl
@[simp] theorem State.emit_intake (s : State) (kind : Nat) (tag : BitVec 16) (body : List Byte) : (s.emit kind tag body).intake = s.intake := rfl
@[simp] theorem State.emit_pages (s : State) (kind : Nat) (tag : BitVec 16) (body : List Byte) : (s.emit kind tag body).pages = s.pages := rfl
@[simp] theorem State.emit_store (s : State) (kind : Nat) (tag : BitVec 16) (body : List Byte) : (s.emit kind tag body).store = s.store := rfl
@[simp] theorem State.emit_plates (s : State) (kind : Nat) (tag : BitVec 16) (body : List Byte) : (s.emit kind tag body).plates = s.plates := rfl
@[simp] theorem State.emit_ready (s : State) (kind : Nat) (tag : BitVec 16) (body : List Byte) : (s.emit kind tag body).ready = s.ready := rfl
@[simp] theorem State.emit_lines (s : State) (kind : Nat) (tag : BitVec 16) (body : List Byte) : (s.emit kind tag body).lines = s.lines := rfl
@[simp] theorem State.emit_profiles (s : State) (kind : Nat) (tag : BitVec 16) (body : List Byte) : (s.emit kind tag body).profiles = s.profiles := rfl
@[simp] theorem State.emit_told (s : State) (kind : Nat) (tag : BitVec 16) (body : List Byte) : (s.emit kind tag body).told = s.told := rfl
@[simp] theorem State.emit_powerCycle (s : State) (kind : Nat) (tag : BitVec 16) (body : List Byte) : (s.emit kind tag body).powerCycle = s.powerCycle := rfl
@[simp] theorem State.emit_resetDraws (s : State) (kind : Nat) (tag : BitVec 16) (body : List Byte) : (s.emit kind tag body).resetDraws = s.resetDraws := rfl
@[simp] theorem State.emit_pending (s : State) (kind : Nat) (tag : BitVec 16) (body : List Byte) : (s.emit kind tag body).pending = s.pending := rfl
@[simp] theorem State.emit_page (s : State) (kind : Nat) (tag : BitVec 16) (body : List Byte) (k : PageIx) : (s.emit kind tag body).page k = s.page k := rfl
@[simp] theorem State.emit_plate (s : State) (kind : Nat) (tag : BitVec 16) (body : List Byte) (p : Slot) : (s.emit kind tag body).plate p = s.plate p := rfl
@[simp] theorem State.emit_line (s : State) (kind : Nat) (tag : BitVec 16) (body : List Byte) (l : LineId) : (s.emit kind tag body).line l = s.line l := rfl
@[simp] theorem State.emit_profile (s : State) (kind : Nat) (tag : BitVec 16) (body : List Byte) (f : ProfileId) : (s.emit kind tag body).profile f = s.profile f := rfl

/-! ### tell -/

@[simp] theorem State.tell_link (s : State) : (s.tell).link = s.link := rfl
@[simp] theorem State.tell_reports (s : State) : (s.tell).reports = s.reports := rfl
@[simp] theorem State.tell_intake (s : State) : (s.tell).intake = s.intake := rfl
@[simp] theorem State.tell_pages (s : State) : (s.tell).pages = s.pages := rfl
@[simp] theorem State.tell_store (s : State) : (s.tell).store = s.store := rfl
@[simp] theorem State.tell_plates (s : State) : (s.tell).plates = s.plates := rfl
@[simp] theorem State.tell_ready (s : State) : (s.tell).ready = s.ready := rfl
@[simp] theorem State.tell_lines (s : State) : (s.tell).lines = s.lines := rfl
@[simp] theorem State.tell_profiles (s : State) : (s.tell).profiles = s.profiles := rfl
@[simp] theorem State.tell_out (s : State) : (s.tell).out = s.out := rfl
@[simp] theorem State.tell_powerCycle (s : State) : (s.tell).powerCycle = s.powerCycle := rfl
@[simp] theorem State.tell_resetDraws (s : State) : (s.tell).resetDraws = s.resetDraws := rfl
@[simp] theorem State.tell_pending (s : State) : (s.tell).pending = s.pending := rfl
@[simp] theorem State.tell_page (s : State) (k : PageIx) : (s.tell).page k = s.page k := rfl
@[simp] theorem State.tell_plate (s : State) (p : Slot) : (s.tell).plate p = s.plate p := rfl
@[simp] theorem State.tell_line (s : State) (l : LineId) : (s.tell).line l = s.line l := rfl
@[simp] theorem State.tell_profile (s : State) (f : ProfileId) : (s.tell).profile f = s.profile f := rfl

/-! ### onStore -/

@[simp] theorem State.onStore_link (s : State) (g : RasterStore → RasterStore) : (s.onStore g).link = s.link := rfl
@[simp] theorem State.onStore_reports (s : State) (g : RasterStore → RasterStore) : (s.onStore g).reports = s.reports := rfl
@[simp] theorem State.onStore_intake (s : State) (g : RasterStore → RasterStore) : (s.onStore g).intake = s.intake := rfl
@[simp] theorem State.onStore_pages (s : State) (g : RasterStore → RasterStore) : (s.onStore g).pages = s.pages := rfl
@[simp] theorem State.onStore_plates (s : State) (g : RasterStore → RasterStore) : (s.onStore g).plates = s.plates := rfl
@[simp] theorem State.onStore_ready (s : State) (g : RasterStore → RasterStore) : (s.onStore g).ready = s.ready := rfl
@[simp] theorem State.onStore_lines (s : State) (g : RasterStore → RasterStore) : (s.onStore g).lines = s.lines := rfl
@[simp] theorem State.onStore_profiles (s : State) (g : RasterStore → RasterStore) : (s.onStore g).profiles = s.profiles := rfl
@[simp] theorem State.onStore_told (s : State) (g : RasterStore → RasterStore) : (s.onStore g).told = s.told := rfl
@[simp] theorem State.onStore_out (s : State) (g : RasterStore → RasterStore) : (s.onStore g).out = s.out := rfl
@[simp] theorem State.onStore_powerCycle (s : State) (g : RasterStore → RasterStore) : (s.onStore g).powerCycle = s.powerCycle := rfl
@[simp] theorem State.onStore_resetDraws (s : State) (g : RasterStore → RasterStore) : (s.onStore g).resetDraws = s.resetDraws := rfl
@[simp] theorem State.onStore_pending (s : State) (g : RasterStore → RasterStore) : (s.onStore g).pending = s.pending := rfl
@[simp] theorem State.onStore_page (s : State) (g : RasterStore → RasterStore) (k : PageIx) : (s.onStore g).page k = s.page k := rfl
@[simp] theorem State.onStore_plate (s : State) (g : RasterStore → RasterStore) (p : Slot) : (s.onStore g).plate p = s.plate p := rfl
@[simp] theorem State.onStore_line (s : State) (g : RasterStore → RasterStore) (l : LineId) : (s.onStore g).line l = s.line l := rfl
@[simp] theorem State.onStore_profile (s : State) (g : RasterStore → RasterStore) (f : ProfileId) : (s.onStore g).profile f = s.profile f := rfl

/-! ### beginHanding -/

@[simp] theorem State.beginHanding_link (s : State) : (s.beginHanding).link = s.link := rfl
@[simp] theorem State.beginHanding_reports (s : State) : (s.beginHanding).reports = s.reports := rfl
@[simp] theorem State.beginHanding_intake (s : State) : (s.beginHanding).intake = s.intake := rfl
@[simp] theorem State.beginHanding_pages (s : State) : (s.beginHanding).pages = s.pages := rfl
@[simp] theorem State.beginHanding_plates (s : State) : (s.beginHanding).plates = s.plates := rfl
@[simp] theorem State.beginHanding_ready (s : State) : (s.beginHanding).ready = s.ready := rfl
@[simp] theorem State.beginHanding_lines (s : State) : (s.beginHanding).lines = s.lines := rfl
@[simp] theorem State.beginHanding_profiles (s : State) : (s.beginHanding).profiles = s.profiles := rfl
@[simp] theorem State.beginHanding_told (s : State) : (s.beginHanding).told = s.told := rfl
@[simp] theorem State.beginHanding_out (s : State) : (s.beginHanding).out = s.out := rfl
@[simp] theorem State.beginHanding_powerCycle (s : State) : (s.beginHanding).powerCycle = s.powerCycle := rfl
@[simp] theorem State.beginHanding_resetDraws (s : State) : (s.beginHanding).resetDraws = s.resetDraws := rfl
@[simp] theorem State.beginHanding_pending (s : State) : (s.beginHanding).pending = s.pending := rfl
@[simp] theorem State.beginHanding_page (s : State) (k : PageIx) : (s.beginHanding).page k = s.page k := rfl
@[simp] theorem State.beginHanding_plate (s : State) (p : Slot) : (s.beginHanding).plate p = s.plate p := rfl
@[simp] theorem State.beginHanding_line (s : State) (l : LineId) : (s.beginHanding).line l = s.line l := rfl
@[simp] theorem State.beginHanding_profile (s : State) (f : ProfileId) : (s.beginHanding).profile f = s.profile f := rfl

/-! ### leaveReady -/

@[simp] theorem State.leaveReady_link (s : State) (p0 : Slot) : (s.leaveReady p0).link = s.link := rfl
@[simp] theorem State.leaveReady_reports (s : State) (p0 : Slot) : (s.leaveReady p0).reports = s.reports := rfl
@[simp] theorem State.leaveReady_intake (s : State) (p0 : Slot) : (s.leaveReady p0).intake = s.intake := rfl
@[simp] theorem State.leaveReady_pages (s : State) (p0 : Slot) : (s.leaveReady p0).pages = s.pages := rfl
@[simp] theorem State.leaveReady_store (s : State) (p0 : Slot) : (s.leaveReady p0).store = s.store := rfl
@[simp] theorem State.leaveReady_plates (s : State) (p0 : Slot) : (s.leaveReady p0).plates = s.plates := rfl
@[simp] theorem State.leaveReady_lines (s : State) (p0 : Slot) : (s.leaveReady p0).lines = s.lines := rfl
@[simp] theorem State.leaveReady_profiles (s : State) (p0 : Slot) : (s.leaveReady p0).profiles = s.profiles := rfl
@[simp] theorem State.leaveReady_told (s : State) (p0 : Slot) : (s.leaveReady p0).told = s.told := rfl
@[simp] theorem State.leaveReady_out (s : State) (p0 : Slot) : (s.leaveReady p0).out = s.out := rfl
@[simp] theorem State.leaveReady_powerCycle (s : State) (p0 : Slot) : (s.leaveReady p0).powerCycle = s.powerCycle := rfl
@[simp] theorem State.leaveReady_resetDraws (s : State) (p0 : Slot) : (s.leaveReady p0).resetDraws = s.resetDraws := rfl
@[simp] theorem State.leaveReady_pending (s : State) (p0 : Slot) : (s.leaveReady p0).pending = s.pending := rfl
@[simp] theorem State.leaveReady_page (s : State) (p0 : Slot) (k : PageIx) : (s.leaveReady p0).page k = s.page k := rfl
@[simp] theorem State.leaveReady_plate (s : State) (p0 : Slot) (p : Slot) : (s.leaveReady p0).plate p = s.plate p := rfl
@[simp] theorem State.leaveReady_line (s : State) (p0 : Slot) (l : LineId) : (s.leaveReady p0).line l = s.line l := rfl
@[simp] theorem State.leaveReady_profile (s : State) (p0 : Slot) (f : ProfileId) : (s.leaveReady p0).profile f = s.profile f := rfl

/-! ### joinBetween -/

@[simp] theorem State.joinBetween_link (s : State) (p0 : Slot) : (s.joinBetween p0).link = s.link := rfl
@[simp] theorem State.joinBetween_reports (s : State) (p0 : Slot) : (s.joinBetween p0).reports = s.reports := rfl
@[simp] theorem State.joinBetween_intake (s : State) (p0 : Slot) : (s.joinBetween p0).intake = s.intake := rfl
@[simp] theorem State.joinBetween_pages (s : State) (p0 : Slot) : (s.joinBetween p0).pages = s.pages := rfl
@[simp] theorem State.joinBetween_store (s : State) (p0 : Slot) : (s.joinBetween p0).store = s.store := rfl
@[simp] theorem State.joinBetween_plates (s : State) (p0 : Slot) : (s.joinBetween p0).plates = s.plates := rfl
@[simp] theorem State.joinBetween_lines (s : State) (p0 : Slot) : (s.joinBetween p0).lines = s.lines := rfl
@[simp] theorem State.joinBetween_profiles (s : State) (p0 : Slot) : (s.joinBetween p0).profiles = s.profiles := rfl
@[simp] theorem State.joinBetween_told (s : State) (p0 : Slot) : (s.joinBetween p0).told = s.told := rfl
@[simp] theorem State.joinBetween_out (s : State) (p0 : Slot) : (s.joinBetween p0).out = s.out := rfl
@[simp] theorem State.joinBetween_powerCycle (s : State) (p0 : Slot) : (s.joinBetween p0).powerCycle = s.powerCycle := rfl
@[simp] theorem State.joinBetween_resetDraws (s : State) (p0 : Slot) : (s.joinBetween p0).resetDraws = s.resetDraws := rfl
@[simp] theorem State.joinBetween_pending (s : State) (p0 : Slot) : (s.joinBetween p0).pending = s.pending := rfl
@[simp] theorem State.joinBetween_page (s : State) (p0 : Slot) (k : PageIx) : (s.joinBetween p0).page k = s.page k := rfl
@[simp] theorem State.joinBetween_plate (s : State) (p0 : Slot) (p : Slot) : (s.joinBetween p0).plate p = s.plate p := rfl
@[simp] theorem State.joinBetween_line (s : State) (p0 : Slot) (l : LineId) : (s.joinBetween p0).line l = s.line l := rfl
@[simp] theorem State.joinBetween_profile (s : State) (p0 : Slot) (f : ProfileId) : (s.joinBetween p0).profile f = s.profile f := rfl

/-! ### dropControl -/

@[simp] theorem State.dropControl_reports (s : State) : (s.dropControl).reports = s.reports := rfl
@[simp] theorem State.dropControl_intake (s : State) : (s.dropControl).intake = s.intake := rfl
@[simp] theorem State.dropControl_pages (s : State) : (s.dropControl).pages = s.pages := rfl
@[simp] theorem State.dropControl_store (s : State) : (s.dropControl).store = s.store := rfl
@[simp] theorem State.dropControl_plates (s : State) : (s.dropControl).plates = s.plates := rfl
@[simp] theorem State.dropControl_ready (s : State) : (s.dropControl).ready = s.ready := rfl
@[simp] theorem State.dropControl_lines (s : State) : (s.dropControl).lines = s.lines := rfl
@[simp] theorem State.dropControl_profiles (s : State) : (s.dropControl).profiles = s.profiles := rfl
@[simp] theorem State.dropControl_told (s : State) : (s.dropControl).told = s.told := rfl
@[simp] theorem State.dropControl_out (s : State) : (s.dropControl).out = s.out := rfl
@[simp] theorem State.dropControl_powerCycle (s : State) : (s.dropControl).powerCycle = s.powerCycle := rfl
@[simp] theorem State.dropControl_resetDraws (s : State) : (s.dropControl).resetDraws = s.resetDraws := rfl
@[simp] theorem State.dropControl_pending (s : State) : (s.dropControl).pending = s.pending := rfl
@[simp] theorem State.dropControl_page (s : State) (k : PageIx) : (s.dropControl).page k = s.page k := rfl
@[simp] theorem State.dropControl_plate (s : State) (p : Slot) : (s.dropControl).plate p = s.plate p := rfl
@[simp] theorem State.dropControl_line (s : State) (l : LineId) : (s.dropControl).line l = s.line l := rfl
@[simp] theorem State.dropControl_profile (s : State) (f : ProfileId) : (s.dropControl).profile f = s.profile f := rfl

/-! ### placeReply -/

@[simp] theorem State.placeReply_reports (s : State) (fr : ControlFrame) (code : Byte) (a : Answer) : (s.placeReply fr code a).reports = s.reports := rfl
@[simp] theorem State.placeReply_intake (s : State) (fr : ControlFrame) (code : Byte) (a : Answer) : (s.placeReply fr code a).intake = s.intake := rfl
@[simp] theorem State.placeReply_pages (s : State) (fr : ControlFrame) (code : Byte) (a : Answer) : (s.placeReply fr code a).pages = s.pages := rfl
@[simp] theorem State.placeReply_store (s : State) (fr : ControlFrame) (code : Byte) (a : Answer) : (s.placeReply fr code a).store = s.store := rfl
@[simp] theorem State.placeReply_plates (s : State) (fr : ControlFrame) (code : Byte) (a : Answer) : (s.placeReply fr code a).plates = s.plates := rfl
@[simp] theorem State.placeReply_ready (s : State) (fr : ControlFrame) (code : Byte) (a : Answer) : (s.placeReply fr code a).ready = s.ready := rfl
@[simp] theorem State.placeReply_lines (s : State) (fr : ControlFrame) (code : Byte) (a : Answer) : (s.placeReply fr code a).lines = s.lines := rfl
@[simp] theorem State.placeReply_profiles (s : State) (fr : ControlFrame) (code : Byte) (a : Answer) : (s.placeReply fr code a).profiles = s.profiles := rfl
@[simp] theorem State.placeReply_told (s : State) (fr : ControlFrame) (code : Byte) (a : Answer) : (s.placeReply fr code a).told = s.told := rfl
@[simp] theorem State.placeReply_out (s : State) (fr : ControlFrame) (code : Byte) (a : Answer) : (s.placeReply fr code a).out = s.out := rfl
@[simp] theorem State.placeReply_powerCycle (s : State) (fr : ControlFrame) (code : Byte) (a : Answer) : (s.placeReply fr code a).powerCycle = s.powerCycle := rfl
@[simp] theorem State.placeReply_resetDraws (s : State) (fr : ControlFrame) (code : Byte) (a : Answer) : (s.placeReply fr code a).resetDraws = s.resetDraws := rfl
@[simp] theorem State.placeReply_pending (s : State) (fr : ControlFrame) (code : Byte) (a : Answer) : (s.placeReply fr code a).pending = s.pending := rfl
@[simp] theorem State.placeReply_page (s : State) (fr : ControlFrame) (code : Byte) (a : Answer) (k : PageIx) : (s.placeReply fr code a).page k = s.page k := rfl
@[simp] theorem State.placeReply_plate (s : State) (fr : ControlFrame) (code : Byte) (a : Answer) (p : Slot) : (s.placeReply fr code a).plate p = s.plate p := rfl
@[simp] theorem State.placeReply_line (s : State) (fr : ControlFrame) (code : Byte) (a : Answer) (l : LineId) : (s.placeReply fr code a).line l = s.line l := rfl
@[simp] theorem State.placeReply_profile (s : State) (fr : ControlFrame) (code : Byte) (a : Answer) (f : ProfileId) : (s.placeReply fr code a).profile f = s.profile f := rfl

/-! ### endStall -/

@[simp] theorem State.endStall_link (s : State) : (s.endStall).link = s.link := rfl
@[simp] theorem State.endStall_reports (s : State) : (s.endStall).reports = s.reports := rfl
@[simp] theorem State.endStall_pages (s : State) : (s.endStall).pages = s.pages := rfl
@[simp] theorem State.endStall_store (s : State) : (s.endStall).store = s.store := rfl
@[simp] theorem State.endStall_plates (s : State) : (s.endStall).plates = s.plates := rfl
@[simp] theorem State.endStall_ready (s : State) : (s.endStall).ready = s.ready := rfl
@[simp] theorem State.endStall_lines (s : State) : (s.endStall).lines = s.lines := rfl
@[simp] theorem State.endStall_profiles (s : State) : (s.endStall).profiles = s.profiles := rfl
@[simp] theorem State.endStall_told (s : State) : (s.endStall).told = s.told := rfl
@[simp] theorem State.endStall_out (s : State) : (s.endStall).out = s.out := rfl
@[simp] theorem State.endStall_powerCycle (s : State) : (s.endStall).powerCycle = s.powerCycle := rfl
@[simp] theorem State.endStall_resetDraws (s : State) : (s.endStall).resetDraws = s.resetDraws := rfl
@[simp] theorem State.endStall_pending (s : State) : (s.endStall).pending = s.pending := rfl
@[simp] theorem State.endStall_page (s : State) (k : PageIx) : (s.endStall).page k = s.page k := rfl
@[simp] theorem State.endStall_plate (s : State) (p : Slot) : (s.endStall).plate p = s.plate p := rfl
@[simp] theorem State.endStall_line (s : State) (l : LineId) : (s.endStall).line l = s.line l := rfl
@[simp] theorem State.endStall_profile (s : State) (f : ProfileId) : (s.endStall).profile f = s.profile f := rfl

/-! ### popHead -/

@[simp] theorem State.popHead_link (s : State) : (s.popHead).link = s.link := rfl
@[simp] theorem State.popHead_reports (s : State) : (s.popHead).reports = s.reports := rfl
@[simp] theorem State.popHead_pages (s : State) : (s.popHead).pages = s.pages := rfl
@[simp] theorem State.popHead_store (s : State) : (s.popHead).store = s.store := rfl
@[simp] theorem State.popHead_plates (s : State) : (s.popHead).plates = s.plates := rfl
@[simp] theorem State.popHead_ready (s : State) : (s.popHead).ready = s.ready := rfl
@[simp] theorem State.popHead_lines (s : State) : (s.popHead).lines = s.lines := rfl
@[simp] theorem State.popHead_profiles (s : State) : (s.popHead).profiles = s.profiles := rfl
@[simp] theorem State.popHead_told (s : State) : (s.popHead).told = s.told := rfl
@[simp] theorem State.popHead_out (s : State) : (s.popHead).out = s.out := rfl
@[simp] theorem State.popHead_powerCycle (s : State) : (s.popHead).powerCycle = s.powerCycle := rfl
@[simp] theorem State.popHead_resetDraws (s : State) : (s.popHead).resetDraws = s.resetDraws := rfl
@[simp] theorem State.popHead_pending (s : State) : (s.popHead).pending = s.pending := rfl
@[simp] theorem State.popHead_page (s : State) (k : PageIx) : (s.popHead).page k = s.page k := rfl
@[simp] theorem State.popHead_plate (s : State) (p : Slot) : (s.popHead).plate p = s.plate p := rfl
@[simp] theorem State.popHead_line (s : State) (l : LineId) : (s.popHead).line l = s.line l := rfl
@[simp] theorem State.popHead_profile (s : State) (f : ProfileId) : (s.popHead).profile f = s.profile f := rfl

/-! ### The field an update writes -/

@[simp] theorem State.report_reports (s : State) (r : Report) : (s.report r).reports = s.reports.offer r := rfl
@[simp] theorem State.tell_told (s : State) : s.tell.told = true := rfl
@[simp] theorem State.send_out (s : State) (l : LineId) (m : StationMessage) :
    (s.send l m).out = s.out ++ [.station l m] := rfl
@[simp] theorem State.onStore_store (s : State) (g : RasterStore → RasterStore) : (s.onStore g).store = g s.store := rfl

/-- A page entry after a write of one. -/
theorem State.page_setPage (s : State) (k0 k : PageIx) (e : PageEntry) :
    (s.setPage k0 e).page k = if k = k0 then e else s.page k := by
  unfold State.page State.setPage
  simp only [Vector.getElem_set, eq_comm (a := k), Fin.ext_iff]

@[simp] theorem State.page_setPage_self (s : State) (k : PageIx) (e : PageEntry) : (s.setPage k e).page k = e := by
  simp [State.page_setPage]

/-- A plate record after a write of one. -/
theorem State.plate_setPlate (s : State) (p0 p : Slot) (r : PlateRecord) :
    (s.setPlate p0 r).plate p = if p = p0 then r else s.plate p := by
  unfold State.plate State.setPlate
  simp only [Vector.getElem_set, eq_comm (a := p), Fin.ext_iff]

@[simp] theorem State.plate_setPlate_self (s : State) (p : Slot) (r : PlateRecord) : (s.setPlate p r).plate p = r := by
  simp [State.plate_setPlate]

/-- A line after a write of one. -/
theorem State.line_setLine (s : State) (l0 l : LineId) (ln : Line) :
    (s.setLine l0 ln).line l = if l = l0 then ln else s.line l := by
  unfold State.line State.setLine
  simp only [Vector.getElem_set, eq_comm (a := l), Fin.ext_iff]

@[simp] theorem State.line_setLine_self (s : State) (l : LineId) (ln : Line) : (s.setLine l ln).line l = ln := by
  simp [State.line_setLine]

/-- A profile entry after a write of one. -/
theorem State.profile_setProfile (s : State) (f0 f : ProfileId) (x : Profile) :
    (s.setProfile f0 x).profile f = if f = f0 then x else s.profile f := by
  unfold State.profile State.setProfile
  simp only [Vector.getElem_set, eq_comm (a := f), Fin.ext_iff]

/-- A bin after a write of one. -/
theorem Line.bin_setBin (ln : Line) (b0 b : BinId) (x : Bin) :
    (ln.setBin b0 x).bin b = if b = b0 then x else ln.bin b := by
  unfold Line.bin Line.setBin
  simp only [Vector.getElem_set, eq_comm (a := b), Fin.ext_iff]

/-- A raster descriptor after a write of one. -/
theorem RasterStore.desc_setDesc (st : RasterStore) (d0 d : DescId) (x : Descriptor) :
    (st.setDesc d0 x).desc d = if d = d0 then x else st.desc d := by
  unfold RasterStore.desc RasterStore.setDesc
  simp only [Vector.getElem_set, eq_comm (a := d), Fin.ext_iff]

/-- A plate record of the state right after reset. -/
@[simp] theorem State.reset_plate (p : Slot) : State.reset.plate p = {} := by
  simp [State.plate, State.reset]

/-- A page entry of the state right after reset. -/
@[simp] theorem State.reset_page (k : PageIx) : State.reset.page k = {} := by
  simp [State.page, State.reset]

/-- A line of the state right after reset. -/
@[simp] theorem State.reset_line (l : LineId) : State.reset.line l = {} := by
  simp [State.line, State.reset]

/-- A raster descriptor of the state right after reset. -/
@[simp] theorem State.reset_desc (d : DescId) : State.reset.store.desc d = {} := by
  simp [RasterStore.desc, State.reset]

end Sys2Proof.Machine
end

