-- ==== Sys2Proof/Laws/Memory.lean ====
section
/-! SUPPORT. Plate memory: a read after a write, and that every operation keeps the canonical form. -/

namespace Sys2Proof.Machine

/-- The addresses after a write: those before, and the one written. -/
theorem Memory.mem_write (m : Memory) (x : Nat) (v : Byte) (a : Nat) :
    a ∈ (m.write x v).map Prod.fst → a = x ∨ a ∈ m.map Prod.fst := by
  induction m with
  | nil => simp [Memory.write]
  | cons c m ih =>
    obtain ⟨a0, b0⟩ := c
    simp only [Memory.write]
    split
    · simp
    · split
      · simp only [List.map_cons, List.mem_cons]
        tauto
      · simp only [List.map_cons, List.mem_cons]
        rintro (h | h)
        · exact .inr (.inl h)
        · rcases ih h with h | h
          · exact .inl h
          · exact .inr (.inr h)

/-- A write keeps the canonical form. -/
theorem Memory.write_wf (m : Memory) (x : Nat) (v : Byte) (h : m.wf) : (m.write x v).wf := by
  induction m with
  | nil => simp [Memory.write, Memory.wf]
  | cons c m ih =>
    obtain ⟨a, b⟩ := c
    simp only [Memory.wf, List.map_cons, List.pairwise_cons] at h
    simp only [Memory.write]
    split
    · rename_i hx
      simp only [Memory.wf, List.map_cons, List.pairwise_cons, List.mem_cons]
      refine ⟨?_, h⟩
      rintro y (rfl | hy)
      · exact hx
      · exact lt_trans hx (h.1 y hy)
    · split
      · rename_i _ hx
        subst hx
        simp only [Memory.wf, List.map_cons, List.pairwise_cons]
        exact h
      · rename_i h1 h2
        simp only [Memory.wf, List.map_cons, List.pairwise_cons]
        refine ⟨fun y hy => ?_, ih h.2⟩
        rcases Memory.mem_write m x v y hy with rfl | hy
        · omega
        · exact h.1 y hy

/-- A read below every listed address finds nothing. -/
theorem Memory.read?_eq_none (m : Memory) (x : Nat) (h : ∀ a ∈ m.map Prod.fst, x < a) : m.read? x = none := by
  cases m with
  | nil => rfl
  | cons c m =>
    obtain ⟨a, b⟩ := c
    have := h a (by simp)
    simp only [Memory.read?]
    rw [if_neg (by omega), if_pos this]

/-- A read after a write: the byte written at its own address, and every other address as before. -/
theorem Memory.read?_write (m : Memory) (x y : Nat) (v : Byte) (h : m.wf) :
    (m.write x v).read? y = if y = x then some v else m.read? y := by
  induction m with
  | nil =>
    simp only [Memory.write, Memory.read?]
    split
    · rfl
    · split <;> rfl
  | cons c m ih =>
    obtain ⟨a, b⟩ := c
    simp only [Memory.wf, List.map_cons, List.pairwise_cons] at h
    simp only [Memory.write]
    split
    · rename_i hx
      simp only [Memory.read?]
      by_cases h1 : y = x
      · simp [h1]
      · rw [if_neg h1, if_neg h1]
        by_cases h2 : y < x
        · rw [if_pos h2, if_neg (by omega), if_pos (by omega)]
        · rw [if_neg h2]
    · split
      · rename_i _ hx
        subst hx
        simp only [Memory.read?]
        by_cases h1 : y = x
        · simp [h1]
        · simp only [if_neg h1]
      · rename_i hxa hne
        simp only [Memory.read?]
        by_cases h1 : y = a
        · rw [if_pos h1, if_neg (by omega), if_pos h1]
        · rw [if_neg h1]
          by_cases h2 : y < a
          · rw [if_pos h2, if_neg (by omega), if_neg h1, if_pos h2]
          · rw [if_neg h2, ih h.2, if_neg h1, if_neg h2]

/-- Writing bytes keeps the canonical form. -/
theorem Memory.writeBytes_wf (vs : List Byte) (m : Memory) (x : Nat) (h : m.wf) : (m.writeBytes x vs).wf := by
  induction vs generalizing m x with
  | nil => exact h
  | cons v vs ih => exact ih _ _ (Memory.write_wf m x v h)

/-- A read after a write of bytes: the byte written at an address of theirs, and every other address as before. -/
theorem Memory.read?_writeBytes (vs : List Byte) (m : Memory) (x y : Nat) (h : m.wf) :
    (m.writeBytes x vs).read? y = if x ≤ y ∧ y < x + vs.length then vs[y - x]? else m.read? y := by
  induction vs generalizing m x with
  | nil =>
    simp only [Memory.writeBytes, List.length_nil]
    rw [if_neg (by omega)]
  | cons v vs ih =>
    simp only [Memory.writeBytes, List.length_cons]
    rw [ih _ _ (Memory.write_wf m x v h), Memory.read?_write m x y v h]
    by_cases h1 : y = x
    · subst h1
      rw [if_neg (by omega), if_pos rfl, if_pos (by omega)]
      simp
    · by_cases h2 : x ≤ y ∧ y < x + (vs.length + 1)
      · rw [if_pos (by omega), if_pos h2]
        obtain ⟨k, rfl⟩ : ∃ k, y = x + 1 + k := ⟨y - (x + 1), by omega⟩
        have e1 : x + 1 + k - (x + 1) = k := by omega
        have e2 : x + 1 + k - x = k + 1 := by omega
        rw [e1, e2, List.getElem?_cons_succ]
      · rw [if_neg (by omega), if_neg h1, if_neg h2]

/-- The memory after reset is in canonical form. -/
theorem Memory.reset_wf : State.reset.store.mem.wf := by simp [State.reset, Memory.wf]

/-- What a reset leaves of a write in service keeps the canonical form (R55). -/
theorem State.memoryAfterReset_wf (s : State) (h : s.store.mem.wf) : Memory.wf s.memoryAfterReset := by
  unfold State.memoryAfterReset
  split
  · rename_i w _
    generalize List.range w.bytes.length = is
    revert h
    generalize s.store.mem = m
    intro h
    induction is generalizing m with
    | nil => exact h
    | cons i is ih =>
      rw [List.foldl_cons]
      apply ih
      split
      · exact Memory.write_wf _ _ _ h
      · exact h
  · exact h

end Sys2Proof.Machine
end

