-- ==== Sys2Proof/Laws/Ops.lean ====
section
/-! SUPPORT. What each shared operation can do, said once. -/

namespace Sys2Proof.Machine

/-! ### Reports (R12) -/

/-- A record offered to a queue with room is appended with the gap flag as its mark, and the flag is cleared. -/
theorem ReportQueue.offer_of_room (q : ReportQueue) (r : Report) (h : q.records.length < 256) :
    q.offer r = { q with records := q.records ++ [{ r with gap := q.gapFlag }], gapFlag := false } := if_pos h

/-- A record offered to a full queue is discarded, and the gap flag is set. -/
theorem ReportQueue.offer_of_full (q : ReportQueue) (r : Report) (h : ¬ q.records.length < 256) :
    q.offer r = { q with gapFlag := true } := if_neg h

/-- An offer keeps the queue within 256 records. -/
theorem ReportQueue.offer_length (q : ReportQueue) (r : Report) (h : q.records.length ≤ 256) :
    (q.offer r).records.length ≤ 256 := by
  by_cases h1 : q.records.length < 256
  · rw [ReportQueue.offer_of_room q r h1]
    simp only [List.length_append, List.length_singleton]
    omega
  · rw [ReportQueue.offer_of_full q r h1]
    exact h

/-- An offer leaves the report sequence number. -/
@[simp] theorem ReportQueue.offer_seq (q : ReportQueue) (r : Report) : (q.offer r).seq = q.seq := by
  unfold ReportQueue.offer
  split <;> rfl

/-- Reports made in order change nothing but the Report Queue. -/
theorem State.reportAll_eq (rs : List Report) (s : State) :
    s.reportAll rs = { s with reports := rs.foldl ReportQueue.offer s.reports } := by
  induction rs generalizing s with
  | nil => rfl
  | cons r rs ih => exact ih (s.report r)

/-! ### Line states (R104, R107) -/

/-- A line already in the state is left alone (R104). -/
theorem State.setMode_same (s : State) (l : LineId) (m : LineMode) (h : (s.line l).mode = m) : s.setMode l m = s :=
  if_pos h

/-- A change of line state makes its report and tells the Dispatcher (R100, R104). -/
theorem State.setMode_change (s : State) (l : LineId) (m : LineMode) (h : (s.line l).mode ≠ m) :
    s.setMode l m = ((s.setLine l { s.line l with mode := m }).report
      { kind := .lineState, line := some l, cause := some (.lineState m) }).tell := if_neg h

/-- After a change of state the line is in the state. -/
@[simp] theorem State.setMode_mode (s : State) (l : LineId) (m : LineMode) : ((s.setMode l m).line l).mode = m := by
  by_cases h : (s.line l).mode = m
  · rw [State.setMode_same s l m h, h]
  · rw [State.setMode_change s l m h]
    simp

/-- What the DRAINING test can do (R107). -/
theorem State.drainTest_cases (s : State) (l : LineId) :
    s.drainTest l = s ∨
      ((s.line l).mode = .draining ∧ (s.line l).queue = [] ∧ (s.line l).exposure = none
        ∧ s.drainTest l = s.setMode l .stopped) := by
  unfold State.drainTest
  split
  · rename_i h
    exact .inr ⟨h.1, h.2.1, h.2.2, rfl⟩
  · exact .inl rfl

/-- What an evaluation of readiness can do (R64). -/
theorem State.evaluate_cases (s : State) (p : Slot) :
    s.evaluate p = s ∨
      ((s.plate p).state = .planned ∧ s.pagesComplete p = true
        ∧ s.evaluate p = ((s.setPlate p { s.plate p with state := .ready }).joinBack p).tell) := by
  unfold State.evaluate
  split
  · rename_i h
    exact .inr ⟨h.1, h.2, rfl⟩
  · exact .inl rfl

/-- What a fault event does on a FAULTED line (R110). -/
theorem State.faultLine_faulted (s : State) (l : LineId) (c : Cause) (p : Option Slot)
    (h : (s.line l).mode = .faulted) : s.faultLine l c p = s.report (faultReport l c p) := if_pos h

/-! ### The choice of a line (R53, R101) -/

/-- What the choice has found among the lines `seen`: none qualifies, or the best of them. -/
def BestOf (q : LineId → Bool) (f : LineId → Nat) (seen : List LineId) : Option LineId → Prop
  | none => ∀ l ∈ seen, q l = false
  | some b => b ∈ seen ∧ q b = true ∧ ∀ l ∈ seen, q l = true → f b < f l ∨ (f b = f l ∧ b ≤ l)

/-- One step of the choice of a line. -/
def pickLine (q : LineId → Bool) (f : LineId → Nat) (best : Option LineId) (l : LineId) : Option LineId :=
  if q l then
    match best with
    | none => some l
    | some b => if f l < f b then some l else some b
  else best

/-- One more line, higher-numbered than all seen. -/
theorem BestOf.extend (q : LineId → Bool) (f : LineId → Nat) (seen : List LineId) (best : Option LineId) (l : LineId)
    (h : BestOf q f seen best) (hl : ∀ x ∈ seen, x ≤ l) :
    BestOf q f (l :: seen) (pickLine q f best l) := by
  unfold pickLine
  by_cases hq : q l = true
  · rw [if_pos hq]
    cases best with
    | none =>
      refine ⟨List.mem_cons_self, hq, fun x hx hxq => ?_⟩
      rcases List.mem_cons.mp hx with rfl | hx
      · exact .inr ⟨rfl, le_refl _⟩
      · rw [h x hx] at hxq; cases hxq
    | some b =>
      obtain ⟨hb, hbq, hbest⟩ := h
      dsimp only
      split
      · rename_i hlt
        refine ⟨List.mem_cons_self, hq, fun x hx hxq => ?_⟩
        rcases List.mem_cons.mp hx with rfl | hx
        · exact .inr ⟨rfl, le_refl _⟩
        · rcases hbest x hx hxq with h1 | h1
          · exact .inl (lt_trans hlt h1)
          · exact .inl (h1.1 ▸ hlt)
      · rename_i hge
        refine ⟨List.mem_cons_of_mem _ hb, hbq, fun x hx hxq => ?_⟩
        rcases List.mem_cons.mp hx with rfl | hx
        · rcases Nat.lt_or_ge (f b) (f x) with h1 | h1
          · exact .inl h1
          · exact .inr ⟨by omega, hl b hb⟩
        · exact hbest x hx hxq
  · rw [if_neg hq]
    cases best with
    | none =>
      intro x hx
      rcases List.mem_cons.mp hx with rfl | hx
      · simpa using hq
      · exact h x hx
    | some b =>
      obtain ⟨hb, hbq, hbest⟩ := h
      refine ⟨List.mem_cons_of_mem _ hb, hbq, fun x hx hxq => ?_⟩
      rcases List.mem_cons.mp hx with rfl | hx
      · exact absurd hxq hq
      · exact hbest x hx hxq

/-- The choice of a line is the best of the four. -/
theorem leastLine_bestOf (q : LineId → Bool) (f : LineId → Nat) : BestOf q f [3, 2, 1, 0] (leastLine q f) := by
  have h0 : BestOf q f [] none := by intro l hl; cases hl
  have h1 := h0.extend q f [] none 0 (by simp)
  have h2 := h1.extend q f _ _ 1 (by decide)
  have h3 := h2.extend q f _ _ 2 (by decide)
  exact h3.extend q f _ _ 3 (by decide)

/-- Every line is one of the four. -/
theorem LineId.mem_all (l : LineId) : l ∈ ([3, 2, 1, 0] : List LineId) := by revert l; decide

/-- The line chosen qualifies, its figure is the least, and it is the lowest-numbered of those with that figure. -/
theorem leastLine_some (q : LineId → Bool) (f : LineId → Nat) (l : LineId) (h : leastLine q f = some l) :
    q l = true ∧ ∀ l', q l' = true → f l < f l' ∨ (f l = f l' ∧ l ≤ l') := by
  have hb := leastLine_bestOf q f
  rw [h] at hb
  exact ⟨hb.2.1, fun l' hl' => hb.2.2 l' (LineId.mem_all l') hl'⟩

/-- Where no line is chosen, none qualifies. -/
theorem leastLine_none (q : LineId → Bool) (f : LineId → Nat) (h : leastLine q f = none) (l : LineId) :
    q l = false := by
  have hb := leastLine_bestOf q f
  rw [h] at hb
  exact hb l (LineId.mem_all l)

/-! ### The taking of a control frame (R7) -/

/-- A taking that happens removes the head of the control queue, runs the command and places its REPLY. -/
theorem taking_of_args (code : Nat) (run : List Byte → State → State × Answer) (s : State) (f : ControlFrame)
    (args : List Byte) (h : s.argsOf code = some (f, args)) :
    taking code run s =
      conclude ((run args s.dropControl).1.placeReply f (BitVec.ofNat 8 code) (run args s.dropControl).2) := by
  simp [taking, h]

/-- A taking that cannot happen leaves the state (log 1). -/
theorem taking_of_none (code : Nat) (run : List Byte → State → State × Answer) (s : State)
    (h : s.argsOf code = none) : taking code run s = .next s := by
  simp [taking, h]

/-- What the head of the control queue is when a command can be taken. -/
theorem State.argsOf_some (s : State) (code : Nat) (f : ControlFrame) (args : List Byte)
    (h : s.argsOf code = some (f, args)) :
    s.link.reply = none ∧ s.link.controlQueue.head? = some f ∧ commandOf f.body = some (code, args) := by
  unfold State.argsOf at h
  split at h
  · cases h
  · rename_i g hg
    split at h
    · cases h
    · rename_i c as hc
      split at h
      · rename_i hcode
        obtain ⟨rfl, rfl⟩ := Prod.mk.inj (Option.some.inj h)
        unfold State.controlHead at hg
        split at hg
        · rename_i hr
          exact ⟨hr, hg, by rw [hc, hcode]⟩
        · cases hg
      · cases h

/-- A command whose fields are in range runs. -/
theorem checked_ok (fields : List FieldCheck) (s : State) (run : State × Answer) (h : firstBad fields = none) :
    checked fields s run = run := by
  simp [checked, h]

/-- A command with a field out of range is refused with its index. -/
theorem checked_bad (fields : List FieldCheck) (s : State) (run : State × Answer) (i : Nat)
    (h : firstBad fields = some i) : checked fields s run = (s, { status := .badField, field := i }) := by
  simp [checked, h]

/-! ### What every command ends with -/

/-- With the Dispatcher not told there is no walk (R100). -/
theorem State.settle_untold (s : State) (h : s.told = false) : s.settle = s := by
  simp [State.settle, h]

/-- With no completion handed over the arbiter grants nothing (R52). -/
theorem State.endHanding_idle (s : State) (h : s.store.handing = false) : s.endHanding = s := by
  simp [State.endHanding, h]

/-- The transmitter changes the transmission and the PACE state alone (R5, R10). -/
theorem State.transmit_eq (s : State) :
    s.transmit = { s with link := { s.link with tx := s.transmit.link.tx, pace := s.transmit.link.pace } } := by
  unfold State.transmit
  repeat' split
  all_goals rfl

/-- A message of a station is received where the line's port is fitted. -/
theorem onLine_fitted (s : State) (l : LineId) (effect : State → State) (h : (s.line l).fitted = true) :
    onLine s l effect = .next (effect s).finish := by
  simp [onLine, h, conclude]

/-- A message from a port that is not fitted is not received (log 16). -/
theorem onLine_unfitted (s : State) (l : LineId) (effect : State → State) (h : (s.line l).fitted = false) :
    onLine s l effect = .next s := by
  simp [onLine, h]

/-! ### Routing at the sorter -/

/-- What a routing of waiting plates can touch: the lines and what has been sent. -/
def RoutesOnly (s t : State) : Prop := ∃ ls out, t = { s with lines := ls, out := out }

theorem RoutesOnly.foldl {α : Type} (f : State → α → State) (h : ∀ s a, RoutesOnly s (f s a)) (as : List α) (s : State) :
    RoutesOnly s (as.foldl f s) := by
  induction as generalizing s with
  | nil => exact ⟨s.lines, s.out, rfl⟩
  | cons a as ih =>
    obtain ⟨ls, out, e⟩ := h s a
    obtain ⟨ls', out', e'⟩ := ih (f s a)
    exact ⟨ls', out', by rw [List.foldl_cons, e', e]⟩

theorem State.routeIfRoom_only (s : State) (l : LineId) (e : TransitEntry) : RoutesOnly s (s.routeIfRoom l e) := by
  unfold State.routeIfRoom
  split
  · exact ⟨_, _, rfl⟩
  · exact ⟨s.lines, s.out, rfl⟩

theorem State.routeWaiting_only (s : State) (l : LineId) : RoutesOnly s (s.routeWaiting l) := by
  unfold State.routeWaiting
  split
  · exact ⟨s.lines, s.out, rfl⟩
  · obtain ⟨ls, out, e⟩ := RoutesOnly.foldl (fun s e => s.routeIfRoom l e) (fun s e => s.routeIfRoom_only l e)
      ((s.line l).transit.filter fun e => decide (e.stage = .waitingBin)) s
    exact ⟨_, out, by rw [e]; rfl⟩

/-- The routing of the plates a supersession has turned touches no record, no page and no report (R87, R163). -/
theorem State.routeTurned_only (s : State) (turned : LineId → Bool) : RoutesOnly s (s.routeTurned turned) :=
  RoutesOnly.foldl _ State.routeWaiting_only _ s

end Sys2Proof.Machine
end

