-- ==== Sys2Proof/Laws/Frames.lean ====
section
/-! SUPPORT. What the Dispatcher's walk, a start, composing and the transmitter leave unchanged. -/

namespace Sys2Proof.Machine

/-- What no walk, start or composing changes: the page entries, the profiles, Band Intake, plate memory, the strip
free list, the waiting commands and the counters of the free values. -/
structure SamePages (s t : State) : Prop where
  pages : t.pages = s.pages
  profiles : t.profiles = s.profiles
  intake : t.intake = s.intake
  mem : t.store.mem = s.store.mem
  free : t.store.free = s.store.free
  pending : t.pending = s.pending
  powerCycle : t.powerCycle = s.powerCycle
  resetDraws : t.resetDraws = s.resetDraws

/-- Such a change that leaves the Link Port as well. -/
structure SameLink (s t : State) : Prop extends SamePages s t where
  link : t.link = s.link

theorem SamePages.rfl' (s : State) : SamePages s s := ⟨rfl, rfl, rfl, rfl, rfl, rfl, rfl, rfl⟩

theorem SameLink.rfl' (s : State) : SameLink s s := ⟨SamePages.rfl' s, rfl⟩

theorem SamePages.trans {s t u : State} (h : SamePages s t) (k : SamePages t u) : SamePages s u :=
  ⟨k.pages.trans h.pages, k.profiles.trans h.profiles, k.intake.trans h.intake, k.mem.trans h.mem,
    k.free.trans h.free, k.pending.trans h.pending, k.powerCycle.trans h.powerCycle, k.resetDraws.trans h.resetDraws⟩

theorem SameLink.trans {s t u : State} (h : SameLink s t) (k : SameLink t u) : SameLink s u :=
  ⟨h.toSamePages.trans k.toSamePages, k.link.trans h.link⟩

/-- A fold of changes. -/
theorem SameLink.foldl {α : Type} (f : State → α → State) (h : ∀ s a, SameLink s (f s a)) (as : List α) (s : State) :
    SameLink s (as.foldl f s) := by
  induction as generalizing s with
  | nil => exact SameLink.rfl' s
  | cons a as ih => exact (h s a).trans (ih _)

theorem State.setPlate_sameLink (s : State) (p : Slot) (r : PlateRecord) : SameLink s (s.setPlate p r) :=
  ⟨⟨rfl, rfl, rfl, rfl, rfl, rfl, rfl, rfl⟩, rfl⟩

theorem State.setLine_sameLink (s : State) (l : LineId) (ln : Line) : SameLink s (s.setLine l ln) :=
  ⟨⟨rfl, rfl, rfl, rfl, rfl, rfl, rfl, rfl⟩, rfl⟩

theorem State.report_sameLink (s : State) (r : Report) : SameLink s (s.report r) :=
  ⟨⟨rfl, rfl, rfl, rfl, rfl, rfl, rfl, rfl⟩, rfl⟩

theorem State.reportAll_sameLink (s : State) (rs : List Report) : SameLink s (s.reportAll rs) := by
  rw [State.reportAll_eq]
  exact ⟨⟨rfl, rfl, rfl, rfl, rfl, rfl, rfl, rfl⟩, rfl⟩

theorem State.send_sameLink (s : State) (l : LineId) (m : StationMessage) : SameLink s (s.send l m) :=
  ⟨⟨rfl, rfl, rfl, rfl, rfl, rfl, rfl, rfl⟩, rfl⟩

theorem State.tell_sameLink (s : State) : SameLink s s.tell := ⟨⟨rfl, rfl, rfl, rfl, rfl, rfl, rfl, rfl⟩, rfl⟩

theorem State.leaveReady_sameLink (s : State) (p : Slot) : SameLink s (s.leaveReady p) :=
  ⟨⟨rfl, rfl, rfl, rfl, rfl, rfl, rfl, rfl⟩, rfl⟩

/-- A request to the arbiter leaves memory and the free list. -/
theorem RasterStore.request_mem (st : RasterStore) (q : Request) :
    (st.request q).mem = st.mem ∧ (st.request q).free = st.free ∧ (st.request q).table = st.table := by
  unfold RasterStore.request
  split
  · exact ⟨rfl, rfl, rfl⟩
  · split <;> exact ⟨rfl, rfl, rfl⟩

theorem State.request_sameLink (s : State) (q : Request) : SameLink s (s.onStore fun st => st.request q) :=
  ⟨⟨rfl, rfl, rfl, (RasterStore.request_mem s.store q).1, (RasterStore.request_mem s.store q).2.1, rfl, rfl, rfl⟩, rfl⟩

/-- Taking holds leaves memory and the free list. -/
theorem RasterStore.addHolds_mem (ds : List DescId) (st : RasterStore) :
    (ds.foldl RasterStore.addHold st).mem = st.mem ∧ (ds.foldl RasterStore.addHold st).free = st.free := by
  induction ds generalizing st with
  | nil => exact ⟨rfl, rfl⟩
  | cons d ds ih => exact ih (st.addHold d)

theorem State.addHolds_sameLink (s : State) (ds : List DescId) :
    SameLink s (s.onStore fun st => ds.foldl RasterStore.addHold st) :=
  ⟨⟨rfl, rfl, rfl, (RasterStore.addHolds_mem ds s.store).1, (RasterStore.addHolds_mem ds s.store).2, rfl, rfl, rfl⟩,
    rfl⟩

/-! ### Composing and starting -/

theorem State.compose_sameLink (n : Nat) (l : LineId) (s : State) : SameLink s (State.compose n l s) := by
  induction n generalizing s with
  | zero => exact SameLink.rfl' s
  | succ n ih =>
    unfold State.compose
    dsimp only
    split
    · split
      · split
        · exact SameLink.rfl' s
        · exact State.request_sameLink s _
      · exact (State.setLine_sameLink s l _).trans (ih _)
    · exact SameLink.rfl' s

theorem State.goTest_sameLink (s : State) (l : LineId) : SameLink s (s.goTest l) := by
  unfold State.goTest
  split
  · exact SameLink.rfl' s
  · split
    · exact (State.setLine_sameLink s l _).trans (State.send_sameLink _ _ _)
    · exact SameLink.rfl' s

theorem State.feedLine_sameLink (s : State) (l : LineId) : SameLink s (s.feedLine l) :=
  (State.compose_sameLink _ l s).trans (State.goTest_sameLink _ l)

theorem State.beginExposure_sameLink (s : State) (l : LineId) : SameLink s (s.beginExposure l) := by
  unfold State.beginExposure
  split
  · exact SameLink.rfl' s
  · exact (((((((State.setLine_sameLink s l _).trans (State.setPlate_sameLink _ _ _)).trans
      (State.addHolds_sameLink _ _)).trans (State.reportAll_sameLink _ _)).trans (State.send_sameLink _ _ _)).trans
      (State.tell_sameLink _)).trans (State.feedLine_sameLink _ l))

theorem State.startTest_sameLink (s : State) (l : LineId) : SameLink s (s.startTest l) := by
  unfold State.startTest
  split
  · exact State.beginExposure_sameLink s l
  · exact SameLink.rfl' s

/-! ### The walk -/

theorem State.place_sameLink (s : State) (p : Slot) (l : LineId) : SameLink s (s.place p l) :=
  (((State.leaveReady_sameLink s p).trans (State.setPlate_sameLink _ _ _)).trans (State.setLine_sameLink _ _ _)).trans
    (State.report_sameLink _ _)

theorem State.walkOne_sameLink (s : State) (p : Slot) : SameLink s (s.walkOne p) := by
  unfold State.walkOne
  split
  · exact SameLink.rfl' s
  · exact State.place_sameLink s p _

theorem State.walk_sameLink (s : State) : SameLink s s.walk := SameLink.foldl _ State.walkOne_sameLink _ s

theorem State.startLines_sameLink (s : State) : SameLink s s.startLines :=
  SameLink.foldl _ State.startTest_sameLink _ s

theorem State.walks_sameLink (n : Nat) (s : State) : SameLink s (State.walks n s) := by
  induction n generalizing s with
  | zero => exact SameLink.rfl' s
  | succ n ih =>
    have h0 : SameLink s { s with told := false } := ⟨⟨rfl, rfl, rfl, rfl, rfl, rfl, rfl, rfl⟩, rfl⟩
    have h : SameLink s ({ s with told := false }.walk).startLines :=
      h0.trans ((State.walk_sameLink _).trans (State.startLines_sameLink _))
    unfold State.walks
    dsimp only
    split
    · exact h.trans (ih _)
    · exact h

/-- The walk with its starts changes no page, no profile, no byte of memory and nothing of the Link Port. -/
theorem State.settle_sameLink (s : State) : SameLink s s.settle := by
  unfold State.settle
  split
  · exact State.walks_sameLink 5 s
  · exact SameLink.rfl' s

/-! ### The end of a command -/

/-- A grant leaves memory and the free list. -/
theorem RasterStore.grant_mem (st : RasterStore) (level : LineId → Nat) :
    (st.grant level).mem = st.mem ∧ (st.grant level).free = st.free ∧ (st.grant level).table = st.table := by
  unfold RasterStore.grant
  split <;> exact ⟨rfl, rfl, rfl⟩

theorem State.endHanding_sameLink (s : State) : SameLink s s.endHanding := by
  unfold State.endHanding
  split
  · exact ⟨⟨rfl, rfl, rfl, (RasterStore.grant_mem _ _).1, (RasterStore.grant_mem _ _).2.1, rfl, rfl, rfl⟩, rfl⟩
  · exact SameLink.rfl' s

theorem State.transmit_samePages (s : State) : SamePages s s.transmit := by
  rw [State.transmit_eq]
  exact ⟨rfl, rfl, rfl, rfl, rfl, rfl, rfl, rfl⟩

/-- What every command ends with changes no page, no profile and no byte of memory. -/
theorem State.finish_samePages (s : State) : SamePages s s.finish :=
  ((State.settle_sameLink s).trans (State.endHanding_sameLink _)).toSamePages.trans (State.transmit_samePages _)

/-- Of the Link Port the end of a command changes the transmission and the PACE state alone. -/
theorem State.finish_link (s : State) :
    s.finish.link = { s.link with tx := s.finish.link.tx, pace := s.finish.link.pace } := by
  have h := ((State.settle_sameLink s).trans (State.endHanding_sameLink _)).link
  unfold State.finish
  rw [State.transmit_eq]
  simp only [h]

/-- Between two commands, what a command ends with is the transmitter's choice alone. -/
theorem State.finish_quiet (s : State) (h : s.Quiet) : s.finish = s.transmit := by
  unfold State.finish
  rw [State.settle_untold s h.1, State.endHanding_idle s h.2]

end Sys2Proof.Machine
end

