-- ==== Sys2Proof/WellFormed.lean ====
section
/-! DEFINITION. Which commands are well formed: the ranges the spec gives the operands of each. -/

namespace Sys2Proof

/-- The bytes of a FRAME_ARRIVAL: fed to a hunting parser they deliver one frame, with the last byte (R1). -/
def oneFrame (bytes : List Byte) : Bool :=
  decide ((Machine.Parser.run (.hunt false) bytes).2.length = 1)
  && decide ((Machine.Parser.run (.hunt false) bytes.dropLast).2.length = 0)

/-- The bytes of a DAMAGED_FRAME: the start delimiter and seven header bytes whose body length is above 196,626
(R1). -/
def damagedHeader (bytes : List Byte) : Bool :=
  decide (bytes.length = 9) && decide (bytes.take 2 = [0x7B, 0xD4])
  && decide (Config.maxBody < Machine.bodyLength (bytes.drop 2))

/-- A command's operands are in the ranges the spec gives them. -/
def Instr.wellFormed : Instr → Bool
  | .powerOn => true
  | .linkDown => true
  | .linkUp => true
  | .frameArrival bytes => oneFrame bytes
  | .transmissionEnd => true
  | .badFrame => true
  | .engineReset => true
  | .engineInfo => true
  | .releasePage => true
  | .discardPage => true
  | .queryPage => true
  | .loadPlate => true
  | .dropPlate => true
  | .remakePlate => true
  | .queryPlate => true
  | .lineConfig => true
  | .lineStart => true
  | .linePause => true
  | .lineDrain => true
  | .lineReset => true
  | .lineClearFault => true
  | .queryLine => true
  | .loadProfile => true
  | .binOpen => true
  | .binClose => true
  | .bandWriteCompletion => true
  | .beginAccept _ => true
  | .beginRefuse _ _ => true
  | .beginRefuseLocal _ => true
  | .beginTimeout _ => true
  | .scanReadCompletion => true
  | .lineRequest _ => true
  | .exposeEnd _ _ => true
  | .exposeEndFault _ => true
  | .unitStatusReport _ _ stock _ => decide (stock.getD 0 ≤ 7)
  | .pbArrival _ mark => decide (mark.getD 0 < 65536)
  | .pbSetupDone _ => true
  | .pbDone _ => true
  | .pbFault _ => true
  | .deadlineExpiry _ _ => true
  | .soArrival _ => true
  | .soStacked _ _ => true
  | .soBinEmptied _ _ => true
  | .soFault _ => true
  | .damagedFrame bytes => damagedHeader bytes

end Sys2Proof
end

