-- ==== Sys2Proof/Tests/Slice0.lean ====
section
/-! SUPPORT. Tests on small states, one command each, and for each statement a witness: a concrete state and operands
that meet its hypotheses. Expected values come from the tables and worked cases of the spec, named at each test. -/

namespace Sys2Proof.Tests

set_option Elab.async false

open Sys2Proof.Machine

/-! ### Small states -/

/-- An engine with nothing to send: the link up, ENGINE_STARTED gone, GO signalled. -/
def bench : State := { link := { awaitingStart := false, pace := .go }, reports := { records := [] } }

/-- The bench with a line 1. -/
def withLine (ln : Line) : State := { bench with lines := bench.lines.set 1 ln }

/-- A state with a plate record. -/
def withPlate (s : State) (p : Slot) (r : PlateRecord) : State := { s with plates := s.plates.set p.val r }

/-- A state with a page entry. -/
def withPage (s : State) (k : PageIx) (e : PageEntry) : State := { s with pages := s.pages.set k.val e }

/-- A state with a raster descriptor. -/
def withDesc (s : State) (d : DescId) (x : Descriptor) : State :=
  { s with store := { s.store with table := s.store.table.set d.val x } }

/-- A state with one control frame, of tag 7, at the head of its control queue. -/
def asked (s : State) (code : Byte) (args : List Byte) : State :=
  { s with link := { s.link with controlQueue := [{ tag := 7, body := code :: args }], reply := none } }

/-- The state a command leaves. -/
def after (o : Host.Outcome State Fault Refusal) : State :=
  match o with
  | .next t => t
  | _ => bench

/-- Status, field index and data of the REPLY a control command leaves. -/
def answered (o : Host.Outcome State Fault Refusal) : Option (Status × Nat × List Byte) :=
  (after o).link.reply.map fun r => (r.status, r.field, r.data)

/-- The kinds of the reports in the Report Queue. -/
def reported (s : State) : List ReportKind := s.reports.records.map Report.kind

theorem asked_offers (s : State) (code : Byte) (args : List Byte) :
    (asked s code args).Offers { tag := 7, body := code :: args } code args := ⟨rfl, rfl, rfl⟩

theorem bench_plate (p : Slot) : bench.plate p = {} := by simp [State.plate, bench]

theorem bench_page (k : PageIx) : bench.page k = {} := by simp [State.page, bench]

theorem bench_line (l : LineId) : bench.line l = {} := by simp [State.line, bench]

/-! ### Well-formed commands -/

theorem test_wellFormed_refuses :
    (Instr.frameArrival [0x7B, 0xD4, 0x02]).wellFormed = false
    ∧ (Instr.frameArrival (frameBytes 2 7 [0x02] ++ [0])).wellFormed = false
    ∧ (Instr.damagedFrame [0x7B, 0xD4, 1, 0, 0, 0x12, 0, 3, 0]).wellFormed = false
    ∧ (Instr.unitStatusReport 0 true (some 8) false).wellFormed = false
    ∧ (Instr.pbArrival 0 (some 65536)).wellFormed = false := by decide +kernel

theorem test_wellFormed_admits :
    (Instr.frameArrival (frameBytes 2 7 [0x02])).wellFormed = true
    ∧ (Instr.damagedFrame [0x7B, 0xD4, 1, 0, 0, 0x13, 0, 3, 0]).wellFormed = true
    ∧ (Instr.unitStatusReport 0 true (some 7) false).wellFormed = true
    ∧ (Instr.pbArrival 0 (some 65535)).wellFormed = true := by decide +kernel

/-! ### The machine and its reset -/

theorem witness_StepTakesTheFront :
    ({ bench with pending := [.linkDown, .linkUp] } : State).pending = .linkDown :: [.linkUp] ∧ bench.pending = [] :=
  ⟨rfl, rfl⟩

theorem test_step_takes_the_front :
    (after (step { bench with pending := [.linkDown, .linkUp] })).link.up = false
    ∧ (after (step { bench with pending := [.linkDown, .linkUp] })).pending = [.linkUp] := by decide +kernel

theorem test_rows_give_no_bits : decodeTableWord 8 0x02 = none ∧ (bench.withFetchWord 8 0x02).pending = [] :=
  ⟨rfl, rfl⟩

theorem witness_CommandsEndSettled : ({ bench with told := true, ready := [3] } : State).told = true := rfl

theorem bench_placed : bench.Placed := by
  refine ⟨?_, .nil, ?_, ?_, ?_, ?_, ?_, ?_, ?_⟩ <;>
    simp [bench_plate, bench_line, PlateState.inFlight, show bench.ready = [] from rfl]

theorem witness_CommandsEndSettled_step :
    bench.Placed ∧ bench.Settled ∧ ∃ t, step { bench with pending := [.linkDown] } = .next t :=
  ⟨bench_placed, ⟨⟨rfl, rfl⟩, nofun, fun l => by simp [bench_line, Line.startReady]⟩, _, rfl⟩

/-- A band write in service: two bytes at address 8. -/
def writing : State :=
  { bench with store := { bench.store with
      inService := some (.write { desc := 0, strip := 0, row := 0, addr := 8, bytes := [1, 2] }) } }

theorem witness_ResetsRestoreTheEngine :
    (asked writing 0x01 []).Offers { tag := 7, body := [0x01] } 0x01 []
    ∧ (asked writing 0x01 []).store.inService =
        some (.write { desc := 0, strip := 0, row := 0, addr := 8, bytes := [1, 2] })
    ∧ (asked writing 0x01 []).store.mem.wf
    ∧ (asked bench 0x01 []).Offers { tag := 7, body := [0x01] } 0x01 []
    ∧ ∀ w : BandWrite, (asked bench 0x01 []).store.inService ≠ some (.write w) :=
  ⟨asked_offers _ _ _, rfl, by decide, asked_offers _ _ _, nofun⟩

theorem test_powerOn : (after (exec .powerOn { bench with ready := [3] })).ready = []
    ∧ (after (exec .powerOn bench)).reports.records = [{ kind := .engineStarted }]
    ∧ (after (exec .powerOn bench)).link.tx = some .report := by decide +kernel

theorem test_engineReset : (after (exec .engineReset (asked { bench with ready := [3] } 0x01 []))).ready = []
    ∧ (after (exec .engineReset (asked bench 0x01 []))).link.reply = none
    ∧ ((after (exec .engineReset (asked (withLine { mode := .running, exposure := some { slot := 3, pass := 1, mark := 385 } })
        0x01 []))).line 1).resetAbort = true := by decide +kernel

/-! ### The Page Feed Link (spec 01) -/

/-- R2: the check values of the nine bytes "123456789" and of no bytes. -/
theorem test_check_values :
    checkOf [0x31, 0x32, 0x33, 0x34, 0x35, 0x36, 0x37, 0x38, 0x39] = 0xCBF43926#32 ∧ checkOf [] = 0#32 := by
  decide +kernel

/-- A band at the greatest row count and width of a BAND body. -/
def widestBand : Band :=
  { page := 255, sep := 3, version := 65535, index := 65535, last := true, rows := 64, firstRow := 65535,
    width := 24576, height := 32768, check := 0xFFFFFFFF#32, payload := List.replicate 196608 0 }

/-- A band of one row without the last mark, at the least width and height, and a last band of no rows. -/
def leastBand : Band :=
  { page := 0, sep := 0, version := 0, index := 0, last := false, rows := 1, firstRow := 0, width := 1, height := 1,
    check := 0, payload := [0] }

theorem witness_FramesAreReadAsSent :
    (255 < 256 ∧ (List.replicate 196626 (0x7B : Byte)).length ≤ Config.maxBody)
    ∧ (0 < 256 ∧ ([] : List Byte).length ≤ Config.maxBody)
    ∧ (widestBand.version < 65536 ∧ widestBand.index < 65536 ∧ widestBand.rows ≤ 64 ∧ widestBand.firstRow < 65536
      ∧ (1 ≤ widestBand.width ∧ widestBand.width ≤ 24576) ∧ (1 ≤ widestBand.height ∧ widestBand.height ≤ 32768)
      ∧ widestBand.payload.length = widestBand.rows * rowBytes widestBand.width ∧ widestBand.last = true)
    ∧ (leastBand.version < 65536 ∧ leastBand.index < 65536 ∧ leastBand.rows ≤ 64 ∧ leastBand.firstRow < 65536
      ∧ (1 ≤ leastBand.width ∧ leastBand.width ≤ 24576) ∧ (1 ≤ leastBand.height ∧ leastBand.height ≤ 32768)
      ∧ leastBand.payload.length = leastBand.rows * rowBytes leastBand.width
      ∧ leastBand.last = false ∧ 1 ≤ leastBand.rows ∧ leastBand.check = 0) := by
  refine ⟨⟨by decide, by rw [List.length_replicate]⟩, by decide, ?_, by decide⟩
  refine ⟨by decide, by decide, by decide, by decide, by decide, by decide, ?_, rfl⟩
  show (List.replicate 196608 (0 : Byte)).length = _
  rw [List.length_replicate]
  rfl

theorem witness_LinkSignalObeyed :
    bench.link.up = true ∧ ({ bench with link := { bench.link with up := false } } : State).link.up = false :=
  ⟨rfl, rfl⟩

/-- The bench with a frame in transmission. -/
def sending (t : Transmission) : State := { bench with link := { bench.link with tx := some t } }

theorem test_linkDown : (after (exec .linkDown (sending (.pace .hold .go)))).link.pace = .go
    ∧ (after (exec .linkDown (sending (.pace .hold .none)))).link.pace = .none
    ∧ (after (exec .linkDown (sending .reply))).link.tx = none := by decide +kernel

theorem test_linkUp : (after (exec .linkUp
    { bench with link := { up := false, parser := .header [1], awaitingStart := false, pace := .none } })).link.tx =
      some (.pace .go .none) := by decide +kernel

/-- A REPLY of status OK. -/
def okReply : Reply := { tag := 0x1234, code := 0x31, status := .ok, field := 0, data := [] }

theorem witness_FramesAreTransmitted :
    ({ bench with link := { bench.link with up := false } } : State).link.up = false
    ∧ (sending .reply).link.tx ≠ none
    ∧ (State.reset.link.up = true ∧ State.reset.link.tx = none ∧ State.reset.link.awaitingStart = true
      ∧ State.reset.reports.records ≠ [])
    ∧ (bench.link.up = true ∧ bench.link.tx = none ∧ bench.link.awaitingStart = false
      ∧ ({ bench with link := { bench.link with pace := .none } } : State).link.pace ≠ bench.condition)
    ∧ (bench.link.pace = bench.condition ∧ bench.link.reply = none ∧ bench.reports.records = [])
    ∧ ({ bench with link := { bench.link with reply := some okReply } } : State).link.reply ≠ none
    ∧ ({ bench with reports := {} } : State).reports.records ≠ []
    ∧ (sending (.pace .hold .go)).link.tx = some (.pace .hold .go)
    ∧ (({ sending .reply with link := { (sending .reply).link with reply := some okReply } } : State).link.tx = some .reply
      ∧ ({ sending .reply with link := { (sending .reply).link with reply := some okReply } } : State).link.reply =
        some okReply)
    ∧ ({ sending .report with reports := {} } : State).reports.records = { kind := .engineStarted } :: [] := by
  decide +kernel

/-- The first frame after power-on: kind 0x82, tag 0, 15 body bytes, of which the first is 0x01, ENGINE_STARTED. -/
theorem test_transmissionEnd_report :
    let t := after (exec .transmissionEnd (after (exec .powerOn State.reset)))
    (t.out.map fun o => match o with
      | .frame bs => (bs.take 12, bs.length)
      | _ => ([], 0)) = [([0x7B, 0xD4, 0x82, 0, 0, 15, 0, 0, 0, 1, 0, 0], 28)]
    ∧ t.reports.seq = 1 ∧ t.link.awaitingStart = false ∧ t.link.tx = some (.pace .go .none) := by decide +kernel

/-- Section 1.7: a PLATE_DELIVERED of slot 300, line 2, pass 7 and bin 9, with the gap mark. -/
theorem test_report_record :
    ({ kind := .plateDelivered, slot := some 300, line := some 2, pass := some 7, bin := some 9, gap := true } :
      Report).encode = [0x0F, 1, 0x63, 2, 0x2C, 0x01, 0, 0, 0, 0, 0, 0, 7, 9, 0] := by decide +kernel

theorem test_transmissionEnd_reply :
    (after (exec .transmissionEnd { sending .reply with link := { (sending .reply).link with reply := some okReply } })).link.reply =
      none := by decide +kernel

theorem witness_FramesAreTaken :
    (bench.link.up = true ∧ bench.link.parser = .hunt false ∧ ([0x02] : List Byte).length ≤ Config.maxBody)
    ∧ bench.link.controlQueue.length < 16
    ∧ 16 ≤ ({ bench with link := { bench.link with
        controlQueue := List.replicate 16 { tag := 0, body := [0x02] } } } : State).link.controlQueue.length
    ∧ (bandMalformed [1, 2, 3] = true ∧ ([1, 2, 3] : List Byte).length < 4)
    ∧ (bandMalformed [1, 2, 3, 4] = true ∧ 4 ≤ ([1, 2, 3, 4] : List Byte).length)
    ∧ bandMalformed [0, 0, 1, 0, 0, 0, 0, 1, 0, 0, 1, 0, 1, 0, 0x80] = false
    ∧ bench.intake.buffer.length < 4
    ∧ (let s : State := { bench with intake := { bench.intake with buffer := List.replicate 4 leastBand } }
      4 ≤ s.intake.buffer.length ∧ ¬ ((s.page 0).state = .receiving ∧ (s.page 0).version = 1))
    ∧ (let s : State := withPage { bench with intake := { bench.intake with buffer := List.replicate 4 leastBand } } 0
        { state := .receiving, version := 1 }
      4 ≤ s.intake.buffer.length ∧ (s.page (bandOf [0, 0, 1, 0, 0, 0, 0, 1, 0, 0, 1, 0, 1, 0, 0x80]).key).state = .receiving
      ∧ (s.page 0).version = 1)
    ∧ (3 < 256 ∧ 3 ≠ 1 ∧ 3 ≠ 2)
    ∧ (0 : CheckWord) ≠ checkOf (coveredBytes 2 7 [0x02])
    ∧ (([1, 0, 0, 0x13, 0, 3, 0] : List Byte).length = 7 ∧ Config.maxBody < u32At [1, 0, 0, 0x13, 0, 3, 0] 3)
    ∧ ({ bench with link := { bench.link with up := false } } : State).link.up = false := by decide +kernel

theorem test_frameArrival_control :
    (after (exec (.frameArrival (frameBytes 2 7 [0x02])) bench)).link.controlQueue = [{ tag := 7, body := [0x02] }] := by
  decide +kernel

/-- A band 0 of version 1 of page key (0, 0), one row of one pixel, begins a reception (R21). -/
theorem test_frameArrival_band :
    let t := after (exec (.frameArrival (frameBytes 1 9 [0, 0, 1, 0, 0, 0, 0, 1, 0, 0, 1, 0, 1, 0, 0x80])) bench)
    (t.page 0).state = .receiving ∧ (t.page 0).version = 1 ∧ (t.page 0).raster = some 0 ∧ t.intake.phase = some .writing := by
  decide +kernel

theorem test_damagedFrame :
    (after (exec (.damagedFrame [0x7B, 0xD4, 1, 0, 0, 0x13, 0, 3, 0]) bench)).link.parser = .hunt false
    ∧ (after (exec (.damagedFrame [0x7B, 0xD4, 1, 0, 0, 0x12, 0, 3, 0]) bench)).link.parser =
      .body [1, 0, 0, 0x12, 0, 3, 0] [] := by decide +kernel

theorem witness_ReportsEnterInOrder :
    bench.reports.records.length ≤ 256
    ∧ ({ bench with reports := { records := List.replicate 256 { kind := .binFull } } } : State).reports.records.length ≤ 256 := by
  decide +kernel

theorem witness_ShapelessFramesAreRefused :
    ((asked bench 0x77 []).link.reply = none ∧ (asked bench 0x77 []).link.controlQueue = { tag := 7, body := [0x77] } :: []
      ∧ commandOf [0x77] = none)
    ∧ ((asked bench 0x02 []).link.controlQueue = { tag := 7, body := [0x02] } :: [] ∧ commandOf [0x02] ≠ none) := by
  decide +kernel

theorem test_badFrame :
    (after (exec .badFrame (asked bench 0x77 [1, 2]))).link.reply =
      some { tag := 7, code := 0x77, status := .badFrame, field := 0, data := [] }
    ∧ (after (exec .badFrame (asked bench 0x31 []))).link.controlQueue = [] := by decide +kernel

theorem witness_TakenFramesAreAnsweredOnce :
    ((asked bench 0x02 []).Offers { tag := 7, body := [0x02] } 0x02 [] ∧ commandOf [0x02] ≠ none)
    ∧ ∀ (f : ControlFrame) (args : List Byte), bench.Offers f 0x02 args → commandOf f.body = none :=
  ⟨⟨asked_offers _ _ _, by decide +kernel⟩, fun _ _ h => nomatch h.head⟩

/-! ### Pages and bands (specs 02, 03) -/

/-- The bench with the entry of page 12 in black, at index 48, and its raster, descriptor 5, of one strip. -/
def page12 (e : PageEntry) (x : Descriptor := { state := .filled, key := some 48, strips := [7], dirHold := true }) : State :=
  let s := withDesc (withPage bench 48 e) 5 x
  { s with store := { s.store with free := [1, 2] } }

/-- A tile of page 12. -/
def tile12 : Tile := { page := 12, originX := 100, originY := 200, turn := .upright, scale := 1200, clip := none }

/-- A loaded plate of page 12 alone. -/
def plate12 : PlateLoad := { tiles := [tile12] }

/-- A band of page 12 in black. -/
def band12 (version index : Nat) (last : Bool := false) : Band :=
  { page := 12, sep := 0, version := version, index := index, last := last, rows := 1, firstRow := 0, width := 8,
    height := 2, check := 0, payload := [0x80] }

/-- Page 12 receiving version 3: one of two rows written, band 1 expected, in descriptor 5. -/
def receiving12 : PageEntry :=
  { state := .receiving, version := 3, raster := some 5, nextBand := 1, rows := 1, width := 8, height := 2 }

/-- Page 12 complete in version 3. -/
def complete12 : PageEntry := { receiving12 with state := .complete, rows := 2 }

/-- Slot 40 loaded with page 12, in a state. -/
def record12 (st : PlateState) : PlateRecord := { state := st, load := plate12 }

theorem witness_PagesAreReleasedAndDiscarded :
    ((asked bench 0x10 [12, 4]).Offers { tag := 7, body := [0x10, 12, 4] } 0x10 [12, 4] ∧ 3 < (4 : Byte).toNat)
    ∧ (asked bench 0x10 [12, 0]).Offers { tag := 7, body := [0x10, 12, 0] } 0x10 [(keyBytes 48).1, (keyBytes 48).2]
    ∧ (((page12 complete12).page 48).state = .complete ∧ ((page12 complete12).page 48).demand = 0)
    ∧ 0 < ((page12 { complete12 with demand := 1 }).page 48).demand
    ∧ ((page12 receiving12).page 48).state ≠ .complete
    ∧ (((page12 complete12).page 48).raster = some 5 ∧ ((page12 complete12).store.desc 5).expHolds = 0)
    ∧ (asked bench 0x11 [12, 0]).Offers { tag := 7, body := [0x11, 12, 0] } 0x11 [(keyBytes 48).1, (keyBytes 48).2]
    ∧ (((withPlate bench 40 (record12 .planned)).plate 40).state ≠ .free
      ∧ 48 ∈ ((withPlate bench 40 (record12 .planned)).plate 40).load.keys)
    ∧ (∀ p : Slot, 48 ∈ (bench.plate p).load.keys → (bench.plate p).state = .free)
    ∧ (bench.intake.phase = none ∧ (bench.page 48).raster = none) :=
  ⟨⟨asked_offers _ _ _, by decide⟩, asked_offers _ _ _, by decide +kernel, by decide +kernel, by decide +kernel,
    by decide +kernel, asked_offers _ _ _, by decide +kernel, fun p _ => by simp [State.plate, bench], by decide +kernel⟩

theorem test_releasePage :
    let t := after (exec .releasePage (asked (page12 complete12) 0x10 [12, 0]))
    t.page 48 = { complete12 with state := .released, raster := none } ∧ t.store.free = [1, 2, 7]
    ∧ reported t = [.pageReleased] := by decide +kernel

theorem test_releasePage_refuses :
    answered (exec .releasePage (asked (page12 { complete12 with demand := 1 }) 0x10 [12, 0])) = some (.inDemand, 0, [])
    ∧ answered (exec .releasePage (asked bench 0x10 [12, 0])) = some (.wrongState, 0, [])
    ∧ answered (exec .releasePage (asked bench 0x10 [12, 4])) = some (.badField, 2, []) := by decide +kernel

theorem test_discardPage :
    let t := (page12 { complete12 with demand := 2 }).discardPage 48
    t.page 48 = { demand := 2 } ∧ (t.store.desc 5).state = .free := by decide +kernel

theorem test_discardPage_refuses :
    answered (exec .discardPage (asked bench 0x11 [12, 4])) = some (.badField, 2, []) := by decide +kernel

theorem witness_PagesAreReleasedAndDiscarded_abandoned :
    let s := { page12 receiving12 with intake := { buffer := [band12 3 1], phase := some .waitingStrip, stall := true } }
    let w := { s with intake := { s.intake with phase := some .writing } }
    let a := { s with intake := { s.intake with phase := some .abandoned } }
    (s.intake.buffer = band12 3 1 :: [] ∧ (band12 3 1).key = 48 ∧ s.intake.phase = some .waitingStrip
      ∧ s.store.writeInFlight = false ∧ (s.page 48).raster = some 5 ∧ (s.store.desc 5).expHolds = 0)
    ∧ (w.intake.buffer = band12 3 1 :: [] ∧ w.intake.phase = some .writing)
    ∧ (a.intake.buffer = band12 3 1 :: [] ∧ a.intake.phase = some .abandoned ∧ a.store.writeInFlight = false)
    ∧ ((band12 3 1).key ≠ 52 ∧ s.intake.phase ≠ some .abandoned) ∧ writing.store.writeInFlight = true := by
  decide +kernel

/-- R32, R40: a band of page 12 abandoned in WAITING_STRIP leaves its slot at once and its stall ends; a band of page 12 in
progress is left alone by the discard of another page. -/
theorem test_discard_abandons :
    let s := { page12 receiving12 with intake := { buffer := [band12 3 1], phase := some .waitingStrip, stall := true } }
    (s.discardPage 48).intake = {} ∧ (s.discardPage 48).store.free = [1, 2, 7] ∧ (s.discardPage 52).intake = s.intake := by
  decide +kernel

/-- The descriptor of page 12 while it receives. -/
def filling12 : Descriptor :=
  { state := .filling, key := some 48, width := 8, height := 2, perStrip := 262144, strips := [0], dirHold := true }

/-- Page 12 receiving, its band in WRITING with the row at address 1 in service. -/
def writing12 (last : Bool) (rows : Nat := 1) : State :=
  { page12 receiving12 filling12 with
    intake :=
      { buffer := [{ band12 3 1 last with rows := rows, payload := List.replicate rows 0x80 }], phase := some .writing }
    store := { (page12 receiving12 filling12).store with
      inService := some (.write { desc := 5, strip := 0, row := 1, addr := 1, bytes := [0x80] }) } }

theorem witness_BandWritesComplete :
    ((writing12 false).store.inService = some (.write { desc := 5, strip := 0, row := 1, addr := 1, bytes := [0x80] })
      ∧ (writing12 false).store.mem.wf)
    ∧ ((writing12 false 2).intake.phase = some .writing ∧ (writing12 false 2).intake.nextRow + 1 < 2)
    ∧ ((writing12 false).intake.buffer = band12 3 1 :: [] ∧ (band12 3 1).rows ≤ (writing12 false).intake.nextRow + 1
      ∧ (band12 3 1).last = false)
    ∧ ((writing12 true).intake.buffer = band12 3 1 true :: [] ∧ (band12 3 1 true).last = true)
    ∧ ({ writing12 false with intake := { (writing12 false).intake with phase := some .abandoned } } : State).intake.phase =
        some .abandoned := by decide +kernel

/-- A store in which no descriptor is FREE. -/
def noneFree : RasterStore := { table := Vector.replicate 1536 { state := .filled } }

theorem witness_BandWritesComplete_rows :
    (((page12 receiving12 filling12).page (band12 3 1).key).raster = some 5
      ∧ ((page12 receiving12 filling12).page 48).rows % ((page12 receiving12 filling12).store.desc 5).perStrip ≠ 0)
    ∧ (let s := page12 { receiving12 with rows := 0 } filling12
      (s.page (band12 3 1).key).raster = some 5 ∧ (s.page 48).rows % (s.store.desc 5).perStrip = 0
        ∧ s.store.free = 1 :: [2] ∧ ({ s.store with free := [] } : RasterStore).free = []
        ∧ s.intake.stall = false ∧ ({ s.intake with stall := true } : BandIntake).stall = true)
    ∧ (1 ≤ (band12 3 1).width ∧ (band12 3 1).payload.length = (band12 3 1).rows * (((band12 3 1).width + 7) / 8)
      ∧ 0 < (band12 3 1).rows)
    ∧ (let s := { page12 receiving12 filling12 with intake := { buffer := [band12 3 1], phase := some .waitingStrip } }
      s.intake.phase = some .waitingStrip ∧ s.intake.buffer = band12 3 1 :: [] ∧ s.store.free ≠ []
        ∧ ({ s.store with free := [] } : RasterStore).free = [])
    ∧ (let s := { bench with intake := { buffer := [band12 1 0], phase := some .waitingDescriptor } }
      s.intake.phase = some .waitingDescriptor ∧ s.intake.buffer ≠ [] ∧ ∃ d, (s.store.desc d).state = .free)
    ∧ (∀ d, (noneFree.desc d).state ≠ .free)
    ∧ bench.intake.phase ≠ some .waitingStrip ∧ bench.intake.phase ≠ some .waitingDescriptor :=
  ⟨by decide +kernel, by decide +kernel, by decide, by decide +kernel, ⟨rfl, nofun, 0, by decide +kernel⟩,
    fun d => by simp [RasterStore.desc, noneFree], nofun, nofun⟩

/-- R29 and R31: the pad bits of a row are written as 0, and a row that begins a strip while none is free stalls. -/
theorem test_row_request :
    ({ band12 3 1 with width := 3, payload := [0xFF] } : Band).rowOf 0 = [0xE0]
    ∧ (let s := page12 { receiving12 with rows := 0 } filling12
      let t := ({ s with store := { s.store with free := [] } } : State).startRow (band12 3 1)
      t.intake.phase = some .waitingStrip ∧ t.intake.stall = true ∧ reported t = [.memoryStall]) := by decide +kernel

theorem test_bandWriteCompletion :
    let t := after (exec .bandWriteCompletion (writing12 false))
    (t.page 48).rows = 2 ∧ t.store.mem = [(1, 0x80)] ∧ t.intake.buffer = [] ∧ t.store.inService = none := by
  decide +kernel

theorem test_lastBand_mismatch :
    let t := after (exec .bandWriteCompletion (withPage (writing12 true) 48 { receiving12 with check := 0 }))
    (t.page 48).state = .broken ∧ (t.page 48).cause = some .checkMismatch ∧ reported t = [.pageBroken] := by
  decide +kernel

theorem witness_OldBandsAreDropped :
    (band12 0 0).version = 0
    ∧ (0 < (band12 2 0).version ∧ (band12 2 0).version < ((page12 receiving12).page (band12 2 0).key).version)
    ∧ ((page12 receiving12).judge (band12 3 2)).2 = .disposed := by decide +kernel

/-- Page 12 complete in version 3, its raster held by one exposure. -/
def held12 : State := page12 complete12 { state := .filled, key := some 48, strips := [7], dirHold := true, expHolds := 1 }

theorem witness_BandsAreJudged :
    (0 < (band12 3 1).version ∧ (band12 3 1).version = ((page12 receiving12).page 48).version
      ∧ (band12 3 1).key = 48 ∧ (band12 3 1).index = receiving12.nextBand)
    ∧ ((band12 3 0).index ≠ receiving12.nextBand ∧ (band12 3 0).index = 0 ∧ receiving12.raster = some 5)
    ∧ (0 < (band12 3 1).index ∧ (band12 3 1).index < ({ receiving12 with nextBand := 2 } : PageEntry).nextBand)
    ∧ (receiving12.nextBand < (band12 3 2).index ∧ (band12 3 2).index ≠ 0)
    ∧ ((page12 complete12).page 48).state = .complete
    ∧ (((page12 { receiving12 with state := .broken, raster := none }).page 48).state = .broken
      ∧ (page12 { receiving12 with state := .broken, raster := none }).store.firstFree = some 0)
    ∧ ((page12 complete12).page (band12 4 0).key).version < (band12 4 0).version
    ∧ ((bench.page 48).version < (band12 1 0).version ∧ (bench.page 48).version = 0 ∧ bench.store.firstFree = some 0)
    ∧ complete12.version ≠ 0
    ∧ (complete12.raster = some 5 ∧ (5 : DescId) ≠ 0 ∧ ((page12 complete12).store.desc 5).expHolds = 0
      ∧ (held12.store.desc 5).expHolds ≠ 0) := by decide +kernel

/-- R47 and R50: the raster of the superseded version is freed when no exposure holds it, and RETIRED with its strips when
one does. -/
theorem test_supersession_drops_the_raster :
    (let t := ((page12 complete12).judge (band12 4 0)).1;
      (t.store.desc 5).state = .free ∧ t.store.free = [1, 2, 7])
    ∧ (let t := (held12.judge (band12 4 0)).1;
      (t.store.desc 5).state = .retired ∧ (t.store.desc 5).strips = [7] ∧ (t.store.desc 5).expHolds = 1
      ∧ (t.store.desc 5).dirHold = false ∧ t.store.free = [1, 2]) := by decide +kernel

/-- The bench with no descriptor FREE. -/
def noRaster : State := { bench with store := noneFree }

theorem witness_no_descriptor : noRaster.store.firstFree = none := by
  simp [noRaster, RasterStore.firstFree, RasterStore.desc, noneFree]

theorem judge_waits (s : State) (h : s.page 48 = {}) (hf : s.store.firstFree = none) :
    (s.judge (band12 1 0)).2 = .waits := by
  have hk : s.page (band12 1 0).key = {} := h
  have h1 : ¬ (band12 1 0).version < (s.page (band12 1 0).key).version := by rw [hk]; decide
  have h2 : (s.page (band12 1 0).key).version < (band12 1 0).version := by rw [hk]; decide
  rw [State.judge, if_neg (by decide), if_neg h1, if_pos (Or.inl h2), if_pos (by decide)]
  unfold State.newReception
  split
  · rfl
  · next heq => rw [hf] at heq; cases heq

theorem witness_LastBandsDecide :
    ((page12 complete12).page (band12 3 1 true).key).raster = some 5
    ∧ (complete12.rows = complete12.height ∧ checkValue complete12.check = (band12 3 1 true).check)
    ∧ (complete12.rows = complete12.height ∧ checkValue complete12.check ≠ ({ band12 3 1 true with check := 1 } : Band).check)
    ∧ receiving12.rows ≠ receiving12.height := by decide +kernel

theorem witness_LastBandsDecide_heads :
    (bench.intake.buffer.length ≤ 4 ∧ bench.intake.buffer = [])
    ∧ ({ bench with intake := { buffer := [band12 3 1] } } : State).intake.phase = none
    ∧ (noRaster.judge (band12 1 0)).2 = .waits
    ∧ ((page12 receiving12).judge (band12 3 2)).2 = .disposed
    ∧ (((page12 receiving12).judge (band12 3 1)).2 = .accepted
      ∧ ((page12 receiving12).acceptBand { band12 3 1 with width := 9 }).2 = true
      ∧ ((page12 receiving12 filling12).acceptBand { band12 3 1 with firstRow := 1 }).2 = false) := by
  refine ⟨by decide, by decide +kernel, ?_, by decide +kernel, by decide +kernel⟩
  exact judge_waits _ (by simp [State.page, noRaster, bench]) witness_no_descriptor

theorem witness_LastBandsDecide_checks :
    let e := (page12 receiving12).page 48
    (¬ (({ band12 3 1 with width := 9 } : Band).width = e.width))
    ∧ ((band12 3 1).width = e.width ∧ (band12 3 1).height = e.height ∧ (band12 3 1).firstRow ≠ e.rows)
    ∧ (let b : Band := { band12 3 1 with firstRow := 1, rows := 2 }
      b.firstRow = e.rows ∧ e.height < b.firstRow + b.rows)
    ∧ (let b : Band := { band12 3 1 true with firstRow := 1, rows := 0 }
      b.firstRow = e.rows ∧ b.firstRow + b.rows ≤ e.height ∧ b.rows = 0)
    ∧ let b : Band := { band12 3 1 with firstRow := 1 }
      b.firstRow = e.rows ∧ b.firstRow + b.rows ≤ e.height ∧ 0 < b.rows := by decide +kernel

/-- R27, R34: a band past the declared height breaks the page; an accepted one advances index and running check. -/
theorem test_acceptance :
    (((page12 receiving12 filling12).acceptBand { band12 3 1 with firstRow := 1, rows := 2 }).1.page 48).cause = some .rowExcess
    ∧ (let t := ((page12 { receiving12 with check := 0xFFFFFFFF#32 } filling12).acceptBand
        { band12 3 1 with firstRow := 1, payload := [0x31, 0x32, 0x33, 0x34, 0x35, 0x36, 0x37, 0x38, 0x39] }).1
      (t.page 48).nextBand = 2 ∧ checkValue (t.page 48).check = 0xCBF43926#32) := by decide +kernel

theorem witness_VersionsNeverDecrease :
    Instr.bandWriteCompletion ≠ .discardPage ∧ Instr.bandWriteCompletion ≠ .powerOn
    ∧ Instr.bandWriteCompletion ≠ .engineReset ∧ ∃ t, exec .linkDown bench = .next t :=
  ⟨nofun, nofun, nofun, _, rfl⟩

/-- Spec 04, section 4.4, the replacement sharing one page: page 21 falls from 1 to 0 and is released, page 22 stays
at 1, page 23 rises by 2. -/
theorem test_net_demand :
    let s := withPage (withPage (withPage bench 84 { state := .complete, version := 1, demand := 1 }) 88
      { state := .receiving, version := 2, demand := 1 }) 92 { state := .complete, version := 1 }
    let t := s.offerDemand [84, 88] [88, 92, 92]
    (t.page 84).state = .released ∧ (t.page 84).demand = 0 ∧ (t.page 88).demand = 1 ∧ (t.page 92).demand = 2
    ∧ (t.page 92).state = .complete ∧ reported t = [.pageReleased] := by decide +kernel

/-! ### Plate records (spec 04) -/

/-- The arguments of LOAD_PLATE of slot 40 with one tile of page 12 in black, no clip: origin (100, 200), scale +1200;
plate 38400 × 27000, size class 1, profile 3, bin 2, line 1, NORMAL, remake MANUAL. -/
def load40 : List Byte :=
  [40, 0, 1, 0, 1, 0x00, 0x96, 0x78, 0x69, 3, 2, 2, 0, 0, 0, 1, 1,
    12, 100, 0, 200, 0, 0, 0xB0, 0x04, 0, 0, 0, 0, 0, 0, 0, 0, 0]

/-- Page 12 complete, profile 3 present, slot 40 with a record. -/
def plan (r : PlateRecord) (e : PageEntry := complete12) : State :=
  { withPlate (page12 e) 40 r with profiles := bench.profiles.set 3 { present := true } }

theorem witness_PlatesAreLoaded :
    ((asked bench 0x20 load40).Offers { tag := 7, body := 0x20 :: load40 } 0x20 load40
      ∧ loadPlateLength load40 = some load40.length)
    ∧ (firstBad (plateFields (load40.set 1 2)) = some 1 ∧ loadPlateLength (load40.set 1 2) = some (load40.set 1 2).length)
    ∧ firstBad (plateFields load40) = none
    ∧ slotOperand load40 = 40 ∧ ((plan (record12 .exposed)).plate 40).state = .exposed
    ∧ ((bench.plate 40).state = .free ∧ (bench.profile (plateOperand load40).profile).present = false)
    ∧ ((plan {}).profile (plateOperand load40).profile).present = true
    ∧ ((plan (record12 .delivered)).plate 40).state ≠ .free
    ∧ (((plan {}).plate 40).state = .free ∧ 40 ∉ (plan {}).ready) :=
  ⟨⟨asked_offers _ _ _, by decide +kernel⟩, by decide +kernel, by decide +kernel, by decide +kernel, by decide +kernel,
    by decide +kernel, by decide +kernel, by decide +kernel, by decide +kernel⟩

theorem test_loadPlate :
    let t := after (exec .loadPlate (asked (plan {}) 0x20 load40))
    (t.plate 40).state = .ready ∧ t.ready = [40] ∧ (t.page 48).demand = 1
    ∧ (t.plate 40).load.tiles = [tile12] ∧ (t.plate 40).load.width = 38400 ∧ (t.plate 40).load.height = 27000 := by
  decide +kernel

theorem test_loadPlate_refuses :
    answered (exec .loadPlate (asked (plan (record12 .queued)) 0x20 load40)) = some (.isProtected, 0, [])
    ∧ answered (exec .loadPlate (asked bench 0x20 load40)) = some (.profileAbsent, 0, [])
    ∧ answered (exec .loadPlate (asked (plan {}) 0x20 (load40.set 24 0x0C))) = some (.badField, 19, []) := by decide +kernel

theorem witness_LoadedPlatesReadBack :
    loadPlateLength load40 = some load40.length ∧ firstBad (plateFields load40) = none
    ∧ (∀ t < byteAt load40 16, byteAt (tilePart load40 t) 8 = 0 → (tilePart load40 t).drop 9 = List.replicate 8 0)
    ∧ (record12 .planned |>.loaded (plateOperand load40)).load = plateOperand load40 := by
  decide +kernel

theorem witness_PlatesAreDroppedAndRemade :
    ((asked bench 0x21 [0, 2]).Offers { tag := 7, body := [0x21, 0, 2] } 0x21 [0, 2] ∧ 511 < (0 : Byte).toNat + 256 * (2 : Byte).toNat)
    ∧ (asked bench 0x21 [0xFF, 1]).Offers { tag := 7, body := [0x21, 0xFF, 1] } 0x21 (u16 (511 : Slot).val)
    ∧ (bench.plate 511).state = .free
    ∧ ((withPlate bench 511 (record12 .exposing)).plate 511).state = .exposing
    ∧ ((withPlate bench 511 (record12 .ready)).plate 511).state = .ready
    ∧ (((withPlate bench 511 { record12 .queued with line := some 1 }).plate 511).state = .queued
      ∧ ((withPlate bench 511 { record12 .queued with line := some 1 }).plate 511).line = some 1)
    ∧ (asked bench 0x22 [0, 2]).Offers { tag := 7, body := [0x22, 0, 2] } 0x22 [0, 2]
    ∧ (asked bench 0x22 [0xFF, 1]).Offers { tag := 7, body := [0x22, 0xFF, 1] } 0x22 (u16 (511 : Slot).val)
    ∧ ((withPlate bench 511 (record12 .delivered)).plate 511).state = .delivered
    ∧ ((withPlate bench 511 (record12 .spoiled)).plate 511).state = .spoiled
    ∧ (plate12.remake = .auto ∧ ({ plate12 with remake := .manual } : PlateLoad).remake = .manual) :=
  ⟨⟨asked_offers _ _ _, by decide⟩, asked_offers _ _ _, by decide +kernel, by decide +kernel, by decide +kernel,
    by decide +kernel, asked_offers _ _ _, asked_offers _ _ _, by decide +kernel, by decide +kernel, by decide +kernel⟩

theorem test_dropPlate :
    let t := after (exec .dropPlate (asked { plan { record12 .ready with pass := 4 } { complete12 with demand := 1 } with
      ready := [40] } 0x21 [40, 0]))
    (t.plate 40) = { pass := 4 } ∧ t.ready = [] ∧ (t.page 48).state = .released
    ∧ answered (exec .dropPlate (asked bench 0x21 [40, 0])) = some (.notLoaded, 0, []) := by decide +kernel

theorem test_remakePlate :
    let t := after (exec .remakePlate (asked (plan { record12 .delivered with pass := 1, place := some (1, 2) }) 0x22 [40, 0]))
    (t.plate 40).state = .ready ∧ (t.plate 40).place = none ∧ (t.plate 40).pass = 1 ∧ (t.page 48).demand = 1 ∧ t.ready = [40]
    ∧ answered (exec .remakePlate (asked bench 0x22 [40, 0])) = some (.wrongState, 0, []) := by decide +kernel

theorem witness_QueriesShowTheState :
    (asked bench 0x02 []).Offers { tag := 7, body := [0x02] } 0x02 []
    ∧ (asked bench 0x12 [12, 0]).Offers { tag := 7, body := [0x12, 12, 0] } 0x12 [(keyBytes 48).1, (keyBytes 48).2]
    ∧ (asked bench 0x23 [0xFF, 1]).Offers { tag := 7, body := [0x23, 0xFF, 1] } 0x23 (u16 (511 : Slot).val)
    ∧ (asked bench 0x36 [3]).Offers { tag := 7, body := [0x36, 3] } 0x36 (u8 (3 : LineId).val)
    ∧ ((asked bench 0x12 [12, 4]).Offers { tag := 7, body := [0x12, 12, 4] } 0x12 [12, 4] ∧ 3 < (4 : Byte).toNat)
    ∧ ((asked bench 0x23 [0, 2]).Offers { tag := 7, body := [0x23, 0, 2] } 0x23 [0, 2]
      ∧ 511 < (0 : Byte).toNat + 256 * (2 : Byte).toNat)
    ∧ ((asked bench 0x36 [4]).Offers { tag := 7, body := [0x36, 4] } 0x36 [4] ∧ 3 < (4 : Byte).toNat)
    ∧ (withLine { transit := [{ slot := 9, mark := 0, route := .deliver, profile := 0 }] }).lines[1].transit[0]? =
        some { slot := 9, mark := 0, route := .deliver, profile := 0 } :=
  ⟨asked_offers _ _ _, asked_offers _ _ _, asked_offers _ _ _, asked_offers _ _ _, ⟨asked_offers _ _ _, by decide⟩,
    ⟨asked_offers _ _ _, by decide⟩, ⟨asked_offers _ _ _, by decide⟩, by decide +kernel⟩

/-- R15 after reset: four lines, 16384 strips, 1536 descriptors. -/
theorem test_engineInfo :
    answered (exec .engineInfo (asked bench 0x02 [])) = some (.ok, 0, [4, 0x00, 0x40, 0x00, 0x06, 0, 0, 0, 0]) := by
  decide +kernel

/-- R41: COMPLETE is 2; version 3, descriptor 5, next band 1, rows 2, width 8, height 2, the check value of no bytes. -/
theorem test_queryPage :
    answered (exec .queryPage (asked (page12 complete12) 0x12 [12, 0])) =
      some (.ok, 0, [2, 3, 0, 1, 5, 0, 1, 0, 2, 0, 8, 0, 2, 0, 0, 0, 0, 0, 0, 0, 0]) := by decide +kernel

/-- R78: the record loaded by `load40` is shown with the command's own bytes. -/
theorem test_queryPlate :
    (answered (exec .queryPlate (asked (after (exec .loadPlate (asked (plan {}) 0x20 load40))) 0x23 [40, 0]))).map
      (fun q => (q.2.2.take 17, q.2.2.drop 34)) = some ((2 :: (load40.drop 2).take 15) ++ [0], load40.drop 17) := by
  decide +kernel

/-- R114 after reset: STOPPED, fitted, stock unknown (0xFF), ANY, the reset deadlines and capacities. -/
theorem test_queryLine :
    answered (exec .queryLine (asked bench 0x36 [2])) =
      some (.ok, 0, [0x20, 0, 1, 0, 0xFF, 0, 8, 40, 60, 30] ++ List.replicate 54 0 ++ [0, 60, 0]
        ++ (List.replicate 9 [0, 40, 0]).flatten) := by decide +kernel

/-! ### Supersession (spec 05) -/

/-- Slot 40 superseded by version 4 of page 12. -/
def superseded (s : State) : State := State.supersedeOne 48 4 s 40

theorem witness_IdleRecordsAreSuperseded :
    ((plan (record12 .spoiled)).plate 40).state = .spoiled ∧ ((plan (record12 .ready)).plate 40).state = .ready
    ∧ (((plan { record12 .queued with line := some 1 }).plate 40).state = .queued
      ∧ ((plan { record12 .queued with line := some 1 }).plate 40).line = some 1)
    ∧ (((plan (record12 .delivered)).plate 40).state = .delivered ∧ plate12.remake = .auto) := by decide +kernel

theorem test_queued_superseded :
    let t := superseded { plan { record12 .queued with line := some 1 } with
      lines := bench.lines.set 1 { mode := .draining, queue := [40] } }
    (t.plate 40).state = .planned ∧ (t.plate 40).line = none ∧ (t.line 1).mode = .stopped
    ∧ reported t = [.plateUnqueued, .lineState] := by decide +kernel

theorem test_delivered_superseded :
    let t := superseded (plan { record12 .delivered with place := some (1, 2), load := { plate12 with remake := .manual } })
    (t.plate 40).state = .obsolete ∧ (t.plate 40).place = some (1, 2) ∧ (t.page 48).demand = 1
    ∧ reported t = [.plateObsolete] := by decide +kernel

/-- Slot 40 being imaged on line 1. -/
def imaging (c : Exposure := { slot := 40, pass := 2, mark := 5122, answered := true, timer := false })
    (x : PlateLoad := plate12) (ln : Line := { mode := .running, stock := some 0, unitReady := true }) : State :=
  { plan { state := .exposing, load := x, line := some 1, bound := some [3] } with
    lines := bench.lines.set 1 { ln with exposure := some c } }

/-- Slot 40 in transit on line 1. -/
def transiting (e : TransitEntry) (ln : Line := { mode := .running }) : State :=
  { plan { record12 .exposed with line := some 1, bound := some [3], pass := 2 } with
    lines := bench.lines.set 1 { ln with transit := [e], stageClock := 9 } }

/-- The transit entry of slot 40. -/
def entry40 (g : Stage) (r : Route := .deliver) (deadline : Option Nat := some 40) : TransitEntry :=
  { slot := 40, mark := 5122, route := r, profile := 3, stage := g, deadline := deadline }

/-- The exposure of slot 40 with its begin unanswered. -/
def asking : Exposure := { slot := 40, pass := 2, mark := 5122 }

theorem witness_WorkingRecordsAreSuperseded :
    (((imaging asking).plate 40).state = .exposing ∧ ((imaging asking).plate 40).line = some 1
      ∧ ((imaging asking).line 1).exposure = some asking ∧ asking.answered = false)
    ∧ (((imaging).plate 40).load.action = .finish ∧ ({ plate12 with action := .abort } : PlateLoad).action = .abort)
    ∧ (((transiting (entry40 .toPunch)).plate 40).state = .exposed ∧ ((transiting (entry40 .toPunch)).plate 40).line = some 1
      ∧ ((transiting (entry40 .toPunch)).line 1).entryOf 40 = some (entry40 .toPunch))
    ∧ ((transiting (entry40 (.atSorter 2))).line 1).entryOf 40 = some (entry40 (.atSorter 2))
    ∧ ((transiting (entry40 .toPunch (.reject .underrun))).line 1).entryOf 40 = some (entry40 .toPunch (.reject .underrun))
    ∧ ((transiting (entry40 .waitingBin)).line 1).entryOf 40 = some (entry40 .waitingBin) := by decide +kernel

theorem test_abort_on_supersession :
    let t := superseded (imaging (x := { plate12 with action := .abort }))
    (t.plate 40).doom = some .obsolete ∧ t.out = [.station 1 .exposeAbort]
    ∧ ((superseded (imaging asking)).plate 40).withdraw = true := by decide +kernel

/-- Slots 41 and then 40 wait for the full bin 1; of the reject bin, of capacity 60, one place is left. -/
def twoWaiting : State :=
  { withPlate (transiting (entry40 .waitingBin .deliver none)) 41 { record12 .exposed with line := some 1, bound := some [3] } with
    lines := bench.lines.set 1
      { mode := .running, bins := (resetBins.set 1 { count := 40 }).set 0 { count := 59, capacity := 60 }
        transit := [{ entry40 .waitingBin .deliver none with slot := 41 }, entry40 .waitingBin .deliver none] } }

theorem witness_WorkingRecordsAreSuperseded_turned :
    (twoWaiting.line 1).mode ≠ .faulted ∧ ((twoWaiting.line 1).transit.map TransitEntry.slot).Nodup
    ∧ ∃ e ∈ (twoWaiting.line 1).transit, e.stage = .waitingBin ∧ e.route = .deliver
      ∧ 48 ∈ (twoWaiting.plate e.slot).load.keys := by decide +kernel

/-- R77, R87, R163: both are turned in slot order, and the one place goes to slot 41, the older of the two. -/
theorem test_turned_oldest_first :
    let s := ([40, 41] : List Slot).foldl (State.supersedeOne 48 4) twoWaiting
    let t := s.routeTurned fun l => (twoWaiting.line l).turnsWaiting [40, 41]
    (t.line 1).transit.map (fun e => (e.slot, e.stage)) = [(41, .atSorter 0), (40, .waitingBin)]
    ∧ t.out = [.station 1 (.soRoute 0)] := by decide +kernel

/-! ### The Dispatcher and the lines (spec 06) -/

/-- Slots 1 to 4 loaded for sizes class 0; slots 1 and 2 URGENT; mask as given. -/
def waiting (mask : Nat) (urgent : Bool) : PlateRecord :=
  { state := .ready, load := { mask := mask, priority := if urgent then .urgent else .normal, height := 2 } }

/-- Line 0 of R101's example. -/
def exposing101 : Line :=
  { mode := .running, stock := some 0, queue := [11, 12]
    exposure := some { slot := 10, pass := 1, mark := 1281, answered := true, abortSent := true } }

/-- R101's example: line 0 exposing with 2 queued, line 2 with 3 queued, both of load 3; in the ready list slot 1,
URGENT with mask lines 0 and 2, and behind it slot 2, NORMAL with mask line 0 only. -/
def example101 : State :=
  { withPlate (withPlate bench 1 (waiting 5 true)) 2 (waiting 1 false) with
    ready := [1, 2]
    lines := (bench.lines.set 0 exposing101).set 2 { mode := .running, stock := some 0, queue := [21, 22, 23] } }

/-- R101's example: slot 1 goes to line 0 by its lower number, and slot 2 to line 0 at load 4. -/
theorem test_walk :
    (example101.walk.line 0).queue = [1, 11, 12, 2] ∧ (example101.walk.line 2).queue = [21, 22, 23]
    ∧ example101.walk.ready = [] := by decide +kernel

theorem witness_WalkPlacesEveryRecord :
    (example101.eligible 1 0 = true ∧ ∀ l', example101.eligible 1 l' = true →
      (example101.line 0).load < (example101.line l').load
        ∨ (example101.line 0).load = (example101.line l').load ∧ 0 ≤ l')
    ∧ (example101.urgent 2 = false ∧ example101.urgent 1 = true ∧ (example101.line 0).queue = [] ++ [11, 12]
      ∧ (∀ q ∈ ([] : List Slot), example101.urgent q = true) ∧ ∀ q ∈ ([11, 12] : List Slot), example101.urgent q = false)
    ∧ ∀ l : LineId, bench.eligible 1 l = false := by decide +kernel

theorem witness_ReturnsKeepTheirOrder :
    ([11, 12] : List Slot) ≠ [] ∧ example101.ready = [1] ++ [2] ∧ (∀ q ∈ ([1] : List Slot), example101.urgent q = true)
    ∧ ∀ q ∈ ([2] : List Slot), example101.urgent q = false := by decide +kernel

theorem witness_FaultsStopTheLine :
    ((withLine { mode := .faulted }).line 1).mode = .faulted ∧ (example101.line 0).mode ≠ .faulted := by decide +kernel

/-- R110 and R98: the queue is returned, URGENT and NORMAL each at the front of its class. -/
theorem test_fault_returns_the_queue :
    let s : State := { example101 with ready := [2], lines := bench.lines.set 0 { exposing101 with queue := [1, 11, 12] } }
    let t := s.faultLine 0 .phantom none
    (t.line 0).queue = [] ∧ (t.line 0).faultCause = some .phantom ∧ t.ready = [1, 11, 12, 2] ∧ t.told = true
    ∧ reported t = [.lineFault, .lineState, .plateUnqueued, .plateUnqueued, .plateUnqueued] := by decide +kernel

/-- The arguments of LINE_CONFIG of line 1: size class 2, deadlines 5, 250 and 120, capacity 60 of each bin but bin 0. -/
def config1 : List Byte := [1, 2, 5, 250, 120, 1, 60, 60, 60, 60, 60, 60, 60, 60, 60]

theorem witness_LineConfigAnswers :
    ((asked bench 0x30 config1).Offers { tag := 7, body := 0x30 :: config1 } 0x30 config1 ∧ config1.length = 15
      ∧ byteAt config1 0 = (1 : LineId).val)
    ∧ (example101.line 0).mode ≠ .stopped
    ∧ ((bench.line 1).mode = .stopped ∧ firstBad (configFields (config1.set 1 9)) = some 2)
    ∧ firstBad (configFields config1) = none :=
  ⟨⟨asked_offers _ _ _, by decide +kernel⟩, by decide +kernel, by decide +kernel, by decide +kernel⟩

theorem test_lineConfig :
    let s := withLine { bins := resetBins.set 0 { count := 1, capacity := 60 } }
    let t := after (exec .lineConfig (asked s 0x30 config1))
    (t.line 1).config = { expected := some 2, tPb := 5, tSo := 250, tSetup := 120 }
    ∧ ((t.line 1).bin 0).capacity = 1 ∧ reported t = [.binFull] := by decide +kernel

theorem test_lineConfig_refuses :
    answered (exec .lineConfig (asked bench 0x30 (config1.set 14 61))) = some (.badField, 15, [])
    ∧ answered (exec .lineConfig (asked (withLine { mode := .held }) 0x30 config1)) = some (.wrongState, 0, [])
    ∧ answered (exec .lineConfig (asked bench 0x30 (config1.set 0 4))) = some (.badField, 1, []) := by decide +kernel

theorem witness_LinesStartPauseAndDrain :
    (asked bench 0x31 [1]).Offers { tag := 7, body := [0x31, 1] } 0x31 (u8 (1 : LineId).val)
    ∧ (asked bench 0x32 [1]).Offers { tag := 7, body := [0x32, 1] } 0x32 (u8 (1 : LineId).val)
    ∧ (asked bench 0x33 [1]).Offers { tag := 7, body := [0x33, 1] } 0x33 (u8 (1 : LineId).val)
    ∧ (∀ m : LineMode, ((withLine { mode := m }).line 1).mode = m ∧ ((withLine { mode := m }).line 1).fitted = true
      ∧ ((withLine { mode := m }).line 1).queue = [] ∧ ((withLine { mode := m }).line 1).exposure = none)
    ∧ ((withLine { fitted := false }).line 1).fitted = false
    ∧ (example101.line 0).exposure ≠ none ∧ (example101.line 0).queue ≠ []
    ∧ (3 < byteAt [4] 0 ∧ ([4] : List Byte).length = 1 ∧ (asked bench 0x31 [4]).Offers { tag := 7, body := [0x31, 4] } 0x31 [4]
      ∧ (asked bench 0x32 [4]).Offers { tag := 7, body := [0x32, 4] } 0x32 [4]
      ∧ (asked bench 0x33 [4]).Offers { tag := 7, body := [0x33, 4] } 0x33 [4]
      ∧ (asked bench 0x34 [4]).Offers { tag := 7, body := [0x34, 4] } 0x34 [4]
      ∧ (asked bench 0x35 [4]).Offers { tag := 7, body := [0x35, 4] } 0x35 [4])
    ∧ (3 < byteAt (config1.set 0 4) 0 ∧ (config1.set 0 4).length = 15
      ∧ (asked bench 0x30 (config1.set 0 4)).Offers { tag := 7, body := 0x30 :: config1.set 0 4 } 0x30 (config1.set 0 4)) :=
  ⟨asked_offers _ _ _, asked_offers _ _ _, asked_offers _ _ _, fun _ => ⟨rfl, rfl, rfl, rfl⟩, by decide +kernel,
    by decide +kernel, by decide +kernel,
    ⟨by decide, rfl, asked_offers _ _ _, asked_offers _ _ _, asked_offers _ _ _, asked_offers _ _ _, asked_offers _ _ _⟩,
    by decide, by decide, asked_offers _ _ _⟩

/-- A ready unit starts the head of its queue at once: EXPOSE_BEGIN carries the plate and the mark 40 × 128 + 2 (R123). -/
def ready40 : State :=
  { plan { state := .queued, line := some 1, pass := 1, load := { plate12 with height := 2 } } with
    lines := bench.lines.set 1 { mode := .paused, stock := some 0, unitReady := true, queue := [40] } }

theorem test_lineStart :
    let t := after (exec .lineStart (asked { bench with lines := bench.lines.set 1 { mode := .held } } 0x31 [1]))
    (t.line 1).mode = .running ∧ reported t = [.lineState]
    ∧ answered (exec .lineStart (asked (withLine { mode := .faulted }) 0x31 [1])) = some (.wrongState, 0, []) := by
  decide +kernel

theorem test_linePause :
    ((after (exec .linePause (asked example101 0x32 [0]))).line 0).mode = .pausing
    ∧ ((after (exec .linePause (asked (withLine { mode := .running }) 0x32 [1]))).line 1).mode = .paused
    ∧ answered (exec .linePause (asked bench 0x32 [1])) = some (.wrongState, 0, []) := by decide +kernel

theorem test_lineDrain :
    let t := after (exec .lineDrain (asked (withLine { mode := .running }) 0x33 [1]))
    (t.line 1).mode = .stopped ∧ reported t = [.lineState, .lineState]
    ∧ ((after (exec .lineDrain (asked example101 0x33 [0]))).line 0).mode = .draining := by decide +kernel

/-- Slot 40 being imaged on line 1, of remake AUTO with its page complete, and slot 41 in the line's queue. -/
def queueing : State :=
  withPlate (imaging (ln := { mode := .running, queue := [41] })) 41 { record12 .queued with line := some 1 }

theorem witness_LinesAreResetAndCleared :
    (asked bench 0x34 [1]).Offers { tag := 7, body := [0x34, 1] } 0x34 (u8 (1 : LineId).val)
    ∧ ((transiting (entry40 .toPunch)).line 1).transit = [entry40 .toPunch]
    ∧ ((imaging).line 1).exposure = some { slot := 40, pass := 2, mark := 5122, answered := true, timer := false }
    ∧ (asked bench 0x35 [1]).Offers { tag := 7, body := [0x35, 1] } 0x35 (u8 (1 : LineId).val)
    ∧ (bench.line 1).mode ≠ .faulted
    ∧ ((imaging (ln := { mode := .faulted })).line 1).mode = .faulted ∧ ((imaging (ln := { mode := .faulted })).line 1).exposure ≠ none
    ∧ ((transiting (entry40 .toPunch) { mode := .faulted }).line 1).exposure = none
    ∧ (((imaging).plate 40).load.remake = .auto ∧ ({ plate12 with remake := .manual } : PlateLoad).remake = .manual
      ∧ 40 ∉ ((imaging).line 1).queue)
    ∧ (41 ∈ (queueing.line 1).queue ∧ (queueing.line 1).exposure.map Exposure.slot = some 40 ∧ (queueing.line 1).transit = []) :=
  ⟨asked_offers _ _ _, by decide +kernel, by decide +kernel, asked_offers _ _ _, by decide +kernel, by decide +kernel,
    by decide +kernel, by decide +kernel, by decide +kernel, by decide +kernel⟩

/-- R112 and R98: the queue returns ahead of the remade record, with a PLATE_UNQUEUED before the LINE_STATE. -/
theorem test_lineReset_returns_the_queue :
    let t := queueing.resetLine 1
    t.ready = [41, 40] ∧ (t.plate 41).state = .ready ∧ (t.plate 41).line = none ∧ (t.plate 40).state = .ready
    ∧ reported t = [.plateUnqueued, .lineState] := by decide +kernel

theorem test_lineReset :
    let t := after (exec .lineReset (asked (imaging (x := { plate12 with remake := .manual })) 0x34 [1]))
    (t.line 1).mode = .stopped ∧ (t.line 1).resetAbort = true ∧ (t.line 1).exposure = none
    ∧ (t.plate 40).state = .spoiled ∧ (t.plate 40).lastCause = some .lineReset ∧ t.out = [.station 1 .exposeAbort]
    ∧ reported t = [.lineState] := by decide +kernel

theorem test_lineClearFault :
    let t := after (exec .lineClearFault (asked (transiting (entry40 .toPunch) { mode := .faulted }) 0x35 [1]))
    (t.line 1).mode = .stopped ∧ (t.line 1).transit = [] ∧ (t.plate 40).lastCause = some .lineFault
    ∧ (t.plate 40).state = .ready
    ∧ answered (exec .lineClearFault (asked (imaging (ln := { mode := .faulted })) 0x35 [1])) = some (.busy, 0, []) := by
  decide +kernel

/-! ### Exposures (specs 07, 08) -/

theorem witness_ExposuresBegin :
    ((after (.next (ready40.setLine 1 { ready40.line 1 with mode := .running }))).line 1).startReady = true
    ∧ (ready40.line 1).queue = 40 :: [] ∧ (ready40.line 1).startReady = false := by decide +kernel

/-- Rows with no tile on them need no read: both rows of the plate are formed within the start (R127). -/
theorem test_start :
    let t := after (exec .lineStart (asked ready40 0x31 [1]))
    t.out = [.station 1 (.exposeBegin 40 288 2 0 5122)] ∧ (t.plate 40).state = .exposing ∧ (t.plate 40).bound = some [3]
    ∧ (t.plate 40).pass = 1 ∧ (t.line 1).feed.length = 2 ∧ (t.store.desc 5).expHolds = 1 := by decide +kernel

/-- A tile of page 12 at the first pixel of the plate, unscaled. -/
def near : Tile := { page := 12, originX := 0, originY := 0, turn := .upright, scale := 0, clip := none }

/-- Page 12 complete in a raster of 8 × 2 pixels in strip 7. -/
def small12 : State :=
  page12 complete12 { state := .filled, key := some 48, width := 8, height := 2, perStrip := 262144, strips := [7], dirHold := true }

theorem witness_ExposuresBegin_setup :
    (bench.page (plate12.keyOf tile12)).raster = none ∧ (small12.page (plate12.keyOf near)).raster = some 5
    ∧ ({ near with clip := some { cx := 8, cy := 0, cw := 1, ch := 1 } } : Tile).setupOn 288 64 8 2 0 0 = none
    ∧ near.setupOn 288 64 8 2 0 0 = some (near.geometryOn 288 64 8 2 0 0) := by
  refine ⟨?_, by decide +kernel, by decide +kernel, by decide +kernel⟩
  rw [bench_page]

/-- R122: a reduced window, a tile over the right edge, a window off the raster, and a mark one row too low. -/
theorem test_setup_reports :
    (small12.setupReports 1 40
      { tiles := [{ near with clip := some { cx := 4, cy := 0, cw := 8, ch := 2 } }, { near with originX := 285 },
          { near with clip := some { cx := 8, cy := 0, cw := 8, ch := 2 } }] } { my := 1 }).map (fun r => (r.kind, r.cause)) =
      [(.tileClamped, some .clipReduced), (.tileClamped, some .offPlate), (.tileClamped, some .clipEmpty),
        (.markOmitted, none)] := by decide +kernel

theorem witness_ComposerGoesOn :
    ((imaging).line 1).exposure = some { slot := 40, pass := 2, mark := 5122, answered := true, timer := false }
    ∧ ((imaging).line 1).feed.length ≤ 16
    ∧ ((imaging (ln := { feed := List.replicate 16 [0] })).line 1).feed.length ≤ 16 := by decide +kernel

/-- A read of two bytes of line 1 in service; byte 4 holds 0x81 and byte 5 has not been written. -/
def reading (discard : Bool) (s : State) : State :=
  { s with store := { s.store with
      mem := [(4, 0x81)]
      inService := some (.read { line := 1, desc := 5, row := 0, first := 0, count := 2, addr := 4, discard := discard }) } }

/-- Slot 40 being imaged on line 1 with a tile of page 12 on its first two rows, behind one that is not there. -/
def composing (row : Nat) (gathered : List (List Byte)) : State :=
  { small12 with
    plates := bench.plates.set 40 { state := .exposing, load := plate12, line := some 1, bound := some [3] }
    lines := bench.lines.set 1
      { mode := .running, exposure := some asking
        composer := { tiles := [.empty none, .active 5 (near.geometryOn 288 64 8 2 0 0)], row := row, gathered := gathered } } }

theorem witness_ComposerGoesOn_reads :
    let g := near.geometryOn 288 64 8 2 0 0
    let covers := fun (y : Int) (t : TileSetup) => match t with
      | .empty _ => false
      | .active _ g => decide (g.u0 ≤ g.u1 ∧ g.v0 ≤ y - g.y ∧ y - g.y ≤ g.v1)
    g.turn = .upright
    ∧ (((composing 1 []).line 1).exposure = some asking ∧ asking.abortSent = false ∧ ((composing 1 []).line 1).feed.length < 16
      ∧ ((composing 1 []).line 1).composer.row < ((composing 1 []).plate asking.slot).load.height)
    ∧ ((composing 1 []).line 1).composer.tiles = [.empty none] ++ .active 5 g :: []
    ∧ (covers 1 (.active 5 g) = true ∧ ([.empty none] : List TileSetup).countP (covers 1) = ([] : List (List Byte)).length)
    ∧ ((composing 1 []).store.hasRead 1 = false ∧ (reading false bench).store.hasRead 1 = true)
    ∧ ((composing 1 [[0x80]]).line 1).composer.tiles.countP (covers 1) ≤ [[(0x80 : Byte)]].length
    ∧ ((composing 2 []).line 1).composer.tiles.countP (covers 2) = 0
    ∧ ¬ ((composing 64 []).line 1).composer.row < ((composing 64 []).plate asking.slot).load.height := by decide +kernel

/-- R126, R42: row 1 of the raster in strip 7, one byte to a row, is one byte at offset 1 of the strip. -/
theorem test_read : ((composing 1 []).feedLine 1).store.inService =
    some (.read { line := 1, desc := 5, row := 1, first := 0, count := 1, addr := 7 * 262144 + 1 }) := by decide +kernel

theorem witness_BeginsAreAccepted :
    (((imaging asking).line 1).fitted = true ∧ ((imaging asking).line 1).exposure = some asking ∧ asking.answered = false
      ∧ ((imaging asking).plate asking.slot).withdraw = false)
    ∧ ((withPlate (imaging asking) 40 { record12 .exposing with withdraw := true }).plate asking.slot).withdraw = true
    ∧ ((bench.line 1).fitted = true ∧ (bench.line 1).exposure = none)
    ∧ (∃ c, ((imaging).line 1).exposure = some c ∧ c.answered = true)
    ∧ (let s := imaging (ln := { feed := List.replicate 16 [0] })
      ∃ c, (s.line 1).exposure = some c ∧ c.answered = true ∧ c.goSent = false ∧ c.abortSent = false
        ∧ (s.line 1).feed.length = 16) :=
  ⟨by decide +kernel, by decide +kernel, by decide +kernel, ⟨_, rfl, rfl⟩, ⟨_, rfl, rfl, rfl, rfl, by decide +kernel⟩⟩

theorem test_beginAccept :
    let t := after (exec (.beginAccept 1) (imaging asking (ln := { mode := .running, feed := List.replicate 16 [0] })))
    (t.plate 40).pass = 2 ∧ t.out = [.station 1 .exposeGo] ∧ reported t = [.exposureStarted] := by decide +kernel

theorem witness_BeginsAreRefused :
    (((imaging asking).line 1).fitted = true ∧ ((imaging asking).line 1).exposure = some asking ∧ asking.answered = false)
    ∧ ((withPlate (imaging asking) 40 { record12 .exposing with withdraw := true }).plate asking.slot).withdraw = true
    ∧ (((imaging asking (ln := { mode := .faulted })).plate asking.slot).withdraw = false
      ∧ ((imaging asking (ln := { mode := .faulted })).line 1).mode = .faulted)
    ∧ (((imaging asking).line 1).mode ≠ .faulted
      ∧ ((imaging asking).line 1).stock = some ((imaging asking).plate asking.slot).load.sizeClass
      ∧ ((imaging asking).line 1).queue.length < 8)
    ∧ ((imaging asking (ln := { mode := .running })).line 1).stock ≠
        some ((imaging asking).plate asking.slot).load.sizeClass
    ∧ (let ln : Line := { mode := .running, stock := some 0, queue := [1, 2, 3, 4, 5, 6, 7, 8] }
      ((imaging asking (ln := ln)).line 1).queue.length = 8 ∧ ((imaging asking (ln := ln)).line 1).queue.getLast? = some 8
      ∧ (8 : Slot) ≠ asking.slot)
    ∧ (let ln : Line := { mode := .running, stock := some 7, queue := [1, 2, 3, 4, 5, 6, 7, 8] }
      ((imaging asking (ln := ln)).line 1).queue.length = 8 ∧ ((imaging asking (ln := ln)).line 1).stock ≠
        some ((imaging asking (ln := ln)).plate asking.slot).load.sizeClass)
    ∧ ((bench.line 1).exposure = none ∧ (bench.line 1).resetAbort = false)
    ∧ ((withLine { resetAbort := true }).line 1).resetAbort = true := by decide +kernel

/-- R103: the refused record re-enters at the head, and the entry at the back gives way. -/
theorem test_beginRefuse :
    let t := after (exec (.beginRefuse 1 .size) (imaging asking
      (ln := { mode := .running, stock := some 0, unitReady := true, queue := [1, 2, 3, 4, 5, 6, 7, 8] })))
    (t.line 1).queue = [40, 1, 2, 3, 4, 5, 6, 7] ∧ t.ready = [8] ∧ (t.line 1).unitReady = false ∧ (t.plate 40).bound = none := by
  decide +kernel

theorem test_beginRefuseLocal :
    let t := after (exec (.beginRefuseLocal 1) (imaging asking))
    (t.line 1).mode = .faulted ∧ (t.line 1).faultCause = some .unitLocal ∧ (t.line 1).unitLocal = true ∧ t.ready = [40]
    ∧ (t.plate 40).state = .ready := by decide +kernel

theorem witness_UnitFailuresSpoilThePlate :
    (((imaging asking).line 1).exposure = some asking ∧ asking.timer = true)
    ∧ (∃ c, ((imaging).line 1).exposure = some c ∧ c.timer = false) ∧ (bench.line 1).exposure = none
    ∧ ((imaging).line 1).fitted = true := ⟨by decide +kernel, ⟨_, rfl, rfl⟩, rfl, rfl⟩

theorem test_beginTimeout :
    let t := after (exec (.beginTimeout 1) (imaging asking (x := { plate12 with remake := .manual })))
    (t.plate 40).lastCause = some .unitSilent ∧ (t.line 1).mode = .faulted ∧ (t.line 1).resetAbort = true
    ∧ t.out = [.station 1 .exposeAbort] ∧ reported t = [.lineFault, .lineState] := by decide +kernel

theorem test_exposeEndFault :
    let t := after (exec (.exposeEndFault 1) (imaging (x := { plate12 with remake := .manual })))
    (t.plate 40).state = .spoiled ∧ (t.plate 40).lastCause = some .unitFault ∧ (t.line 1).transit = []
    ∧ (t.line 1).faultCause = some .unitFault := by decide +kernel

theorem witness_ExposuresAreClosed :
    ((bench.store.desc 5).expHolds ≤ 1 ∧ (bench.store.desc 5).dirHold = false)
    ∧ ((page12 complete12).store.desc 5).dirHold = true
    ∧ 1 < ((page12 complete12 { expHolds := 2 }).store.desc 5).expHolds := by decide +kernel

theorem witness_ScanReadsComplete :
    (reading true bench).store.inService =
        some (.read { line := 1, desc := 5, row := 0, first := 0, count := 2, addr := 4, discard := true })
    ∧ (∃ c, ((reading false imaging).line 1).exposure = some c ∧ c.abortSent = false)
    ∧ (∃ c, ((reading false (imaging { asking with answered := true, abortSent := true })).line 1).exposure = some c
      ∧ c.abortSent = true)
    ∧ ((reading false bench).line 1).exposure = none := ⟨rfl, ⟨_, rfl, rfl⟩, ⟨_, rfl, rfl⟩, rfl⟩

/-- A read of a line that waits for its grant. -/
def readOf (l : LineId) : ScanRead := { line := l, desc := 5, row := 0, first := 0, count := 2, addr := 4 }

/-- Reads of lines 1, 2 and 3 and a write wait. -/
def crowded : RasterStore :=
  { bench.store with
    waitingReads := ((bench.store.waitingReads.set 1 (some (readOf 1))).set 2 (some (readOf 2))).set 3 (some (readOf 3))
    waitingWrite := some { desc := 5, strip := 0, row := 1, addr := 1, bytes := [0x80] } }

theorem witness_ScanReadsComplete_grants :
    (bench.store.inService = none ∧ bench.store.handing = false) ∧ writing.store.inService ≠ none
    ∧ ({ bench with store := { bench.store with handing := true } } : State).store.handing = true
    ∧ (crowded.waitingReads[(2 : LineId).val] = some (readOf 2)
      ∧ ∀ l' : LineId, crowded.waitingReads[l'.val] ≠ none → (fun l : LineId => if l = 1 then 9 else 4) 2 <
          (fun l : LineId => if l = 1 then 9 else 4) l'
        ∨ (fun l : LineId => if l = 1 then 9 else 4) 2 = (fun l : LineId => if l = 1 then 9 else 4) l' ∧ 2 ≤ l')
    ∧ ∀ l : LineId, bench.store.waitingReads[l.val] = none := by decide +kernel

/-- R53: of lines 1, 2 and 3 with 9, 4 and 4 buffered scan lines line 2 is granted, before the write. -/
theorem test_grant :
    let st := crowded.grant fun l => if l = 1 then 9 else 4
    st.inService = some (.read (readOf 2)) ∧ st.waitingReads[2] = none ∧ st.waitingReads[3] = some (readOf 3)
    ∧ st.waitingWrite = crowded.waitingWrite := by decide +kernel

/-- R54: the bytes of a read marked for discard reach no Composer. -/
theorem test_scanReadCompletion :
    (after (exec .scanReadCompletion (reading true bench))).store.inService = none
    ∧ ((after (exec .scanReadCompletion (reading true (imaging { asking with abortSent := true })))).line 1).composer.gathered = []
    ∧ ((reading false imaging).readBytes 4 1) = [0x81] := by decide +kernel

/-- The exposure of slot 40 with go sent. -/
def going : Exposure := { slot := 40, pass := 2, mark := 5122, answered := true, timer := false, goSent := true }

theorem witness_LineRequestsAreServed :
    (((imaging going).line 1).fitted = true ∧ ((imaging going).line 1).exposure = some going
      ∧ going.goSent = true ∧ going.abortSent = false ∧ going.linesSent < ((imaging going).plate going.slot).load.height)
    ∧ ((imaging going (ln := { feed := [[1], [2]] })).line 1).feed = [1] :: [[2]] ∧ ((imaging going).line 1).feed = []
    ∧ ¬ ({ going with linesSent := 64 } : Exposure).linesSent < plate12.height ∧ (bench.line 1).exposure = none := by
  decide +kernel

/-- R137 and R138: the oldest scan line goes to the unit; on an empty buffer the exposure is aborted for an underrun. -/
theorem test_lineRequest :
    let t := after (exec (.lineRequest 1) (imaging { going with linesSent := 62 } (x := { plate12 with height := 64 })
      (ln := { mode := .running, feed := [[1], [2]], composer := { row := 64 } })))
    t.out = [.station 1 (.scanLine [1])] ∧ (t.line 1).feed = [[2]] := by decide +kernel

theorem test_underrun :
    let t := after (exec (.lineRequest 1) (imaging going))
    (t.plate 40).doom = some .underrun ∧ t.out = [.station 1 .exposeAbort] ∧ reported t = [] := by decide +kernel

theorem witness_ExposuresEndWithAPlate :
    ((imaging going).line 1).fitted = true ∧ ((imaging going).line 1).exposure = some going ∧ going.answered = true
    ∧ (bench.line 1).mode = .stopped ∧ ((imaging going).line 1).mode = .running
    ∧ ((withLine { mode := .pausing }).line 1).mode = .pausing
    ∧ (let s := withLine { mode := .draining }
      (s.line 1).mode = .draining ∧ (s.line 1).queue = [] ∧ (s.line 1).exposure = none)
    ∧ ((withLine { mode := .draining, queue := [8] }).line 1).queue ≠ [] := by
  decide +kernel

/-- R140: all 64 scan lines sent and the end NORMAL, the plate is delivered; one missing, it is rejected as ABORTED. -/
theorem test_exposeEnd :
    let t := after (exec (.exposeEnd 1 .normal) (imaging { going with linesSent := 64 }))
    (t.line 1).transit = [{ slot := 40, mark := 5122, route := .deliver, profile := 0, stage := .toPunch, deadline := some 40 }]
    ∧ (t.plate 40).state = .exposed ∧ (t.plate 40).doom = none ∧ (t.line 1).exposure = none
    ∧ ((after (exec (.exposeEnd 1 .normal) (imaging { going with linesSent := 63 }))).plate 40).doom = some .aborted := by
  decide +kernel

theorem test_hold_after :
    let t := after (exec (.exposeEnd 1 .normal) (imaging { going with linesSent := 64 } (x := { plate12 with holdAfter := true })
      (ln := { mode := .pausing })))
    (t.line 1).mode = .held ∧ reported t = [.exposureEnded, .lineState, .lineState] := by decide +kernel

theorem witness_StrayEndsAreIgnored :
    (((imaging asking).line 1).fitted = true ∧ ((imaging asking).line 1).exposure = some asking ∧ asking.answered = false)
    ∧ ((bench.line 1).exposure = none ∧ (bench.line 1).resetAbort = false)
    ∧ (((withLine { resetAbort := true }).line 1).exposure = none
      ∧ ((withLine { resetAbort := true }).line 1).resetAbort = true) := by decide +kernel

theorem witness_UnitStatusIsTaken :
    ((imaging going).line 1).fitted = true ∧ ((imaging going).line 1).stock = some 0
    ∧ ((imaging going).line 1).stock ≠ some 7 ∧ ((imaging going).line 1).stock ≠ none := by decide +kernel

/-- R143: with local the ready flag is cleared; a plate of another class than the new stock goes back. -/
theorem test_unitStatusReport :
    let t := after (exec (.unitStatusReport 1 true (some 7) true) ready40)
    (t.line 1).unitReady = false ∧ (t.line 1).unitLocal = true ∧ (t.line 1).queue = [] ∧ t.ready = [40]
    ∧ (t.line 1).stock = some 7 := by decide +kernel

/-! ### Placement arithmetic (spec 07) -/

theorem witness_ColumnsAreScaledAndSampled :
    (1 ≤ 24576 ∧ (-3000 : Int) ≤ 3000)
    ∧ (tile12.geometryOn 38400 27000 19000 26500 16 (-8)).ws =
        scaledWidth (tile12.geometryOn 38400 27000 19000 26500 16 (-8)).cw 1200
    ∧ 0 < fanOut 19000 1200 ∧ fanOut 19000 (-800) < 0 ∧ fanOut 166 3000 = 0 := by decide +kernel

/-- R118: width 2400 at −1000 ppm gives D = −2; spec 07, section 7.5: tiles A and B are widened by 23 and narrowed
by 15. -/
theorem test_fanOut :
    fanOut 2400 (-1000) = -2 ∧ fanOut 19000 1200 = 23 ∧ fanOut 19000 (-800) = -15 ∧ scaledWidth 19000 1200 = 19023
    ∧ scaledWidth 19000 (-800) = 18985 := by decide +kernel

theorem witness_TilesAreClipped :
    (1 ≤ 19000 ∧ 1 ≤ 26500) ∧ tile12.clip = none
    ∧ (∀ c, ({ tile12 with clip := some { cx := 18000, cy := 0, cw := 2000, ch := 26500 } } : Tile).clip = some c →
      1 ≤ c.cw ∧ 1 ≤ c.ch)
    ∧ (∃ g, tile12.setupOn 38400 27000 19000 26500 16 (-8) = some g)
    ∧ (let g := tile12.geometryOn 38400 27000 19000 26500 16 (-8)
      (0 : Int) ≤ 19022 ∧ (19022 : Int) < g.ws ∧ (19022 : Int) = g.tileColumn 19138 ∧ (26499 : Int) = g.tileRow 26691) :=
  ⟨by decide, rfl, fun _ h => by cases h; decide, ⟨_, rfl⟩, by decide +kernel⟩

/-- R116's example: window (18000, 0, 2000, 26500) on a raster of 19000 × 26500 is reduced to width 1000, and window
(19000, 0, 100, 100) is off it. -/
theorem test_clip :
    ({ cx := 18000, cy := 0, cw := 2000, ch := 26500 } : Clip).width 19000 = 1000
    ∧ ({ cx := 18000, cy := 0, cw := 2000, ch := 26500 } : Clip).reduced 19000 26500 = true
    ∧ ({ cx := 19000, cy := 0, cw := 100, ch := 100 } : Clip).off 19000 26500 = true := by decide +kernel

/-- Spec 07, section 7.5, tile A: origin (116, 192), visible columns 0..19022 and rows 0..26499, not off the plate. -/
theorem test_setup :
    let g := tile12.geometryOn 38400 27000 19000 26500 16 (-8)
    g.x = 116 ∧ g.y = 192 ∧ g.u0 = 0 ∧ g.u1 = 19022 ∧ g.v0 = 0 ∧ g.v1 = 26499 ∧ g.offPlate 38400 27000 = false := by
  decide +kernel

/-- A Composer with the mark of slot 40 at (0, 0). -/
def marked : Composer := { mark := some { present := true, value := 5122, mx := 0, my := 0 } }

theorem witness_MarksAndScanLinesAreComposed :
    (marked.mark = some { present := true, value := 5122, mx := 0, my := 0 } ∧ 0 ≤ 0 ∧ 0 < 0 + 288 ∧ 0 < 0 + 64)
    ∧ (0 < 0 + 16 ∧ (1 ≤ 16 ∧ 0 + 16 * 16 ≤ 271 ∧ 271 < 0 + 16 * 16 + 16) ∧ 0 + 272 ≤ 287)
    ∧ (288 ≤ 300 ∧ ∀ k, marked.mark = some k → k.present = true → k.mx + 288 ≤ 288)
    ∧ ∀ k, ({} : Composer).mark = some k → k.covers 5 0 = false :=
  ⟨by decide +kernel, by decide, ⟨by decide, fun _ h _ => by cases h; decide⟩, nofun⟩

/-- R124's example: of mark value 5122 cells 0, 4, 6 and 15 are ink and the others blank. -/
theorem test_mark :
    markValue 40 2 = 5122
    ∧ (List.range 18).filter (markCell 5122) = [0, 4, 6, 15]
    ∧ (marked.scanLine 292).length = 37 := by decide +kernel

/-! ### Finishing and transit (spec 09) -/

/-- The arguments of LOAD_PROFILE of index 3: offsets +16 and −8, mark (36000, 26900), mark check on, two tools 1 and 15,
angles 135. -/
def profile3 : List Byte :=
  [3, 16, 0, 0xF8, 0xFF, 0xA0, 0x8C, 0x14, 0x69, 1, 2, 1, 15, 99, 99, 99, 99, 99, 99, 135, 135]

theorem witness_LoadProfileAnswers :
    ((asked bench 0x40 profile3).Offers { tag := 7, body := 0x40 :: profile3 } 0x40 profile3 ∧ profile3.length = 21)
    ∧ (firstBad (profileFields (profile3.set 12 16)) = some 9 ∧ (profile3.set 12 16).length = 21)
    ∧ (firstBad (profileFields profile3) = none ∧ byteAt profile3 0 = (3 : ProfileId).val)
    ∧ (∃ p : Slot, (((withPlate bench 40 (record12 .exposed)).plate p).state = .queued
        ∨ ((withPlate bench 40 (record12 .exposed)).plate p).state = .exposing
        ∨ ((withPlate bench 40 (record12 .exposed)).plate p).state = .exposed)
      ∧ ((withPlate bench 40 (record12 .exposed)).plate p).load.profile = 0)
    ∧ ¬ ∃ p : Slot, ((bench.plate p).state = .queued ∨ (bench.plate p).state = .exposing ∨ (bench.plate p).state = .exposed)
      ∧ (bench.plate p).load.profile = 3 :=
  ⟨⟨asked_offers _ _ _, by decide⟩, by decide +kernel, by decide +kernel, ⟨40, by decide +kernel⟩,
    fun ⟨p, h, _⟩ => by simp [State.plate, bench] at h⟩

theorem test_loadProfile :
    profileOperand profile3 =
      { present := true, dx := 16, dy := -8, mx := 36000, my := 26900, markCheck := true, tools := [1, 15], lead := 135,
        trail := 135 }
    ∧ answered (exec .loadProfile (asked bench 0x40 (profile3.set 19 136))) = some (.badField, 16, []) := by decide +kernel

/-- The transit of slot 40 whose profile 3 checks marks. -/
def checking (e : TransitEntry) (ln : Line := { mode := .running }) : State :=
  { transiting e ln with profiles := bench.profiles.set 3 { present := true, markCheck := true, tools := [1], lead := 9, trail := 8 } }

theorem witness_ArrivalsAreMatched :
    ((transiting (entry40 .toPunch) { mode := .faulted }).line 1).mode = .faulted
    ∧ (∀ e ∈ (bench.line 1).transit, e.stage ≠ .toPunch)
    ∧ (((checking (entry40 .toPunch)).line 1).fitted = true ∧ ((checking (entry40 .toPunch)).line 1).mode ≠ .faulted
      ∧ ((checking (entry40 .toPunch)).line 1).transit = [] ++ entry40 .toPunch :: []
      ∧ (entry40 .toPunch).stage = .toPunch)
    ∧ (((checking (entry40 .toPunch)).profile (entry40 .toPunch).profile).markCheck = true ∧ (5121 : Nat) ≠ (entry40 .toPunch).mark)
    ∧ ((transiting (entry40 .toPunch)).profile (entry40 .toPunch).profile).markCheck = false
    ∧ ((entry40 .toPunch (.reject .obsolete)).route ≠ .deliver ∧ (entry40 .toPunch).route = .deliver)
    ∧ ((checking (entry40 .toPunch) { mode := .running, stationProfile := some 3 }).line 1).stationProfile = some 3
    ∧ (∃ x ∈ [entry40 (.atPunch (.setup true)), entry40 .waitingBin], x.stage = .atPunch (.setup true))
    ∧ (∃ x ∈ [entry40 .waitingBin], x.stage = .waitingBin) := by decide +kernel

/-- R150 and R151: the mark is checked; a new profile is set up. -/
theorem test_pbArrival :
    let t := after (exec (.pbArrival 1 (some 5122)) (checking (entry40 .toPunch)))
    t.out = [.station 1 (.pbSetup [1] 9 8)]
    ∧ (t.line 1).transit = [{ entry40 (.atPunch (.setup true)) with deadline := some 30, since := 9 }]
    ∧ ((after (exec (.pbArrival 1 (some 5121)) (checking (entry40 .toPunch)))).line 1).faultCause = some .mismatch := by
  decide +kernel

theorem test_pbArrival_reject :
    let t := after (exec (.pbArrival 1 none) (checking (entry40 .toPunch (.reject .aborted))))
    t.out = [.station 1 .pbPass] ∧ reported t = [.markUnread]
    ∧ (t.line 1).transit = [{ entry40 .toSorter (.reject .aborted) with deadline := some 60, since := 9 }] := by
  decide +kernel

theorem witness_SetupsAreDone :
    ((transiting (entry40 .toPunch)).line 1).fitted = true
    ∧ (∀ x ∈ ((transiting (entry40 .toPunch)).line 1).transit, x.stage ≠ .atPunch (.setup true))
    ∧ (((transiting (entry40 (.atPunch (.setup true)))).line 1).transit = [] ++ entry40 (.atPunch (.setup true)) :: []
      ∧ ((transiting (entry40 (.atPunch (.setup true)))).line 1).mode ≠ .faulted)
    ∧ (((transiting (entry40 .toPunch)).line 1).transit.length ≤ 6
      ∧ (((transiting (entry40 .toPunch)).line 1).transit.map TransitEntry.slot).Nodup)
    ∧ (let s := transiting (entry40 (.atPunch (.setup false)) .deliver none)
      (¬ ∃ x ∈ (s.line 1).transit, x.stage = .atPunch (.setup true))
      ∧ (s.line 1).transit = [] ++ entry40 (.atPunch (.setup false)) .deliver none :: []
      ∧ (s.line 1).stationProfile ≠ some 3)
    ∧ ((transiting (entry40 (.atPunch (.setup false)) .deliver none) { mode := .running, stationProfile := some 3 }).line
        1).stationProfile = some 3 := by decide +kernel

theorem test_pbSetupDone :
    let t := after (exec (.pbSetupDone 1) (transiting (entry40 (.atPunch (.setup true)))))
    (t.line 1).stationProfile = some 3 ∧ t.out = [.station 1 .pbGo]
    ∧ (t.line 1).transit = [{ entry40 (.atPunch .work) with since := 9 }] := by decide +kernel

theorem witness_PunchReportsAreTaken :
    ((transiting (entry40 .toPunch)).line 1).fitted = true
    ∧ (∀ x ∈ ((transiting (entry40 .toPunch)).line 1).transit, x.stage ≠ .atPunch .work)
    ∧ (((transiting (entry40 (.atPunch .work))).line 1).transit = [] ++ entry40 (.atPunch .work) :: []
      ∧ ((transiting (entry40 (.atPunch .work))).line 1).mode ≠ .faulted ∧ (entry40 (.atPunch .work)).deadline.isSome = true)
    ∧ ((transiting (entry40 (.atPunch .work)) { mode := .faulted }).line 1).mode = .faulted := by decide +kernel

theorem test_pbDone :
    let t := after (exec (.pbDone 1) (transiting (entry40 (.atPunch .work))))
    (t.line 1).transit = [{ entry40 .toSorter with deadline := some 60, since := 9 }] ∧ reported t = [] := by decide +kernel

theorem test_pbFault :
    let t := after (exec (.pbFault 1) (transiting (entry40 (.atPunch .work)) { mode := .running, stationProfile := some 3 }))
    (t.line 1).stationProfile = none ∧ (t.line 1).faultCause = some .punchFault
    ∧ (t.reports.records.map Report.slot) = [some 40, none] := by decide +kernel

theorem witness_DeadlinesExpire :
    ((transiting (entry40 (.atPunch (.setup true)))).line 1).transit.find? (fun x => decide (x.slot = 40)) =
        some (entry40 (.atPunch (.setup true)))
    ∧ (entry40 (.atPunch (.setup true))).deadline = some 40
    ∧ ((transiting (entry40 .waitingBin .deliver none)).line 1).transit.find? (fun x => decide (x.slot = 40)) =
        some (entry40 .waitingBin .deliver none)
    ∧ (entry40 .waitingBin .deliver none).deadline = none
    ∧ ∀ e ∈ (bench.line 1).transit, e.slot ≠ 40 := by decide +kernel

theorem test_deadlineExpiry :
    ((after (exec (.deadlineExpiry 1 40) (transiting (entry40 (.atPunch (.setup true)))))).line 1).faultCause = some .setupTimeout
    ∧ ((after (exec (.deadlineExpiry 1 40) (transiting (entry40 .toSorter)))).line 1).faultCause = some .missing
    ∧ ((after (exec (.deadlineExpiry 1 40) (transiting (entry40 .toSorter)))).line 1).transit =
        [{ entry40 .toSorter with deadline := none }] := by decide +kernel

/-! ### Sorting (spec 10) -/

/-- Bins of which bin 1, the destination of slot 40, holds as many as it may. -/
def fullBins : Vector Bin 10 := resetBins.set 1 { count := 40 }

theorem witness_PlatesAreRouted :
    ((transiting (entry40 .toSorter)).line 1).fitted = true
    ∧ (∀ e ∈ ((transiting (entry40 .toPunch)).line 1).transit, e.stage ≠ .toSorter)
    ∧ (((transiting (entry40 .toSorter)).line 1).mode ≠ .faulted
      ∧ entry40 .toSorter ∈ ((transiting (entry40 .toSorter)).line 1).transit
      ∧ ∀ x ∈ ((transiting (entry40 .toSorter)).line 1).transit, x.stage = .toSorter → x = entry40 .toSorter
        ∨ (entry40 .toSorter).since < x.since)
    ∧ ((transiting (entry40 .toSorter)).line 1).hasRoom 1 = true
    ∧ ((transiting (entry40 .toSorter) { mode := .running, bins := fullBins }).line 1).hasRoom 1 = false
    ∧ ((transiting (entry40 .toSorter) { mode := .faulted }).line 1).mode = .faulted
    ∧ (((transiting (entry40 .waitingBin)).line 1).transit.map TransitEntry.slot).Nodup
    ∧ (let s := twoWaiting.routeWaiting 1
      (twoWaiting.line 1).transit[0]? = some { entry40 .waitingBin .deliver none with slot := 41 }
      ∧ (s.line 1).transit[0]? = some { entry40 .waitingBin .deliver none with slot := 41 })
    ∧ (let s := { transiting (entry40 .waitingBin .deliver none) with
        lines := bench.lines.set 1 { mode := .running, transit := [entry40 .waitingBin .deliver none,
          { entry40 .toSorter .deliver none with slot := 41 }] } }
      ∃ e ∈ (s.line 1).transit, e.stage = .waitingBin ∧ ((s.routeWaiting 1).line 1).transit =
        [{ entry40 (.atSorter 1) with deadline := some 60 }, { entry40 .toSorter with slot := 41, deadline := some 60 }])
    ∧ ((bench.line 1).bin 1).count + (bench.line 1).routedTo 1 ≤ ((bench.line 1).bin 1).capacity := by decide +kernel

theorem test_soArrival :
    let t := after (exec (.soArrival 1) (transiting (entry40 .toSorter)))
    t.out = [.station 1 (.soRoute 1)] ∧ (t.line 1).transit = [{ entry40 (.atSorter 1) with deadline := some 60, since := 9 }]
    ∧ (after (exec (.soArrival 1) (transiting (entry40 .toSorter) { mode := .running, bins := fullBins }))).out =
        [.station 1 .soWait]
    ∧ ((after (exec (.soArrival 1) (transiting (entry40 .toPunch)))).line 1).faultCause = some .phantom := by decide +kernel

theorem witness_PlatesAreStacked :
    ((transiting (entry40 (.atSorter 1)) { mode := .faulted }).line 1).mode = .faulted
    ∧ (∀ e ∈ ((transiting (entry40 .toSorter)).line 1).transit, ∀ b, e.stage ≠ .atSorter b)
    ∧ (((transiting (entry40 (.atSorter 1))).line 1).fitted = true ∧ ((transiting (entry40 (.atSorter 1))).line 1).mode ≠ .faulted
      ∧ entry40 (.atSorter 1) ∈ ((transiting (entry40 (.atSorter 1))).line 1).transit
      ∧ ∀ x ∈ ((transiting (entry40 (.atSorter 1))).line 1).transit, (∃ b', x.stage = .atSorter b') → x = entry40 (.atSorter 1)
        ∨ (entry40 (.atSorter 1)).since < x.since)
    ∧ (let ln : Line := { mode := .running, bins := resetBins.set 1 { count := 39 } }
      (((transiting (entry40 (.atSorter 1)) ln).line 1).bin 1).capacity ≤
        (((transiting (entry40 (.atSorter 1)) ln).line 1).bin 1).count + 1)
    ∧ (((bench.line 1).bin 1).count + 1 < ((bench.line 1).bin 1).capacity)
    ∧ 2 ≠ (1 : BinId).val := by decide +kernel

/-- R164: stacked in its bin as the fortieth plate, slot 40 is delivered and the bin is full. -/
theorem test_soStacked :
    let t := after (exec (.soStacked 1 1) (transiting (entry40 (.atSorter 1)) { mode := .running, bins := resetBins.set 1 { count := 39 } }))
    (t.plate 40).state = .delivered ∧ (t.plate 40).place = some (1, 1) ∧ ((t.line 1).bin 1).count = 40 ∧ (t.line 1).transit = []
    ∧ reported t = [.plateDelivered, .binFull] := by decide +kernel

/-- R165: a plate stacked in another bin is spoiled and the line is faulted; its record, of remake AUTO, is READY again. -/
theorem test_misroute :
    let t := after (exec (.soStacked 1 2) (transiting (entry40 (.atSorter 1))))
    (t.plate 40).lastCause = some .misroute ∧ (t.plate 40).state = .ready ∧ ((t.line 1).bin 1).count = 0
    ∧ (t.line 1).faultCause = some .misroute := by decide +kernel

theorem witness_StackingDecidesTheFate :
    ((entry40 (.atSorter 1)).route = .deliver ∧ ((transiting (entry40 (.atSorter 1))).plate (entry40 (.atSorter 1)).slot).doom = none)
    ∧ (let s := withPlate (page12 { complete12 with version := 4 }) 40
        { record12 .exposed with doom := some .obsolete, bound := some [3], load := { plate12 with remake := .manual } }
      (s.plate 40).doom = some .obsolete ∧ (s.plate 40).load.remake = .manual
      ∧ (s.plate 40).load.keys.zip ((s.plate 40).bound.getD []) = [] ++ (48, 3) :: [] ∧ 3 < (s.page 48).version)
    ∧ ((entry40 (.atSorter 0) (.reject .underrun)).route = .reject .underrun
      ∧ (entry40 (.atSorter 0) (.reject .underrun)).route ≠ .deliver)
    ∧ (plate12.remake = .auto
      ∧ (let s := withPlate (page12 { complete12 with version := 4 }) 40 { record12 .exposed with doom := some .obsolete, bound := some [3] }
        (s.plate 40).doom = some .obsolete ∧ (s.plate 40).load.remake = .auto)) := by decide +kernel

/-- R90 and R70: a record of remake AUTO makes its PLATE_OBSOLETE, keeps the last cause and is READY again. -/
theorem test_fate_remakes :
    let s := withPlate (page12 { complete12 with version := 4 }) 40
      { record12 .exposed with line := some 1, doom := some .obsolete, bound := some [3] }
    let t := s.fate 1 1 (entry40 (.atSorter 1))
    (t.plate 40).state = .ready ∧ (t.plate 40).lastCause = some .obsolete ∧ (t.plate 40).bound = none ∧ t.ready = [40]
    ∧ reported t = [.plateObsolete] := by decide +kernel

theorem witness_BinsAreEmptiedOpenedAndClosed :
    ((bench.line 1).fitted = true ∧ ((withLine { mode := .faulted }).line 1).mode = .faulted ∧ 10 ≤ 10)
    ∧ (asked bench 0x50 [1, 9]).Offers { tag := 7, body := [0x50, 1, 9] } 0x50 (u8 (1 : LineId).val ++ u8 (9 : BinId).val)
    ∧ (asked bench 0x51 [1, 9]).Offers { tag := 7, body := [0x51, 1, 9] } 0x51 (u8 (1 : LineId).val ++ u8 (9 : BinId).val)
    ∧ (asked bench 0x51 [1, 0]).Offers { tag := 7, body := [0x51, 1, 0] } 0x51 (u8 (1 : LineId).val ++ u8 (0 : BinId).val)
    ∧ (3 < (4 : Byte).toNat ∧ (asked bench 0x50 [4, 1]).Offers { tag := 7, body := [0x50, 4, 1] } 0x50 [4, 1]
      ∧ (asked bench 0x51 [4, 1]).Offers { tag := 7, body := [0x51, 4, 1] } 0x51 [4, 1])
    ∧ ((3 : Byte).toNat ≤ 3 ∧ 9 < (10 : Byte).toNat ∧ (asked bench 0x50 [3, 10]).Offers { tag := 7, body := [0x50, 3, 10] } 0x50 [3, 10]
      ∧ (asked bench 0x51 [3, 10]).Offers { tag := 7, body := [0x51, 3, 10] } 0x51 [3, 10])
    ∧ (∀ e ∈ (bench.line 1).transit, ∀ b, e.stage ≠ .atSorter b)
    ∧ (entry40 (.atSorter 1) ∈ ((transiting (entry40 (.atSorter 1))).line 1).transit
      ∧ ∀ x ∈ ((transiting (entry40 (.atSorter 1))).line 1).transit, (∃ b', x.stage = .atSorter b') → x = entry40 (.atSorter 1)
        ∨ (entry40 (.atSorter 1)).since < x.since) :=
  ⟨by decide +kernel, asked_offers _ _ _, asked_offers _ _ _, asked_offers _ _ _, ⟨by decide, asked_offers _ _ _, asked_offers _ _ _⟩,
    ⟨by decide, by decide, asked_offers _ _ _, asked_offers _ _ _⟩, by decide +kernel, by decide +kernel⟩

theorem test_soBinEmptied :
    let t := after (exec (.soBinEmptied 1 1) (transiting (entry40 .waitingBin .deliver none) { mode := .running, bins := fullBins }))
    ((t.line 1).bin 1).count = 0 ∧ t.out = [.station 1 (.soRoute 1)] ∧ reported t = [.binEmptied]
    ∧ reported (after (exec (.soBinEmptied 1 10) bench)) = [] := by decide +kernel

theorem test_binClose_binOpen :
    let s := transiting (entry40 .waitingBin .deliver none) { mode := .running, bins := resetBins.set 1 { closed := true } }
    (((after (exec .binClose (asked bench 0x51 [1, 9]))).line 1).bin 9).closed = true
    ∧ answered (exec .binClose (asked bench 0x51 [1, 0])) = some (.badField, 2, [])
    ∧ (after (exec .binOpen (asked s 0x50 [1, 1]))).out = [.station 1 (.soRoute 1)]
    ∧ answered (exec .binOpen (asked bench 0x50 [1, 10])) = some (.badField, 2, []) := by decide +kernel

theorem test_soFault :
    let t := after (exec (.soFault 1) (transiting (entry40 (.atSorter 1))))
    (t.line 1).faultCause = some .sorterFault ∧ (t.reports.records.map Report.slot) = [some 40, none] := by decide +kernel

/-! ### What every command keeps -/

/-- The bench with the transit of slot 40 held on the FAULTED line 1. -/
def held40 : State := withLine { mode := .faulted, faultCause := some .phantom, transit := [entry40 .toPunch .deliver none] }

theorem witness_CapacitiesAreKept :
    held40.LinkBounded ∧ held40.LinesBounded ∧ held40.RejectBinsOpen ∧ held40.store.mem.wf ∧ held40.Quiet
    ∧ ∃ t, step held40 = .next t := by
  refine ⟨?_, ?_, ?_, by decide, ⟨rfl, rfl⟩, _, rfl⟩
  · unfold State.LinkBounded
    decide +kernel
  · unfold State.LinesBounded Line.Bounded
    decide +kernel
  · unfold State.RejectBinsOpen
    decide +kernel

theorem witness_LinesStayConsistent :
    held40.LinesConsistent ∧ ∃ t, step { held40 with pending := [.linkDown] } = .next t := by
  refine ⟨?_, _, rfl⟩
  unfold State.LinesConsistent Line.Consistent
  decide +kernel

theorem bench_coherent : bench.Coherent := by
  refine {
    placed := bench_placed, demand := ?_, head := nofun, writing := nofun, versions := ?_, complete := ?_,
    unanswered := ?_, answered := ?_, exposing := ?_, exposed := ?_, delivered := fun p h => by simp [bench_plate] at h }
  case refine_1 =>
    intro k
    have h : ((List.finRange 512).map fun p => (bench.plate p).demandKeys.count k).sum = 0 := by
      rw [List.sum_eq_zero]
      intro x hx
      obtain ⟨p, -, rfl⟩ := List.mem_map.mp hx
      rw [bench_plate]
      rfl
    rw [State.references, h, bench_page]
  all_goals simp [bench_plate, bench_page, bench_line]

theorem witness_CoherenceIsKept : bench.Coherent ∧ ∃ t, step { bench with pending := [.linkDown] } = .next t :=
  ⟨bench_coherent, _, rfl⟩

theorem bench_storeSound : bench.StoreSound := by
  refine ⟨?_, ?_, ?_⟩
  · have h : (Vector.replicate 1536 ({} : Descriptor)).toList.flatMap Descriptor.strips = [] := by
      simp only [List.flatMap_eq_nil_iff, Vector.mem_toList_iff, Vector.mem_replicate]
      rintro _ ⟨-, rfl⟩
      rfl
    show (List.range' 0 Config.strips ++ _).Perm (List.range 16384)
    rw [show bench.store.table = Vector.replicate 1536 {} from rfl, h, List.append_nil, List.range_eq_range']
  · intro d _
    simp [RasterStore.desc, bench]
  · intro k d h
    simp [State.page, bench] at h

theorem bench_holdsSound : bench.HoldsSound := by
  have hd : ∀ d : DescId, bench.store.desc d = {} := fun d => by simp [RasterStore.desc, bench]
  constructor <;> simp [hd, bench_page, bench_line, Descriptor.HoldsFit]

theorem witness_StripsAreConserved :
    bench.StoreSound ∧ bench.Coherent ∧ bench.HoldsSound ∧ ∃ t, step { bench with pending := [.linkDown] } = .next t :=
  ⟨bench_storeSound, bench_coherent, bench_holdsSound, _, rfl⟩

theorem witness_SafeRuns :
    ([{ State.reset with pending := [.linkDown] }] : List State).head? = some { State.reset with pending := [.linkDown] }
    ∧ List.IsChain (fun a b => step a = .next b) [{ State.reset with pending := [.linkDown] }] := ⟨rfl, .singleton _⟩

end Sys2Proof.Tests
end

section
/-! SUPPORT. What every operation inside the engine keeps: the Link Port, the capacities of the lists, the open reject
bins, the canonical form of plate memory, the waiting commands and what has been sent. Each operation that the rules
share carries the relation `Inside` one step further. -/

namespace Sys2Proof.Machine

-- One theorem at a time: elaborated side by side, with the large stacks of the check, they exceed its memory.
set_option Elab.async false

/-- From `s` to `t` no list has outgrown its capacity, no reject bin has been closed, plate memory has kept its canonical
form, the waiting commands are as they were, and nothing sent has been forgotten. -/
structure Keeps (s t : State) : Prop where
  control : s.link.controlQueue.length ≤ 16 → t.link.controlQueue.length ≤ 16
  records : s.reports.records.length ≤ 256 → t.reports.records.length ≤ 256
  seq : s.reports.seq < 65536 → t.reports.seq < 65536
  buffer : s.intake.buffer.length ≤ 4 → t.intake.buffer.length ≤ 4
  lines : s.LinesBounded → t.LinesBounded
  bins : s.RejectBinsOpen → t.RejectBinsOpen
  mem : s.store.mem.wf → t.store.mem.wf
  pending : t.pending = s.pending
  out : s.out <+: t.out

theorem Keeps.refl (s : State) : Keeps s s := ⟨id, id, id, id, id, id, id, rfl, List.prefix_rfl⟩

theorem Keeps.trans {s t u : State} (h : Keeps s t) (k : Keeps t u) : Keeps s u :=
  ⟨k.control ∘ h.control, k.records ∘ h.records, k.seq ∘ h.seq, k.buffer ∘ h.buffer, k.lines ∘ h.lines,
    k.bins ∘ h.bins, k.mem ∘ h.mem, k.pending.trans h.pending, h.out.trans k.out⟩

/-- Such a change inside the engine, which leaves the Link Port. -/
structure Inside (s t : State) : Prop extends Keeps s t where
  link : t.link = s.link

theorem Inside.refl (s : State) : Inside s s := ⟨Keeps.refl s, rfl⟩

theorem Inside.trans {s t u : State} (h : Inside s t) (k : Inside t u) : Inside s u :=
  ⟨h.toKeeps.trans k.toKeeps, k.link.trans h.link⟩

/-- Line `b` holds no more than line `a`, and its reject bin is open where that of `a` is. -/
structure Line.NoFuller (a b : Line) : Prop where
  queue : b.queue.length ≤ a.queue.length
  transit : b.transit.length + b.exposure.isSome.toNat ≤ a.transit.length + a.exposure.isSome.toNat
  feed : b.feed.length ≤ a.feed.length
  bin : (a.bin 0).closed = false → (b.bin 0).closed = false := by exact id

/-- A line changed in what has no capacity. -/
theorem Line.NoFuller.same {a b : Line} (queue : b.queue = a.queue := by rfl) (transit : b.transit = a.transit := by rfl)
    (exposure : b.exposure.isSome.toNat ≤ a.exposure.isSome.toNat := by rfl) (feed : b.feed = a.feed := by rfl)
    (bins : b.bins = a.bins := by rfl) : a.NoFuller b where
  queue := by rw [queue]
  transit := by rw [transit]; exact Nat.add_le_add_left exposure _
  feed := by rw [feed]
  bin := by rw [Line.bin, Line.bin, bins]; exact id

theorem Line.NoFuller.trans {a b c : Line} (h : a.NoFuller b) (k : b.NoFuller c) : a.NoFuller c :=
  ⟨k.queue.trans h.queue, k.transit.trans h.transit, k.feed.trans h.feed, k.bin ∘ h.bin⟩

theorem Line.NoFuller.bounded {a b : Line} (h : a.NoFuller b) (ha : a.Bounded) : b.Bounded :=
  ⟨h.queue.trans ha.1, h.transit.trans ha.2.1, h.feed.trans ha.2.2⟩

section
variable {s t : State}

/-- A fold of changes, each of which keeps what is to be kept. -/
theorem Inside.foldl {α : Type} {f : State → α → State} (hf : ∀ u a, Inside s u → Inside s (f u a)) (as : List α)
    (h : Inside s t) : Inside s (as.foldl f t) := by
  induction as generalizing t with
  | nil => exact h
  | cons a as ih => exact ih (hf t a h)

/-- A change of what `Keeps` does not speak of. -/
theorem Keeps.frame {u : State} (h : Keeps s t)
    (control : u.link.controlQueue = t.link.controlQueue := by rfl) (reports : u.reports = t.reports := by rfl)
    (buffer : u.intake.buffer = t.intake.buffer := by rfl) (lines : u.lines = t.lines := by rfl)
    (mem : u.store.mem = t.store.mem := by rfl) (pending : u.pending = t.pending := by rfl)
    (out : u.out = t.out := by rfl) : Keeps s u :=
  h.trans
    { control := control ▸ id
      records := reports ▸ id
      seq := reports ▸ id
      buffer := buffer ▸ id
      lines := fun hl l => by rw [State.line, lines]; exact hl l
      bins := fun hl l => by rw [State.line, lines]; exact hl l
      mem := mem ▸ id
      pending := pending
      out := out ▸ List.prefix_rfl }

/-- A change of what `Inside` does not speak of. -/
theorem Inside.frame {u : State} (h : Inside s t)
    (link : u.link = t.link := by rfl) (reports : u.reports = t.reports := by rfl)
    (buffer : u.intake.buffer = t.intake.buffer := by rfl) (lines : u.lines = t.lines := by rfl)
    (mem : u.store.mem = t.store.mem := by rfl) (pending : u.pending = t.pending := by rfl)
    (out : u.out = t.out := by rfl) : Inside s u :=
  ⟨h.toKeeps.frame (congrArg LinkPort.controlQueue link) reports buffer lines mem pending out, link.trans h.link⟩

/-! ### The updates of the state -/

theorem Inside.setPage (h : Inside s t) (k : PageIx) (e : PageEntry) : Inside s (t.setPage k e) := h.frame
theorem Inside.setPlate (h : Inside s t) (p : Slot) (r : PlateRecord) : Inside s (t.setPlate p r) := h.frame
theorem Inside.tell (h : Inside s t) : Inside s t.tell := h.frame
theorem Inside.leaveReady (h : Inside s t) (p : Slot) : Inside s (t.leaveReady p) := h.frame
theorem Inside.joinBetween (h : Inside s t) (p : Slot) : Inside s (t.joinBetween p) := h.frame
theorem Inside.endStall (h : Inside s t) : Inside s t.endStall := h.frame
theorem Inside.beginHanding (h : Inside s t) : Inside s t.beginHanding := h.frame

/-- An action on the Raster Store that leaves plate memory. -/
theorem Inside.onStore {g : RasterStore → RasterStore} (h : Inside s t) (hg : (g t.store).mem = t.store.mem := by rfl) :
    Inside s (t.onStore g) := h.frame (mem := hg)

theorem Inside.send (h : Inside s t) (l : LineId) (m : StationMessage) : Inside s (t.send l m) :=
  { h with out := h.out.trans (List.prefix_append _ _) }

theorem Inside.report (h : Inside s t) (r : Report) : Inside s (t.report r) :=
  { h with
    records := fun hs => ReportQueue.offer_length _ _ (h.records hs)
    seq := fun hs => (ReportQueue.offer_seq t.reports r).symm ▸ h.seq hs }

theorem Inside.reportAll (h : Inside s t) (rs : List Report) : Inside s (t.reportAll rs) :=
  h.foldl (fun _ r hu => hu.report r) rs

/-- A line within its capacities, with its reject bin open, takes the place of a line. -/
theorem Inside.setLine (h : Inside s t) (l : LineId) {ln : Line} (bounded : s.LinesBounded → ln.Bounded)
    (bin : s.RejectBinsOpen → (ln.bin 0).closed = false) : Inside s (t.setLine l ln) :=
  { h with
    lines := fun hs m => by
      rw [State.line_setLine]
      split
      · exact bounded hs
      · exact h.lines hs m
    bins := fun hs m => by
      rw [State.line_setLine]
      split
      · exact bin hs
      · exact h.bins hs m }

/-- A line is changed so that it holds no more than before. -/
theorem Inside.shrinkLine (h : Inside s t) (l : LineId) {ln : Line} (hl : (t.line l).NoFuller ln) :
    Inside s (t.setLine l ln) :=
  h.setLine l (fun hs => hl.bounded (h.lines hs l)) (fun hs => hl.bin (h.bins hs l))

/-! ### Lines -/

theorem Inside.setMode (h : Inside s t) (l : LineId) (m : LineMode) : Inside s (t.setMode l m) := by
  unfold State.setMode
  split
  · exact h
  · exact ((h.shrinkLine l .same).report _).tell

theorem Inside.drainTest (h : Inside s t) (l : LineId) : Inside s (t.drainTest l) := by
  unfold State.drainTest
  split
  · exact h.setMode l _
  · exact h

theorem Line.noFuller_mapEntry (ln : Line) (p : Slot) (f : TransitEntry → TransitEntry) :
    ln.NoFuller (ln.mapEntry p f) where
  queue := le_refl _
  transit := by simp [Line.mapEntry]
  feed := le_refl _

theorem Line.noFuller_dropEntry (ln : Line) (p : Slot) : ln.NoFuller (ln.dropEntry p) where
  queue := le_refl _
  transit := Nat.add_le_add_right (List.length_filter_le _ _) _
  feed := le_refl _

theorem Line.noFuller_enterStage (ln : Line) (p : Slot) (g : Stage) (deadline : Option Nat) :
    ln.NoFuller (ln.enterStage p g deadline) :=
  (ln.noFuller_mapEntry p _).trans .same

theorem Line.noFuller_stopDeadlines (ln : Line) : ln.NoFuller ln.stopDeadlines where
  queue := le_refl _
  transit := by simp [Line.stopDeadlines]
  feed := le_refl _

theorem Line.noFuller_resumeDeadlines (ln : Line) : ln.NoFuller ln.resumeDeadlines := by
  unfold Line.resumeDeadlines
  split
  · exact .same
  · exact ⟨le_refl _, by simp, le_refl _, id⟩

theorem Line.noFuller_holdDeadlines (ln : Line) : ln.NoFuller ln.holdDeadlines where
  queue := le_refl _
  transit := by simp [Line.holdDeadlines]
  feed := le_refl _

/-- A bin is written: the reject bin stays open when the new value of the bin is no more closed than the old. -/
theorem Line.noFuller_setBin (ln : Line) (b : BinId) (x : Bin)
    (hx : b = 0 → (ln.bin 0).closed = false → x.closed = false) : ln.NoFuller (ln.setBin b x) where
  queue := le_refl _
  transit := le_refl _
  feed := le_refl _
  bin := fun h => by
    rw [Line.bin_setBin]
    split
    · exact hx (Eq.symm ‹_›) h
    · exact h

theorem Line.noFuller_filterQueue (ln : Line) (keep : Slot → Bool) :
    ln.NoFuller { ln with queue := ln.queue.filter keep } where
  queue := List.length_filter_le _ _
  transit := le_refl _
  feed := le_refl _

/-! ### The Plate Plan's operations -/

theorem Inside.joinBack (h : Inside s t) (p : Slot) : Inside s (t.joinBack p) := by
  unfold State.joinBack
  split
  · exact h.joinBetween p
  · exact h.frame

theorem Inside.joinFront (h : Inside s t) (p : Slot) : Inside s (t.joinFront p) := by
  unfold State.joinFront
  split
  · exact h.frame
  · exact h.joinBetween p

theorem Inside.evaluate (h : Inside s t) (p : Slot) : Inside s (t.evaluate p) := by
  unfold State.evaluate
  split
  · exact ((h.setPlate p _).joinBack p).tell
  · exact h

theorem Inside.evaluateOn (h : Inside s t) (k : PageIx) : Inside s (t.evaluateOn k) :=
  h.foldl (fun _ p hu => hu.evaluate p) _

theorem RasterStore.dropDirHold_mem (st : RasterStore) (d : DescId) (superseded : Bool) :
    (st.dropDirHold d superseded).mem = st.mem := by
  unfold RasterStore.dropDirHold
  split <;> rfl

theorem RasterStore.dropHold_mem (st : RasterStore) (d : DescId) : (st.dropHold d).mem = st.mem := by
  unfold RasterStore.dropHold
  split <;> rfl

theorem RasterStore.dropHolds_mem (ds : List DescId) (st : RasterStore) :
    (ds.foldl RasterStore.dropHold st).mem = st.mem := by
  induction ds generalizing st with
  | nil => rfl
  | cons d ds ih => rw [List.foldl_cons, ih, RasterStore.dropHold_mem]

theorem Inside.releasePage (h : Inside s t) (k : PageIx) : Inside s (t.releasePage k) := by
  unfold State.releasePage
  dsimp only
  split
  · exact ((h.setPage k _).onStore (RasterStore.dropDirHold_mem _ _ _)).report _
  · exact (h.setPage k _).report _

theorem Inside.changeDemand (h : Inside s t) (k : PageIx) (removed added : Nat) :
    Inside s (t.changeDemand k removed added) := by
  unfold State.changeDemand
  dsimp only
  split
  · exact (h.setPage k _).releasePage k
  · exact h.setPage k _

theorem Inside.offerDemand (h : Inside s t) (removed added : List PageIx) : Inside s (t.offerDemand removed added) :=
  h.foldl (fun _ k hu => hu.changeDemand k _ _) _

theorem Inside.remake (h : Inside s t) (p : Slot) : Inside s (t.remake p) := (h.setPlate p _).evaluate p

theorem Inside.autoRemake (h : Inside s t) (p : Slot) : Inside s (t.autoRemake p) := by
  unfold State.autoRemake
  split
  · exact h.remake p
  · exact h

theorem Inside.spoil (h : Inside s t) (p : Slot) (c : Cause) : Inside s (t.spoil p c) := (h.setPlate p _).autoRemake p

theorem Inside.returnToReady (h : Inside s t) (p : Slot) : Inside s (t.returnToReady p) := (h.setPlate p _).joinFront p

theorem Inside.foldr_returnToReady (h : Inside s t) (ps : List Slot) :
    Inside s (ps.foldr (fun p u => u.returnToReady p) t) := by
  induction ps with
  | nil => exact h
  | cons p ps ih => exact ih.returnToReady p

/-- Entries leave a line's queue for the ready list: the line may have had more than its capacity of entries before, as
long as those left are within it. -/
theorem Inside.returnEntries_of (l : LineId) (ps : List Slot) (hps : ps ≠ [])
    (h : Inside s (t.setLine l { t.line l with queue := (t.line l).queue.filter fun q => decide (q ∉ ps) })) :
    Inside s (t.returnEntries l ps) := by
  unfold State.returnEntries
  rw [if_neg hps]
  exact ((h.foldr_returnToReady ps).reportAll _).tell

theorem Inside.returnEntries (h : Inside s t) (l : LineId) (ps : List Slot) : Inside s (t.returnEntries l ps) := by
  by_cases hps : ps = []
  · rw [State.returnEntries, if_pos hps]
    exact h
  · exact Inside.returnEntries_of l ps hps (h.shrinkLine l (Line.noFuller_filterQueue _ _))

theorem Inside.leaveQueue (h : Inside s t) (l : LineId) (p : Slot) : Inside s (t.leaveQueue l p) :=
  (h.shrinkLine l (Line.noFuller_filterQueue _ _)).tell

theorem Inside.faultLine (h : Inside s t) (l : LineId) (c : Cause) (p : Option Slot) : Inside s (t.faultLine l c p) := by
  unfold State.faultLine
  split
  · exact h.report _
  · refine ((((h.shrinkLine l ?_).report _).report _).returnEntries l _).tell
    exact (Line.noFuller_stopDeadlines _).trans .same

/-! ### Composing and exposing -/

/-- A scan line formed while the feed buffer has room stays within its 16 lines (R130). -/
theorem Line.formLine_bounded (ln : Line) (pw ph : Nat) (h : ln.mayCompose ph = true) (hb : ln.Bounded) :
    (ln.formLine pw).Bounded := by
  have room : ln.feed.length < 16 := by
    unfold Line.mayCompose at h
    split at h
    · cases h
    · simp only [Bool.and_eq_true, decide_eq_true_eq] at h
      exact h.1.2
  refine ⟨hb.1, hb.2.1, ?_⟩
  simp only [Line.formLine, List.length_append, List.length_singleton]
  omega

theorem Inside.compose (h : Inside s t) (n : Nat) (l : LineId) : Inside s (State.compose n l t) := by
  induction n generalizing t with
  | zero => exact h
  | succ n ih =>
    unfold State.compose
    dsimp only
    split
    · rename_i hmay
      split
      · split
        · exact h
        · exact h.onStore (RasterStore.request_mem _ _).1
      · exact ih (h.setLine l (fun hs => Line.formLine_bounded _ _ _ hmay (h.lines hs l)) fun hs => h.bins hs l)
    · exact h

theorem Inside.goTest (h : Inside s t) (l : LineId) : Inside s (t.goTest l) := by
  unfold State.goTest
  split
  · exact h
  · rename_i hc
    split
    · exact (h.shrinkLine l (.same (exposure := by simp [hc]))).send l _
    · exact h

theorem Inside.feedLine (h : Inside s t) (l : LineId) : Inside s (t.feedLine l) := (h.compose _ l).goTest l

theorem Inside.abortExposure (h : Inside s t) (l : LineId) : Inside s (t.abortExposure l) := by
  unfold State.abortExposure
  split
  · exact h
  · rename_i hc
    split
    · exact h
    · refine (h.shrinkLine l ?_).send l _
      exact { queue := le_refl _, transit := by simp [hc], feed := Nat.zero_le _ }

/-- A line that may start has room for the plate in transit (R108). -/
theorem Line.transit_of_startReady (ln : Line) (h : ln.startReady = true) :
    ln.exposure = none ∧ ln.transit.length < 6 := by
  simp only [Line.startReady, Bool.and_eq_true, decide_eq_true_eq] at h
  obtain ⟨⟨⟨⟨⟨_, hexp⟩, _⟩, _⟩, _⟩, htransit⟩ := h
  exact ⟨hexp, htransit⟩

theorem Inside.beginExposure (h : Inside s t) (l : LineId) (ready : (t.line l).startReady = true) :
    Inside s (t.beginExposure l) := by
  unfold State.beginExposure
  split
  · exact h
  · rename_i p rest hqueue
    refine ((((((h.setLine l ?_ ?_).setPlate p _).onStore ?_).reportAll _).send l _).tell).feedLine l
    · intro hs
      obtain ⟨hq, -, hf⟩ := h.lines hs l
      rw [hqueue, List.length_cons] at hq
      exact ⟨Nat.le_of_succ_le hq, (Line.transit_of_startReady _ ready).2, hf⟩
    · exact fun hs => h.bins hs l
    · exact (RasterStore.addHolds_mem _ _).1

theorem Inside.startTest (h : Inside s t) (l : LineId) : Inside s (t.startTest l) := by
  unfold State.startTest
  split
  · exact h.beginExposure l ‹_›
  · exact h

theorem RasterStore.closing_mem (st : RasterStore) (l : LineId) (ds : List DescId) :
    (ds.foldl RasterStore.dropHold (st.withdrawRead l)).mem = st.mem := by
  rw [RasterStore.dropHolds_mem]
  rfl

theorem Inside.closeExposure (h : Inside s t) (l : LineId) (c : Exposure) : Inside s (t.closeExposure l c) :=
  (h.onStore (RasterStore.closing_mem _ _ _)).shrinkLine l
    { queue := le_refl _, transit := Nat.add_le_add_left (Nat.zero_le _) _, feed := Nat.zero_le _ }

/-! ### The Dispatcher -/

theorem insertUrgent_length (urgent : Slot → Bool) (qs : List Slot) (p : Slot) :
    (insertUrgent urgent qs p).length = qs.length + 1 := by
  induction qs with
  | nil => rfl
  | cons q qs ih =>
    unfold insertUrgent
    split
    · rw [List.length_cons, ih, List.length_cons]
    · rfl

theorem State.enqueue_length (s : State) (l : LineId) (p : Slot) :
    (s.enqueue l p).length = (s.line l).queue.length + 1 := by
  unfold State.enqueue
  split
  · exact insertUrgent_length _ _ _
  · rw [List.length_append, List.length_singleton]

/-- A record is placed on a line whose queue has room (R99). -/
theorem Inside.place (h : Inside s t) (p : Slot) (l : LineId) (room : (t.line l).queue.length < 8) :
    Inside s (t.place p l) := by
  unfold State.place
  refine (((h.leaveReady p).setPlate p _).setLine l ?_ ?_).report _
  · exact fun hs => ⟨(State.enqueue_length _ l p).trans_le room, (h.lines hs l).2⟩
  · exact fun hs => h.bins hs l

theorem State.room_of_eligible (s : State) (p : Slot) (l : LineId) (h : s.eligible p l = true) :
    (s.line l).queue.length < 8 := by
  simp only [State.eligible, Bool.and_eq_true, decide_eq_true_eq] at h
  exact h.2

theorem Inside.walkOne (h : Inside s t) (p : Slot) : Inside s (t.walkOne p) := by
  unfold State.walkOne
  split
  · exact h
  · rename_i l hl
    exact h.place p l (State.room_of_eligible t p l (leastLine_some _ _ l hl).1)

theorem Inside.walk (h : Inside s t) : Inside s t.walk := h.foldl (fun _ p hu => hu.walkOne p) _

theorem Inside.startLines (h : Inside s t) : Inside s t.startLines := h.foldl (fun _ l hu => hu.startTest l) _

theorem Inside.walks (h : Inside s t) (n : Nat) : Inside s (State.walks n t) := by
  induction n generalizing t with
  | zero => exact h
  | succ n ih =>
    have untold : Inside s { t with told := false } := h.frame
    have walked : Inside s ({ t with told := false }.walk).startLines := untold.walk.startLines
    unfold State.walks
    dsimp only
    split
    · exact ih walked
    · exact walked

theorem Inside.settle (h : Inside s t) : Inside s t.settle := by
  unfold State.settle
  split
  · exact h.walks 5
  · exact h

theorem Inside.endHanding (h : Inside s t) : Inside s t.endHanding := by
  unfold State.endHanding
  split
  · exact h.frame (mem := (RasterStore.grant_mem _ _).1)
  · exact h

/-! ### Supersession -/

theorem Inside.routeEntry (h : Inside s t) (l : LineId) (p : Slot) (b : BinId) : Inside s (t.routeEntry l p b) :=
  (h.shrinkLine l (Line.noFuller_enterStage _ _ _ _)).send l _

theorem Inside.routeIfRoom (h : Inside s t) (l : LineId) (e : TransitEntry) : Inside s (t.routeIfRoom l e) := by
  unfold State.routeIfRoom
  split
  · exact h.routeEntry l _ _
  · exact h

theorem Inside.routeWaiting (h : Inside s t) (l : LineId) : Inside s (t.routeWaiting l) := by
  unfold State.routeWaiting
  split
  · exact h
  · exact (h.foldl (fun _ e hu => hu.routeIfRoom l e) _).shrinkLine l (Line.noFuller_resumeDeadlines _)

theorem Inside.applyAction (h : Inside s t) (p : Slot) (l : LineId) : Inside s (t.applyAction p l) := by
  unfold State.applyAction
  dsimp only
  split
  · exact (h.setPlate p _).abortExposure l
  · exact h.setPlate p _

theorem Inside.supersedeQueued (h : Inside s t) (p : Slot) (l : LineId) : Inside s (t.supersedeQueued p l) :=
  (((h.leaveQueue l p).setPlate p _).report _).drainTest l

theorem Inside.supersedeExposing (h : Inside s t) (p : Slot) (l : LineId) : Inside s (t.supersedeExposing p l) := by
  unfold State.supersedeExposing
  split
  · exact h
  · split
    · exact h.applyAction p l
    · exact h.setPlate p _

theorem Inside.supersedeExposed (h : Inside s t) (p : Slot) (l : LineId) : Inside s (t.supersedeExposed p l) := by
  unfold State.supersedeExposed
  split
  · exact h
  · dsimp only
    split
    · exact h.setPlate p _
    · exact (h.setPlate p _).shrinkLine l (Line.noFuller_mapEntry _ _ _)

theorem Inside.supersedeDelivered (h : Inside s t) (k : PageIx) (w : Nat) (p : Slot) :
    Inside s (t.supersedeDelivered k w p) :=
  (((h.setPlate p _).report _).offerDemand _ _).autoRemake p

theorem Inside.supersedeOne (h : Inside s t) (k : PageIx) (w : Nat) (p : Slot) : Inside s (State.supersedeOne k w t p) := by
  unfold State.supersedeOne
  split
  case h_1 => exact ((h.leaveReady p).setPlate p _).tell
  case h_2 =>
    split
    · exact h.supersedeQueued p _
    · exact h
  case h_3 =>
    split
    · exact h.supersedeExposing p _
    · exact h
  case h_4 =>
    split
    · exact h.supersedeExposed p _
    · exact h
  case h_5 => exact h.supersedeDelivered k w p
  all_goals exact h

theorem Inside.supersede (h : Inside s t) (k : PageIx) (w : Nat) : Inside s (t.supersede k w) :=
  (h.foldl (fun _ p hu => hu.supersedeOne k w p) _).foldl (fun _ l hu => hu.routeWaiting l) _

/-! ### Band Intake -/

theorem Inside.stallReport (h : Inside s t) (b : Band) : Inside s (t.stallReport b) := by
  unfold State.stallReport
  split
  · exact h
  · exact h.frame.report _

theorem Inside.breakPage (h : Inside s t) (k : PageIx) (c : Cause) : Inside s (t.breakPage k c) := by
  unfold State.breakPage
  dsimp only
  split
  · exact (h.setPage k _).onStore.report _
  · exact (h.setPage k _).report _

theorem Inside.completePage (h : Inside s t) (k : PageIx) : Inside s (t.completePage k) := by
  unfold State.completePage
  dsimp only
  split
  · exact ((h.setPage k _).onStore.report _).evaluateOn k
  · exact ((h.setPage k _).report _).evaluateOn k

theorem Inside.newReception (h : Inside s t) (b : Band) : Inside s (t.newReception b).1 := by
  unfold State.newReception
  split
  · exact h
  · dsimp only
    split <;> split
    · exact (h.onStore.onStore (RasterStore.dropDirHold_mem _ _ _)).setPage _ _
    · exact h.onStore.setPage _ _
    · exact (((h.onStore.onStore (RasterStore.dropDirHold_mem _ _ _)).setPage _ _).report _).supersede _ _
    · exact ((h.onStore.setPage _ _).report _).supersede _ _

theorem Inside.receiveAgain (h : Inside s t) (b : Band) : Inside s (t.receiveAgain b).1 := by
  unfold State.receiveAgain
  split
  · exact h
  · exact h.onStore.setPage _ _

theorem Inside.restartReception (h : Inside s t) (b : Band) : Inside s (t.restartReception b) := by
  unfold State.restartReception
  dsimp only
  split
  · exact h
  · exact h.onStore.setPage _ _

theorem Inside.judgeSame (h : Inside s t) (b : Band) : Inside s (t.judgeSame b).1 := by
  unfold State.judgeSame
  split
  · split
    · exact h
    · split
      · exact h.restartReception b
      · split
        · exact h.report _
        · exact h.breakPage _ _
  · exact h.report _
  · split
    · exact h.receiveAgain b
    · exact h.report _
  · split
    · exact h.receiveAgain b
    · exact h.report _
  · split
    · exact h.newReception b
    · exact h.report _

theorem Inside.judge (h : Inside s t) (b : Band) : Inside s (t.judge b).1 := by
  unfold State.judge
  split
  · exact h.report _
  · split
    · exact h.report _
    · split
      · split
        · exact h.newReception b
        · exact h.report _
      · exact h.judgeSame b

theorem Inside.requestWrite (h : Inside s t) (b : Band) (d : DescId) (row : Nat) : Inside s (t.requestWrite b d row) := by
  unfold State.requestWrite
  exact h.onStore (RasterStore.request_mem _ _).1

/-- Taking a strip leaves plate memory. -/
theorem RasterStore.takeStrip_mem (st st' : RasterStore) (d : DescId) (h : st.takeStrip d = some st') :
    st'.mem = st.mem := by
  unfold RasterStore.takeStrip at h
  split at h
  · cases h
  · cases h
    rfl

theorem Inside.startRow (h : Inside s t) (b : Band) : Inside s (t.startRow b) := by
  unfold State.startRow
  split
  · exact h
  · dsimp only
    split
    · split
      · exact h.frame.stallReport b
      · rename_i hst
        exact (h.frame (mem := RasterStore.takeStrip_mem _ _ _ hst)).requestWrite b _ _
    · exact h.requestWrite b _ _

theorem Inside.lastBandDecision (h : Inside s t) (b : Band) : Inside s (t.lastBandDecision b) := by
  unfold State.lastBandDecision
  dsimp only
  split
  · split
    · exact h.completePage _
    · exact h.breakPage _ _
  · exact h.breakPage _ _

theorem Inside.acceptBand (h : Inside s t) (b : Band) : Inside s (t.acceptBand b).1 := by
  unfold State.acceptBand
  split
  · exact h.breakPage _ _
  · have accepted : Inside s (t.acceptInto b) := h.setPage _ _
    dsimp only
    split
    · exact accepted.lastBandDecision b
    · exact accepted.frame.startRow b

/-- A band that leaves the buffer leaves room. -/
theorem Inside.popHead (h : Inside s t) : Inside s t.popHead :=
  { h with
    buffer := fun hs => by
      have := h.buffer hs
      simp only [State.popHead, List.length_tail]
      omega }

theorem Inside.takeHeads (h : Inside s t) (n : Nat) : Inside s (t.takeHeads n) := by
  induction n generalizing t with
  | zero => exact h
  | succ n ih =>
    unfold State.takeHeads
    split
    · exact h
    · split
      · exact h
      · rename_i b _ _
        have judged := h.judge b
        split
        · rename_i hv
          rw [hv] at judged
          exact judged.frame.stallReport b
        · rename_i hv
          rw [hv] at judged
          exact ih judged.endStall.popHead
        · rename_i hv
          rw [hv] at judged
          have accepted := judged.endStall.acceptBand b
          split
          · rename_i ha
            rw [ha] at accepted
            exact ih accepted.popHead
          · rename_i ha
            rw [ha] at accepted
            exact accepted

theorem Inside.runIntake (h : Inside s t) : Inside s t.runIntake := h.takeHeads _

theorem Inside.wakeIntake (h : Inside s t) : Inside s t.wakeIntake := by
  unfold State.wakeIntake
  split
  · split
    · exact h
    · exact h.frame.endStall.startRow _
  · split
    · exact h
    · exact h.frame.runIntake
  · exact h

theorem Inside.abandonHead (h : Inside s t) (k : PageIx) : Inside s (t.abandonHead k) := by
  unfold State.abandonHead
  split
  · split
    · exact h.frame
    · exact h
  · split
    · exact h.frame
    · exact h
  · exact h

theorem Inside.disposeAbandoned (h : Inside s t) : Inside s t.disposeAbandoned := by
  unfold State.disposeAbandoned
  split
  · exact h.popHead.runIntake
  · exact h

theorem Inside.overrunBand (h : Inside s t) (b : Band) : Inside s (t.overrunBand b) := by
  unfold State.overrunBand
  dsimp only
  split
  · exact (((h.report _).breakPage _ _).abandonHead _).wakeIntake.disposeAbandoned
  · exact h.report _

theorem Inside.offerBand (h : Inside s t) (b : Band) : Inside s (t.offerBand b) := by
  unfold State.offerBand
  split
  · rename_i room
    have joined : Inside s { t with intake := { t.intake with buffer := t.intake.buffer ++ [b] } } :=
      { h with buffer := fun _ => by rw [List.length_append, List.length_singleton]; exact room }
    exact joined.runIntake
  · exact h.overrunBand b

theorem Inside.bandArrives (h : Inside s t) (body : List Byte) : Inside s (t.bandArrives body) := by
  unfold State.bandArrives
  split
  · exact h.report _
  · exact h.offerBand _

theorem Inside.rowWritten (h : Inside s t) (b : Band) : Inside s (t.rowWritten b) := by
  have advanced : Inside s (t.setPage b.key { t.page b.key with rows := (t.page b.key).rows + 1 }) := h.setPage _ _
  unfold State.rowWritten
  dsimp only
  split
  · exact advanced.frame.startRow b
  · split
    · exact (advanced.frame.lastBandDecision b).popHead.runIntake
    · exact advanced.frame.popHead.runIntake

theorem Inside.writeHanded (h : Inside s t) : Inside s t.writeHanded := by
  unfold State.writeHanded
  split
  · exact h.rowWritten _
  · exact h.popHead.runIntake
  · exact h

end

end Sys2Proof.Machine
end

section
/-! SUPPORT. What every command ends with leaves nothing owed: the walks come to rest within their five rounds, since a
round after which the Dispatcher is told has started a line (R100), and the arbiter has granted (R52). -/

namespace Sys2Proof.Machine

set_option Elab.async false

/-- From `s` to `t` no exposure in flight has ended, and the Dispatcher has been told of nothing new unless a line has
started. -/
structure Starts (s t : State) : Prop where
  exposing : ∀ l : LineId, (s.line l).exposure.isSome = true → (t.line l).exposure.isSome = true
  told : t.told = s.told ∨ ∃ l : LineId, (s.line l).exposure = none ∧ (t.line l).exposure.isSome = true

theorem Starts.refl (s : State) : Starts s s := ⟨fun _ => id, .inl rfl⟩

theorem Starts.trans {s t u : State} (h : Starts s t) (k : Starts t u) : Starts s u := by
  refine ⟨fun l => k.exposing l ∘ h.exposing l, ?_⟩
  rcases h.told with hst | ⟨l, hl, hl'⟩
  · rcases k.told with htu | ⟨l, hl, hl'⟩
    · exact .inl (htu.trans hst)
    · refine .inr ⟨l, Option.not_isSome_iff_eq_none.mp fun hs => ?_, hl'⟩
      exact Option.not_isSome_iff_eq_none.mpr hl (h.exposing l hs)
  · exact .inr ⟨l, hl, k.exposing l hl'⟩

section
variable {s t : State}

theorem Starts.foldl {α : Type} {f : State → α → State} (hf : ∀ u a, Starts u (f u a)) (as : List α) (t : State) :
    Starts t (as.foldl f t) := by
  induction as generalizing t with
  | nil => exact Starts.refl t
  | cons a as ih => exact (hf t a).trans (ih _)

/-- A change of neither the lines nor the word to the Dispatcher. -/
theorem Starts.frame {u : State} (h : Starts s t) (lines : u.lines = t.lines := by rfl)
    (told : u.told = t.told := by rfl) : Starts s u :=
  h.trans ⟨fun l => by rw [State.line, State.line, lines]; exact id, .inl told⟩

/-- A change of one line that ends no exposure. -/
theorem Starts.setLine (h : Starts s t) (l : LineId) {ln : Line}
    (hl : (t.line l).exposure.isSome = true → ln.exposure.isSome = true) : Starts s (t.setLine l ln) :=
  h.trans
    { exposing := fun m hm => by
        rw [State.line_setLine]
        split
        · subst m
          exact hl hm
        · exact hm
      told := .inl rfl }

theorem Starts.reportAll (h : Starts s t) (rs : List Report) : Starts s (t.reportAll rs) := by
  rw [State.reportAll_eq]
  exact h.frame

theorem Starts.compose (h : Starts s t) (n : Nat) (l : LineId) : Starts s (State.compose n l t) := by
  induction n generalizing t with
  | zero => exact h
  | succ n ih =>
    unfold State.compose
    dsimp only
    split
    · split
      · split
        · exact h
        · exact h.frame
      · exact ih (h.setLine l id)
    · exact h

theorem Starts.goTest (h : Starts s t) (l : LineId) : Starts s (t.goTest l) := by
  unfold State.goTest
  split
  · exact h
  · split
    · exact (h.setLine l fun _ => rfl).frame
    · exact h

/-- A start tells the Dispatcher, and a line that had no exposure in flight has one (R131). -/
theorem State.startTest_starts (s : State) (l : LineId) : Starts s (s.startTest l) := by
  unfold State.startTest
  split
  · rename_i hready
    unfold State.beginExposure
    split
    · exact Starts.refl s
    · rename_i p rest _
      dsimp only
      refine Starts.goTest (Starts.compose ?_ _ l) l
      refine ⟨fun m hm => ?_, .inr ⟨l, (Line.transit_of_startReady _ hready).1, ?_⟩⟩
      all_goals rw [State.reportAll_eq]
      · simp only [State.tell_line, State.send_line]
        show ((s.setLine l _).line m).exposure.isSome = true
        rw [State.line_setLine]
        split
        · rfl
        · exact hm
      · simp only [State.tell_line, State.send_line]
        show ((s.setLine l _).line l).exposure.isSome = true
        rw [State.line_setLine_self]
        rfl
  · exact Starts.refl s

theorem State.walkOne_starts (s : State) (p : Slot) : Starts s (s.walkOne p) := by
  unfold State.walkOne
  split
  · exact Starts.refl s
  · rename_i l _
    unfold State.place
    refine Starts.frame (Starts.setLine (t := (s.leaveReady p).setPlate p _) (Starts.refl s).frame l ?_)
    exact id

theorem State.round_starts (s : State) : Starts { s with told := false } ({ s with told := false }.walk).startLines :=
  (Starts.foldl State.walkOne_starts _ _).trans (Starts.foldl State.startTest_starts _ _)

/-- The lines with no exposure in flight. -/
def State.idleLines (s : State) : Finset LineId := Finset.univ.filter fun l => (s.line l).exposure = none

/-- A round of walk and starts after which the Dispatcher is told leaves fewer lines idle. -/
theorem State.round_idleLines (s : State) (h : ({ s with told := false }.walk).startLines.told = true) :
    ({ s with told := false }.walk).startLines.idleLines.card < s.idleLines.card := by
  have round := s.round_starts
  obtain hsame | ⟨l, hl, hl'⟩ := round.told
  · rw [hsame] at h
    cases h
  · refine Finset.card_lt_card (Finset.ssubset_iff_of_subset ?_ |>.mpr ⟨l, ?_, ?_⟩)
    · intro m hm
      simp only [State.idleLines, Finset.mem_filter, Finset.mem_univ, true_and] at hm ⊢
      by_contra hne
      have := round.exposing m (Option.isSome_iff_ne_none.mpr hne)
      rw [hm] at this
      cases this
    · simp only [State.idleLines, Finset.mem_filter, Finset.mem_univ, true_and]
      exact hl
    · simpa only [State.idleLines, Finset.mem_filter, Finset.mem_univ, true_and] using
        Option.isSome_iff_ne_none.mp hl'

/-- Walks come to rest when they have more rounds than there are idle lines. -/
theorem State.walks_told (n : Nat) (s : State) (h : s.idleLines.card < n) : (State.walks n s).told = false := by
  induction n generalizing s with
  | zero => omega
  | succ n ih =>
    unfold State.walks
    dsimp only
    split
    · rename_i htold
      have := s.round_idleLines htold
      exact ih _ (by omega)
    · rename_i htold
      simpa using htold

theorem State.settle_told (s : State) : s.settle.told = false := by
  unfold State.settle
  split
  · have : s.idleLines.card ≤ 4 := Finset.card_le_univ _
    exact State.walks_told 5 s (by omega)
  · rename_i htold
    simpa using htold

theorem RasterStore.grant_handing (st : RasterStore) (level : LineId → Nat) : (st.grant level).handing = st.handing := by
  unfold RasterStore.grant
  split <;> rfl

/-- After an event the arbiter has taken up its grants again, and the word to the Dispatcher is as it was. -/
theorem State.endHanding_quiet (s : State) (h : s.told = false) : s.endHanding.Quiet := by
  unfold State.endHanding
  split
  · exact ⟨h, RasterStore.grant_handing _ _⟩
  · rename_i hh
    exact ⟨h, by simpa using hh⟩

/-- What a command ends with leaves the engine between two commands (logs 9, 12). -/
theorem State.quiet_finish (s : State) : s.finish.Quiet := by
  unfold State.finish
  rw [State.transmit_eq]
  exact s.settle.endHanding_quiet s.settle_told

end

end Sys2Proof.Machine
end

section
/-! SUPPORT. What the effects of the single commands keep, as `Inside` says it. -/

namespace Sys2Proof.Machine

set_option Elab.async false

section
variable {s t : State}

/-! ### Pages and plates -/

theorem Inside.discardPage (h : Inside s t) (k : PageIx) : Inside s (t.discardPage k) := by
  unfold State.discardPage
  dsimp only
  split
  · exact (((h.onStore (RasterStore.dropDirHold_mem _ _ _)).abandonHead k).setPage k _).disposeAbandoned
  · exact ((h.abandonHead k).setPage k _).disposeAbandoned

theorem Inside.writeLands (h : Inside s t) (w : BandWrite) : Inside s (t.writeLands w) :=
  { h with mem := fun hs => Memory.writeBytes_wf _ _ _ (h.mem hs) }

theorem Inside.takeOut (h : Inside s t) (p : Slot) : Inside s (t.takeOut p) := by
  unfold State.takeOut
  split
  · exact h.leaveReady p
  · exact (h.leaveQueue _ p).drainTest _
  · exact h

theorem Inside.dropPlate (h : Inside s t) (p : Slot) : Inside s (t.dropPlate p) :=
  ((h.takeOut p).offerDemand _ _).setPlate p _

/-! ### The line commands -/

/-- New capacities leave every bin open or closed as it was (R113). -/
theorem Line.noFuller_withCapacities (ln : Line) (capacity : BinId → Nat) : ln.NoFuller (ln.withCapacities capacity) where
  queue := le_refl _
  transit := le_refl _
  feed := le_refl _
  bin := fun h => by simpa [Line.withCapacities, Line.bin] using h

theorem Inside.configure (h : Inside s t) (l : LineId) (c : LineConfig) (capacity : BinId → Nat) :
    Inside s (t.configure l c capacity) := by
  unfold State.configure
  refine ((h.shrinkLine l ?_).reportAll _).routeWaiting l
  have configured : (t.line l).NoFuller { t.line l with config := c } := .same
  exact configured.trans (Line.noFuller_withCapacities _ _)

theorem Inside.clearTransit (h : Inside s t) (l : LineId) (c : Cause) : Inside s (t.clearTransit l c) :=
  h.foldl (fun _ _ hu => (hu.shrinkLine l (Line.noFuller_dropEntry _ _)).spoil _ c) _

theorem Inside.abandonExposure (h : Inside s t) (l : LineId) : Inside s (t.abandonExposure l) := by
  unfold State.abandonExposure
  split
  · exact h
  · exact (((h.send l _).closeExposure l _).spoil _ _).shrinkLine l .same

theorem Inside.stopLine (h : Inside s t) (l : LineId) : Inside s (t.stopLine l) := (h.shrinkLine l .same).setMode l _

theorem Inside.resetLine (h : Inside s t) (l : LineId) : Inside s (t.resetLine l) :=
  (((((h.abandonExposure l).clearTransit l _).returnEntries l _).shrinkLine l .same).stopLine l).tell

/-! ### The exposure unit and the Composer -/

theorem Inside.clearAbort (h : Inside s t) (l : LineId) : Inside s (t.clearAbort l) := by
  unfold State.clearAbort
  split
  · exact (h.shrinkLine l .same).startTest l
  · exact h

theorem Inside.takeAccept (h : Inside s t) (l : LineId) : Inside s (t.takeAccept l) := by
  unfold State.takeAccept
  split
  · exact h
  · rename_i c hc
    split
    · exact h
    · unfold State.acceptBegin
      refine Inside.goTest ?_ l
      have started : ∀ r, Inside s ((t.setLine l { t.line l with exposure := some c.accepted }).setPlate c.slot r) :=
        fun r => (h.shrinkLine l (.same (exposure := by simp [hc]))).setPlate c.slot r
      dsimp only
      split
      · exact ((started _).report _).applyAction c.slot l
      · exact (started _).report _

theorem Inside.undoBegin (h : Inside s t) (l : LineId) (c : Exposure) : Inside s (t.undoBegin l c) :=
  (h.closeExposure l c).setPlate c.slot _

theorem Inside.withdrawRecord (h : Inside s t) (l : LineId) (p : Slot) : Inside s (t.withdrawRecord l p) :=
  ((h.setPlate p _).report _).evaluate p

/-- The last write of a line stands. -/
theorem State.setLine_setLine (s : State) (l : LineId) (a b : Line) : (s.setLine l a).setLine l b = s.setLine l b := by
  simp [State.setLine, Vector.set_set]

/-- Without its last entry a queue is shorter. -/
theorem length_filter_getLast_lt (q : Slot) (qs : List Slot) :
    ((q :: qs).filter fun x => decide (x ∉ (q :: qs).getLast?.toList)).length < (q :: qs).length :=
  List.length_filter_lt_length_iff_exists.mpr
    ⟨(q :: qs).getLast (List.cons_ne_nil _ _), List.getLast_mem _, by simp [List.getLast?_eq_getLast_of_ne_nil]⟩

/-- A refused record re-enters its queue; the ninth entry gives way (R103). -/
theorem Inside.requeue (h : Inside s t) (l : LineId) (p : Slot) : Inside s (t.requeue l p) := by
  have requeued : ∀ {ln : Line} {r}, (s.LinesBounded → ln.queue.length ≤ 8) →
      ln = { t.line l with queue := ln.queue } → Inside s ((t.setPlate p r).setLine l ln) := by
    intro ln r hq e
    refine (h.setPlate p r).setLine l (fun hs => ?_) fun hs => ?_
    · rw [e]
      exact ⟨hq hs, (h.lines hs l).2⟩
    · rw [e]
      exact h.bins hs l
  unfold State.requeue
  dsimp only
  split
  · refine Inside.returnEntries_of l _ (by simp) ?_
    rw [State.setPlate_line, State.line_setLine_self]
    show Inside s ((((t.setPlate p _).setLine l _).setLine l _))
    rw [State.setLine_setLine]
    refine requeued (fun hs => ?_) rfl
    have hq := (h.lines hs l).1
    have := length_filter_getLast_lt p (t.line l).queue
    rw [List.length_cons] at this
    exact Nat.le_of_lt_succ (this.trans_le (Nat.succ_le_succ hq))
  · rename_i room
    rw [State.setPlate_line, State.line_setLine_self] at room
    exact requeued (fun _ => Nat.le_of_not_lt room) rfl

theorem Inside.returnMismatch (h : Inside s t) (l : LineId) (p : Slot) : Inside s (t.returnMismatch l p) := by
  unfold State.returnMismatch
  split
  · exact h
  · exact h.returnEntries l _

theorem Inside.refusedRecord (h : Inside s t) (l : LineId) (p : Slot) : Inside s (t.refusedRecord l p) := by
  unfold State.refusedRecord
  split
  · exact h.withdrawRecord l p
  · split
    · exact (h.returnToReady p).tell
    · exact (h.requeue l p).returnMismatch l p

theorem Inside.endPause (h : Inside s t) (l : LineId) : Inside s (t.endPause l) := by
  unfold State.endPause
  split
  · exact h.setMode l _
  · exact h

theorem Inside.takeRefuse (h : Inside s t) (l : LineId) : Inside s (t.takeRefuse l) := by
  unfold State.takeRefuse
  split
  · exact h.clearAbort l
  · split
    · exact h.clearAbort l
    · exact (((((h.undoBegin l _).shrinkLine l .same).refusedRecord l _).endPause l).drainTest l).wakeIntake.tell

theorem Inside.takeRefuseLocal (h : Inside s t) (l : LineId) : Inside s (t.takeRefuseLocal l) := by
  unfold State.takeRefuseLocal
  split
  · exact h.clearAbort l
  · rename_i c _
    split
    · exact h.clearAbort l
    · unfold State.refuseLocal
      have faulted := ((h.undoBegin l c).shrinkLine l .same (ln := { (t.undoBegin l c).line l with
        unitLocal := true, unitReady := false })).faultLine l .unitLocal (some c.slot)
      refine (Inside.wakeIntake ?_).tell
      split
      · exact faulted.withdrawRecord l _
      · exact faulted.returnToReady _

theorem Inside.timeoutBegin (h : Inside s t) (l : LineId) (c : Exposure) : Inside s (t.timeoutBegin l c) :=
  (((((h.send l _).shrinkLine l .same).closeExposure l c).spoil _ _).faultLine l _ _).wakeIntake.tell

theorem Inside.readCompletes (h : Inside s t) (r : ScanRead) : Inside s (t.readCompletes r) := by
  unfold State.readCompletes
  split
  · exact h.beginHanding.feedLine _
  · unfold State.readHanded
    split
    · exact h.beginHanding
    · split
      · exact h.beginHanding
      · exact (h.beginHanding.shrinkLine _ .same).feedLine _

theorem Inside.takeLineRequest (h : Inside s t) (l : LineId) : Inside s (t.takeLineRequest l) := by
  unfold State.takeLineRequest
  split
  · exact h
  · rename_i hc
    split
    · split
      · exact (h.setPlate _ _).abortExposure l
      · rename_i row rest hfeed
        refine ((h.shrinkLine l ?_).send l _).feedLine l
        exact { queue := le_refl _, transit := by simp [hc], feed := by simp [hfeed] }
    · exact h

theorem Inside.holdTest (h : Inside s t) (l : LineId) : Inside s (t.holdTest l) := by
  unfold State.holdTest
  split
  case h_1 | h_3 => exact h.setMode l _
  case h_2 => exact (h.setMode l _).setMode l _
  all_goals exact h

theorem Inside.afterEnd (h : Inside s t) (l : LineId) (hold : Bool) : Inside s (t.afterEnd l hold) := by
  unfold State.afterEnd
  split
  · exact h.holdTest l
  · exact (h.endPause l).drainTest l

/-- The line of an exposure that is closed. -/
theorem State.closeExposure_line (s : State) (l : LineId) (c : Exposure) :
    (s.closeExposure l c).line l = { s.line l with feed := [], composer := {}, exposure := none } := by
  unfold State.closeExposure
  rw [State.line_setLine_self]
  rfl

/-- The plate of an exposure in flight takes, in transit, the place that its exposure had (R103, R140). -/
theorem Inside.enterTransit (h : Inside s t) (l : LineId) (c : Exposure) (hc : (t.line l).exposure = some c)
    (r : PlateRecord) (mark : Nat) (route : Route) (f : ProfileId) :
    Inside s (((t.closeExposure l c).setPlate c.slot r).setLine l
      (((t.closeExposure l c).line l).appendEntry c.slot mark route f)) := by
  refine ((h.closeExposure l c).setPlate c.slot r).setLine l (fun hs => ?_) fun hs => ?_
  · obtain ⟨hq, ht, -⟩ := h.lines hs l
    rw [hc] at ht
    rw [State.closeExposure_line]
    refine ⟨hq, ?_, Nat.zero_le _⟩
    simpa [Line.appendEntry] using ht
  · rw [State.closeExposure_line]
    exact h.bins hs l

theorem Inside.takeEnd (h : Inside s t) (l : LineId) (cause : EndCause) : Inside s (t.takeEnd l cause) := by
  unfold State.takeEnd
  split
  · exact h.clearAbort l
  · rename_i c hc
    split
    · unfold State.endExposure
      exact ((((h.enterTransit l c hc _ _ _ _).report _).afterEnd l _).wakeIntake.startTest l).tell
    · exact h

theorem Inside.takeEndFault (h : Inside s t) (l : LineId) : Inside s (t.takeEndFault l) := by
  unfold State.takeEndFault
  split
  · exact h.clearAbort l
  · exact (((h.closeExposure l _).spoil _ _).faultLine l _ _).wakeIntake.tell

theorem Inside.changeStock (h : Inside s t) (l : LineId) (stock : Option Nat) : Inside s (t.changeStock l stock) := by
  unfold State.changeStock
  split
  · exact h
  · exact ((h.shrinkLine l .same).returnEntries l _).drainTest l

theorem Inside.takeStatus (h : Inside s t) (l : LineId) (ready : Bool) (stock : Option Nat) (unitLocal : Bool) :
    Inside s (t.takeStatus l ready stock unitLocal) :=
  (((h.shrinkLine l .same).changeStock l stock).startTest l).tell

/-! ### The punch-bender -/

theorem Inside.loadProfile (h : Inside s t) (f : ProfileId) (x : Profile) : Inside s (t.loadProfile f x) := by
  have forgets : ∀ ln : Line,
      ln.NoFuller (if ln.stationProfile = some f then { ln with stationProfile := none } else ln) := by
    intro ln
    split <;> exact .same
  exact
    { h with
      lines := fun hs l => by
        simp only [State.line, State.loadProfile, Vector.getElem_map]
        exact (forgets _).bounded (h.lines hs l)
      bins := fun hs l => by
        simp only [State.line, State.loadProfile, Vector.getElem_map]
        exact (forgets _).bin (h.bins hs l) }

theorem Inside.sendGo (h : Inside s t) (l : LineId) (p : Slot) : Inside s (t.sendGo l p) :=
  (h.shrinkLine l (Line.noFuller_enterStage _ _ _ _)).send l _

theorem Inside.sendSetup (h : Inside s t) (l : LineId) (e : TransitEntry) : Inside s (t.sendSetup l e) := by
  unfold State.sendSetup
  refine (h.shrinkLine l ?_).send l _
  exact (Line.noFuller_enterStage _ _ _ _).trans .same

theorem Inside.deliverAtPunch (h : Inside s t) (l : LineId) (e : TransitEntry) : Inside s (t.deliverAtPunch l e) := by
  unfold State.deliverAtPunch
  split
  · exact h.sendGo l _
  · split
    · exact h.sendSetup l e
    · exact h.shrinkLine l (Line.noFuller_enterStage _ _ _ _)

theorem Inside.acceptArrival (h : Inside s t) (l : LineId) (e : TransitEntry) : Inside s (t.acceptArrival l e) := by
  unfold State.acceptArrival
  split
  · exact h.deliverAtPunch l e
  · exact (h.shrinkLine l (Line.noFuller_enterStage _ _ _ _)).send l _

theorem Inside.matchArrival (h : Inside s t) (l : LineId) (e : TransitEntry) (mark : Option Nat) :
    Inside s (t.matchArrival l e mark) := by
  unfold State.matchArrival
  split
  · split
    · exact (h.report _).acceptArrival l e
    · split
      · exact h.acceptArrival l e
      · exact h.faultLine l _ _
  · exact h.acceptArrival l e

theorem Inside.takeArrival (h : Inside s t) (l : LineId) (mark : Option Nat) : Inside s (t.takeArrival l mark) := by
  unfold State.takeArrival
  split
  · exact h.faultLine l _ _
  · split
    · exact h.faultLine l _ _
    · exact h.matchArrival l _ mark

theorem Inside.serveSetups (h : Inside s t) (n : Nat) (l : LineId) : Inside s (State.serveSetups n l t) := by
  induction n generalizing t with
  | zero => exact h
  | succ n ih =>
    unfold State.serveSetups
    split
    · exact ih (h.deliverAtPunch l _)
    · exact h

theorem Inside.takeSetupDone (h : Inside s t) (l : LineId) : Inside s (t.takeSetupDone l) := by
  unfold State.takeSetupDone
  split
  · exact h
  · split
    · exact h
    · exact ((h.shrinkLine l .same).sendGo l _).serveSetups _ l

theorem Inside.takeDone (h : Inside s t) (l : LineId) : Inside s (t.takeDone l) := by
  unfold State.takeDone
  split
  · exact h
  · split
    · exact h
    · exact h.shrinkLine l (Line.noFuller_enterStage _ _ _ _)

theorem Inside.takePunchFault (h : Inside s t) (l : LineId) : Inside s (t.takePunchFault l) := by
  unfold State.takePunchFault
  dsimp only
  split
  · exact h.faultLine l _ _
  · exact (h.shrinkLine l .same).faultLine l _ _

/-! ### The sorter -/

theorem Inside.waitForBin (h : Inside s t) (l : LineId) (p : Slot) : Inside s (t.waitForBin l p) := by
  unfold State.waitForBin
  refine (h.shrinkLine l ?_).send l _
  exact (Line.noFuller_enterStage _ _ _ _).trans (Line.noFuller_holdDeadlines _)

theorem Inside.takeSorterArrival (h : Inside s t) (l : LineId) : Inside s (t.takeSorterArrival l) := by
  unfold State.takeSorterArrival
  split
  · exact h.faultLine l _ _
  · split
    · exact h.faultLine l _ _
    · unfold State.arriveAtSorter
      split
      · exact h.routeEntry l _ _
      · exact h.waitForBin l _

theorem Inside.fate (h : Inside s t) (l : LineId) (b : BinId) (e : TransitEntry) : Inside s (t.fate l b e) := by
  unfold State.fate
  split
  · exact ((h.setPlate _ _).report _).offerDemand _ _
  · exact ((h.setPlate _ _).report _).autoRemake _
  · exact ((h.setPlate _ _).report _).autoRemake _
  · exact ((h.setPlate _ _).report _).autoRemake _

theorem Inside.fullTest (h : Inside s t) (l : LineId) (b : BinId) : Inside s (t.fullTest l b) := by
  unfold State.fullTest
  split
  · exact h.report _
  · exact h

/-- A stacked plate leaves the transit list, and no bin is closed by it (R164). -/
theorem Line.noFuller_stacked (ln : Line) (b : BinId) (p : Slot) : ln.NoFuller (ln.stacked b p) := by
  refine (Line.noFuller_setBin ln b _ ?_).trans (Line.noFuller_dropEntry _ p)
  rintro rfl hopen
  exact hopen

theorem Inside.stack (h : Inside s t) (l : LineId) (b : BinId) (e : TransitEntry) : Inside s (t.stack l b e) :=
  (((((h.shrinkLine l (Line.noFuller_stacked _ _ _)).fate l b e).wakeIntake).fullTest l b).startTest l).routeWaiting l

theorem Inside.misroute (h : Inside s t) (l : LineId) (e : TransitEntry) : Inside s (t.misroute l e) :=
  ((h.shrinkLine l (Line.noFuller_dropEntry _ _)).spoil _ _).faultLine l _ _

theorem Inside.takeStacked (h : Inside s t) (l : LineId) (bin : Nat) : Inside s (t.takeStacked l bin) := by
  unfold State.takeStacked
  split
  · exact h
  · split
    · exact h.faultLine l _ _
    · split
      · exact h
      · split
        · exact h.stack l _ _
        · exact h.misroute l _

theorem Inside.takeEmptied (h : Inside s t) (l : LineId) (bin : Nat) : Inside s (t.takeEmptied l bin) := by
  unfold State.takeEmptied
  split
  · refine ((h.shrinkLine l (Line.noFuller_setBin _ _ _ ?_)).report _).routeWaiting l
    intro hb hopen
    rw [hb]
    exact hopen
  · exact h

theorem Inside.setClosed (h : Inside s t) (l : LineId) (b : BinId) (closed : Bool) (hb : b = 0 → closed = false) :
    Inside s (t.setClosed l b closed) :=
  h.shrinkLine l (Line.noFuller_setBin _ b _ fun h0 _ => hb h0)

end

end Sys2Proof.Machine
end

section
/-! SUPPORT. The shape of a control frame (R8), and when the frame at the head of the control queue can be taken (R7). -/

namespace Sys2Proof.Machine

set_option Elab.async false

/-- The commands whose argument bytes are of one number, with that number (spec 01, section 1.7). -/
def fixedShapes : List (Nat × Nat) :=
  [(0x01, 0), (0x02, 0), (0x10, 2), (0x11, 2), (0x12, 2), (0x21, 2), (0x22, 2), (0x23, 2), (0x30, 15), (0x31, 1),
    (0x32, 1), (0x33, 1), (0x34, 1), (0x35, 1), (0x36, 1), (0x40, 21), (0x50, 2), (0x51, 2)]

theorem argumentLength_eq_some {code n : Nat} {args : List Byte} (h : code ≠ 0x20) :
    argumentLength code args = some n ↔ (code, n) ∈ fixedShapes := by
  unfold argumentLength
  split
  case h_6 => exact absurd rfl h
  case h_20 => simp_all [fixedShapes]
  all_goals simp [fixedShapes, eq_comm]

theorem argumentLength_loadPlate (args : List Byte) : argumentLength 0x20 args = loadPlateLength args := rfl

/-- LOAD_PLATE has one to four tile parts of 17 bytes after its 17 bytes of fields. -/
theorem loadPlateLength_eq_some {args : List Byte} :
    loadPlateLength args = some args.length ↔ 17 ≤ args.length ∧ 1 ≤ byteAt args 16 ∧ byteAt args 16 ≤ 4
      ∧ args.length = 17 + 17 * byteAt args 16 := by
  unfold loadPlateLength
  split
  · simp
    omega
  · split
    · simp
      omega
    · simp only [Option.some.injEq]
      omega

theorem commandOf_cons (code : Byte) (args : List Byte) : commandOf (code :: args) =
    if argumentLength code.toNat args = some args.length then some (code.toNat, args) else none := rfl

/-- A body with the shape of a command is the command's code and its argument bytes. -/
theorem commandOf_eq_some {body args : List Byte} {code : Nat} (h : commandOf body = some (code, args)) :
    ∃ c : Byte, c.toNat = code ∧ body = c :: args := by
  cases body with
  | nil => cases h
  | cons c as =>
    rw [commandOf_cons] at h
    split at h
    · cases h
      exact ⟨c, rfl, rfl⟩
    · cases h

/-- A body that has a shape has that of its first byte's command. -/
theorem commandOf_cons_of_ne_none {code : Byte} {args : List Byte} (h : commandOf (code :: args) ≠ none) :
    commandOf (code :: args) = some (code.toNat, args) := by
  rw [commandOf_cons] at h ⊢
  split
  · rfl
  · rename_i hlen
    exact absurd (if_neg hlen) h

theorem State.controlHead_eq (s : State) (f : ControlFrame) (slot : s.link.reply = none)
    (head : s.link.controlQueue.head? = some f) : s.controlHead = some f := by
  rw [State.controlHead, if_pos slot, head]

/-- A frame with the shape of the command, at the head of the queue with the REPLY slot empty, can be taken (R7). -/
theorem State.argsOf_of_offers {s : State} {f : ControlFrame} {code : Byte} {args : List Byte}
    (h : s.Offers f code args) (shape : commandOf f.body ≠ none) : s.argsOf code.toNat = some (f, args) := by
  rw [h.body] at shape
  simp [State.argsOf, State.controlHead_eq s f h.slot h.head, h.body, commandOf_cons_of_ne_none shape]

/-- Where no frame with the shape of the command is offered, none can be taken. -/
theorem State.argsOf_of_not_offers {s : State} {code : Byte}
    (h : ∀ (f : ControlFrame) (args : List Byte), s.Offers f code args → commandOf f.body = none) :
    s.argsOf code.toNat = none := by
  rw [Option.eq_none_iff_forall_not_mem]
  rintro ⟨f, args⟩ hargs
  obtain ⟨slot, head, shape⟩ := s.argsOf_some _ f args hargs
  obtain ⟨c, hc, body⟩ := commandOf_eq_some shape
  obtain rfl := BitVec.eq_of_toNat_eq hc
  rw [h f args ⟨slot, head, body⟩] at shape
  cases shape

/-- A taking of a command whose frame is offered. -/
theorem taking_of_offers {s : State} {f : ControlFrame} {code : Byte} {args : List Byte}
    (run : List Byte → State → State × Answer) (h : s.Offers f code args) (shape : commandOf f.body ≠ none) :
    taking code.toNat run s =
      conclude ((run args s.dropControl).1.placeReply f code (run args s.dropControl).2) := by
  rw [taking_of_args _ run s f args (State.argsOf_of_offers h shape), BitVec.ofNat_toNat, BitVec.setWidth_eq]

/-- Settles O11: BAD_FRAME by the cases of the head, and the shapes by the table of argument lengths. -/
theorem shapelessFramesAreRefused : Obligations.ShapelessFramesAreRefused := by
  refine ⟨fun s f rest slot queue => ?_, rfl, fun code args => ⟨?_, ?_⟩⟩
  · have head : s.controlHead = some f := s.controlHead_eq f slot (by rw [queue, List.head?_cons])
    refine ⟨fun shape => ?_, fun shape => ?_⟩
    · show execBadFrame s = _
      simp [execBadFrame, head, shape, conclude, State.dropControl, State.placeReply, queue]
    · show execBadFrame s = _
      obtain ⟨command, hcommand⟩ := Option.ne_none_iff_exists'.mp shape
      simp [execBadFrame, head, hcommand]
  · rw [commandOf_cons]
    split
    · exact .inl rfl
    · exact .inr rfl
  · have some_iff : (commandOf (code :: args)).isSome = true ↔ argumentLength code.toNat args = some args.length := by
      rw [commandOf_cons]
      split <;> simp_all
    rw [some_iff]
    by_cases hcode : code = 0x20
    · subst hcode
      rw [show (0x20 : Byte).toNat = 0x20 from rfl, argumentLength_loadPlate, loadPlateLength_eq_some]
      simp
    · have hnat : code.toNat ≠ 0x20 := fun h => hcode (BitVec.eq_of_toNat_eq h)
      rw [argumentLength_eq_some hnat]
      exact (or_iff_left fun h => hcode h.1).symm

end Sys2Proof.Machine
end

section
/-! SUPPORT. What the control commands answer: every one that is answered by a REPLY keeps what `Inside` says, names a
field in a BAD_FIELD refusal alone, hands back data with OK alone, and has no effect when it is refused (R9). -/

namespace Sys2Proof.Machine

set_option Elab.async false

/-- The effect and the answer of a control command fit together. -/
structure Answers (s : State) (r : State × Answer) : Prop where
  inside : Inside s r.1
  field : r.2.status ≠ .badField → r.2.field = 0
  data : r.2.data ≠ [] → r.2.status = .ok
  refused : r.2.status ≠ .ok → r.1 = s

theorem refuse_answers (s : State) (c : Status) : Answers s (refuse s c) :=
  ⟨Inside.refl s, fun _ => rfl, fun h => absurd rfl h, fun _ => rfl⟩

theorem answer_answers (s : State) (data : List Byte) : Answers s (answer s data) :=
  ⟨Inside.refl s, fun _ => rfl, fun _ => rfl, fun _ => rfl⟩

theorem unchanged_answers (s : State) : Answers s (unchanged s) := answer_answers s []

theorem carryOut_answers {s t : State} (h : Inside s t) : Answers s (carryOut t) :=
  ⟨h.wakeIntake.settle, fun _ => rfl, fun _ => rfl, fun h => absurd rfl h⟩

/-- No field is out of range exactly when every one is in range. -/
theorem firstBad_eq_none {fs : List FieldCheck} : firstBad fs = none ↔ ∀ f ∈ fs, f.2 = true := by
  simp [firstBad]

/-- A command with a range check runs when its fields are in range. -/
theorem checked_answers {s : State} {fields : List FieldCheck} {run : State × Answer}
    (h : (∀ f ∈ fields, f.2 = true) → Answers s run) : Answers s (checked fields s run) := by
  unfold checked
  split
  · exact ⟨Inside.refl s, fun hne => absurd rfl hne, fun hne => absurd rfl hne, fun _ => rfl⟩
  · exact h (firstBad_eq_none.mp ‹_›)

theorem onLineCommand_answers {s : State} {args : List Byte} {run : LineId → State × Answer}
    (h : ∀ l, Answers s (run l)) : Answers s (onLineCommand args s run) :=
  checked_answers fun _ => h _

theorem runReleasePage_answers (k : PageIx) (s : State) : Answers s (runReleasePage k s) := by
  unfold runReleasePage
  split
  · split
    · exact carryOut_answers ((Inside.refl s).releasePage k)
    · exact refuse_answers s _
  · exact refuse_answers s _

theorem runDiscardPage_answers (k : PageIx) (s : State) : Answers s (runDiscardPage k s) := by
  unfold runDiscardPage
  split
  · exact refuse_answers s _
  · exact carryOut_answers ((Inside.refl s).discardPage k)

theorem runLoadPlate_answers (p : Slot) (x : PlateLoad) (s : State) : Answers s (runLoadPlate p x s) := by
  unfold runLoadPlate
  split
  · exact refuse_answers s _
  · split
    · exact refuse_answers s _
    · split
      · exact carryOut_answers ((((Inside.refl s).setPlate p _).offerDemand _ _).evaluate p)
      · exact carryOut_answers (((((Inside.refl s).leaveReady p).offerDemand _ _).setPlate p _).evaluate p)

theorem runDropPlate_answers (p : Slot) (s : State) : Answers s (runDropPlate p s) := by
  unfold runDropPlate
  split
  case h_1 | h_2 | h_3 => exact refuse_answers s _
  all_goals exact carryOut_answers ((Inside.refl s).dropPlate p)

theorem runRemakePlate_answers (p : Slot) (s : State) : Answers s (runRemakePlate p s) := by
  unfold runRemakePlate
  split
  case h_1 => exact carryOut_answers (((Inside.refl s).offerDemand _ _).remake p)
  case h_2 | h_3 => exact carryOut_answers ((Inside.refl s).remake p)
  all_goals exact refuse_answers s _

theorem runLineConfig_answers (args : List Byte) (l : LineId) (s : State) : Answers s (runLineConfig args l s) := by
  unfold runLineConfig
  split
  · exact checked_answers fun _ => carryOut_answers ((Inside.refl s).configure l _ _)
  · exact refuse_answers s _

theorem runLineStart_answers (l : LineId) (s : State) : Answers s (runLineStart l s) := by
  unfold runLineStart
  split
  · exact refuse_answers s _
  · split
    · exact unchanged_answers s
    · exact carryOut_answers (((Inside.refl s).setMode l _).startTest l)

theorem runLinePause_answers (l : LineId) (s : State) : Answers s (runLinePause l s) := by
  unfold runLinePause
  split
  case h_1 => exact carryOut_answers ((Inside.refl s).setMode l _)
  case h_2 | h_3 | h_4 => exact unchanged_answers s
  all_goals exact refuse_answers s _

theorem runLineDrain_answers (l : LineId) (s : State) : Answers s (runLineDrain l s) := by
  unfold runLineDrain
  split
  case h_1 => exact refuse_answers s _
  case h_2 | h_3 => exact unchanged_answers s
  all_goals exact carryOut_answers ((((Inside.refl s).setMode l _).drainTest l).startTest l)

theorem runLineClearFault_answers (l : LineId) (s : State) : Answers s (runLineClearFault l s) := by
  unfold runLineClearFault
  split
  · split
    · exact carryOut_answers (((Inside.refl s).clearTransit l _).stopLine l)
    · exact refuse_answers s _
  · exact refuse_answers s _

theorem runLoadProfile_answers (f : ProfileId) (x : Profile) (s : State) : Answers s (runLoadProfile f x s) := by
  unfold runLoadProfile
  split
  · exact refuse_answers s _
  · exact carryOut_answers ((Inside.refl s).loadProfile f x)

/-- BIN_CLOSE never names the reject bin (R167). -/
theorem binOperand_ne_zero (args : List Byte) (h : ∀ f ∈ binFields 1 args, f.2 = true) : binOperand args ≠ 0 := by
  have hbin := h (2, within 1 9 (byteAt args 1)) (by simp [binFields])
  simp only [within, decide_eq_true_eq] at hbin
  intro h0
  have := congrArg Fin.val h0
  simp only [binOperand, Fin.ofNat, Fin.val_zero] at this
  omega

/-- A replying command is the taking of its code, with an effect and an answer that fit together. -/
def TakesAndAnswers (c : Instr) (code : Byte) : Prop :=
  ∃ run, (∀ s, exec c s = taking code.toNat run s) ∧ ∀ args s, Answers s (run args s)

/-- Each of the eighteen replying commands takes its code and answers. -/
theorem replyingCommands_answer : ∀ q ∈ replyingCommands, TakesAndAnswers q.1 q.2 := by
  simp only [replyingCommands, List.forall_mem_cons, List.not_mem_nil, false_imp_iff, implies_true, and_true]
  refine ⟨?_, ?_, ?_, ?_, ?_, ?_, ?_, ?_, ?_, ?_, ?_, ?_, ?_, ?_, ?_, ?_, ?_, ?_⟩
  · exact ⟨_, fun s => by unfold exec execEngineInfo; rfl, fun _ s => answer_answers s _⟩
  · exact ⟨_, fun s => by unfold exec execReleasePage; rfl,
      fun _ s => checked_answers fun _ => runReleasePage_answers _ s⟩
  · exact ⟨_, fun s => by unfold exec execDiscardPage; rfl,
      fun _ s => checked_answers fun _ => runDiscardPage_answers _ s⟩
  · exact ⟨_, fun s => by unfold exec execQueryPage; rfl, fun _ s => checked_answers fun _ => answer_answers s _⟩
  · exact ⟨_, fun s => by unfold exec execLoadPlate; rfl,
      fun _ s => checked_answers fun _ => runLoadPlate_answers _ _ s⟩
  · exact ⟨_, fun s => by unfold exec execDropPlate; rfl, fun _ s => checked_answers fun _ => runDropPlate_answers _ s⟩
  · exact ⟨_, fun s => by unfold exec execRemakePlate; rfl,
      fun _ s => checked_answers fun _ => runRemakePlate_answers _ s⟩
  · exact ⟨_, fun s => by unfold exec execQueryPlate; rfl, fun _ s => checked_answers fun _ => answer_answers s _⟩
  · exact ⟨_, fun s => by unfold exec execLineConfig; rfl,
      fun args s => onLineCommand_answers fun l => runLineConfig_answers args l s⟩
  · exact ⟨_, fun s => by unfold exec execLineStart; rfl,
      fun _ s => onLineCommand_answers fun l => runLineStart_answers l s⟩
  · exact ⟨_, fun s => by unfold exec execLinePause; rfl,
      fun _ s => onLineCommand_answers fun l => runLinePause_answers l s⟩
  · exact ⟨_, fun s => by unfold exec execLineDrain; rfl,
      fun _ s => onLineCommand_answers fun l => runLineDrain_answers l s⟩
  · exact ⟨_, fun s => by unfold exec execLineReset; rfl,
      fun _ s => onLineCommand_answers fun l => carryOut_answers ((Inside.refl s).resetLine l)⟩
  · exact ⟨_, fun s => by unfold exec execLineClearFault; rfl,
      fun _ s => onLineCommand_answers fun l => runLineClearFault_answers l s⟩
  · exact ⟨_, fun s => by unfold exec execQueryLine; rfl, fun _ s => onLineCommand_answers fun l => answer_answers s _⟩
  · exact ⟨_, fun s => by unfold exec execLoadProfile; rfl,
      fun _ s => checked_answers fun _ => runLoadProfile_answers _ _ s⟩
  · exact ⟨_, fun s => by unfold exec execBinOpen; rfl,
      fun _ s => checked_answers fun _ => carryOut_answers
        (((Inside.refl s).setClosed _ _ _ fun _ => rfl).routeWaiting _)⟩
  · exact ⟨_, fun s => by unfold exec execBinClose; rfl,
      fun args s => checked_answers fun hf => carryOut_answers
        ((Inside.refl s).setClosed _ _ _ fun h0 => absurd h0 (binOperand_ne_zero args hf))⟩

/-- Of the Link Port's queue and REPLY slot, the end of a command leaves both. -/
theorem State.finish_queue (s : State) :
    s.finish.link.controlQueue = s.link.controlQueue ∧ s.finish.link.reply = s.link.reply := by
  rw [State.finish_link]
  exact ⟨rfl, rfl⟩

/-- Settles O12: each replying command is a taking whose run answers once, and without effect when it refuses. -/
theorem takenFramesAreAnsweredOnce : Obligations.TakenFramesAreAnsweredOnce := by
  rintro ⟨c, code⟩ hq s
  obtain ⟨run, hexec, hanswers⟩ := replyingCommands_answer _ hq
  dsimp only at hexec ⊢
  refine ⟨fun f args hoffers shape => ?_, fun hnone => ?_⟩
  · have ran := hanswers args s.dropControl
    obtain ⟨queue, slot⟩ := State.finish_queue ((run args s.dropControl).1.placeReply f code (run args s.dropControl).2)
    refine ⟨_, (run args s.dropControl).2, ?_, ?_, slot, ran.field, ran.data, fun hrefused => ?_⟩
    · rw [hexec, taking_of_offers run hoffers shape]
      rfl
    · rw [queue]
      exact congrArg LinkPort.controlQueue ran.inside.link
    · rw [ran.refused hrefused]
      rfl
  · rw [hexec, taking_of_none _ _ _ (State.argsOf_of_not_offers hnone)]

end Sys2Proof.Machine
end

section
/-! SUPPORT. Every command answers a next state, keeps what `Keeps` says, and leaves the engine between two commands. -/

namespace Sys2Proof.Machine

set_option Elab.async false

/-- The command answers a next state, which keeps the capacities and all else of `Keeps`, and which stands between two
commands where the state before did. -/
def Completes (s : State) (o : Host.Outcome State Fault Refusal) : Prop :=
  ∃ t, o = .next t ∧ Keeps s t ∧ (s.Quiet → t.Quiet)

section
variable {s t : State}

theorem Keeps.finish (h : Keeps s t) : Keeps s t.finish := by
  unfold State.finish
  rw [State.transmit_eq]
  exact (h.trans (Inside.refl t).settle.endHanding.toKeeps).frame

theorem Completes.idle (s : State) : Completes s (.next s) := ⟨s, rfl, Keeps.refl s, id⟩

theorem Completes.conclude (h : Keeps s t) : Completes s (conclude t) :=
  ⟨t.finish, rfl, h.finish, fun _ => t.quiet_finish⟩

/-- A message of a station, whose effect keeps what is to be kept. -/
theorem Completes.onLine {effect : State → State} (l : LineId) (h : Inside s (effect s)) :
    Completes s (onLine s l effect) := by
  unfold Machine.onLine
  split
  · exact Completes.conclude h.toKeeps
  · exact Completes.idle s

theorem Keeps.dropControl (s : State) : Keeps s s.dropControl :=
  { Keeps.refl s with
    control := fun hs => by
      simp only [State.dropControl, List.length_tail]
      omega }

/-- The taking of a control command, whose effect keeps what is to be kept. -/
theorem Completes.taking {run : List Byte → State → State × Answer} (code : Nat)
    (h : ∀ args t, Answers t (run args t)) : Completes s (taking code run s) := by
  unfold Machine.taking
  split
  · exact Completes.idle s
  · exact Completes.conclude (((Keeps.dropControl s).trans (h _ _).inside.toKeeps).frame)

/-! ### The Page Feed Link -/

/-- A line as a reset leaves it holds nothing. -/
theorem Line.bounded_reset (fitted resetAbort : Bool) : ({ fitted := fitted, resetAbort := resetAbort } : Line).Bounded :=
  ⟨Nat.zero_le _, Nat.zero_le _, Nat.zero_le _⟩

theorem Keeps.resetBlocks (s : State) (cycle : Nat) : Keeps s { s.resetBlocks with powerCycle := cycle } where
  control _ := Nat.zero_le _
  records _ := show 1 ≤ 256 by decide
  seq _ := show 0 < 65536 by decide
  buffer _ := Nat.zero_le _
  lines _ l := by
    simp only [State.line, State.resetBlocks, Vector.getElem_map]
    exact Line.bounded_reset _ _
  bins _ l := by
    simp only [State.line, State.resetBlocks, Vector.getElem_map]
    rfl
  mem _ := List.Pairwise.nil
  pending := rfl
  out := List.prefix_rfl

theorem Keeps.engineReset (s : State) : Keeps s s.engineReset where
  control _ := Nat.zero_le _
  records _ := show 1 ≤ 256 by decide
  seq _ := show 0 < 65536 by decide
  buffer _ := Nat.zero_le _
  lines _ l := by
    simp only [State.line, State.engineReset, Vector.getElem_map]
    exact Line.bounded_reset _ _
  bins _ l := by
    simp only [State.line, State.engineReset, Vector.getElem_map]
    rfl
  mem := s.memoryAfterReset_wf
  pending := rfl
  out := List.prefix_append _ _

theorem LinkPort.cutOff_controlQueue (k : LinkPort) : k.cutOff.controlQueue = k.controlQueue := by
  unfold LinkPort.cutOff
  split <;> rfl

theorem execLinkDown_completes (s : State) : Completes s (execLinkDown s) := by
  unfold execLinkDown
  split
  · exact ⟨_, rfl, (Keeps.refl s).frame (control := LinkPort.cutOff_controlQueue _), id⟩
  · exact Completes.idle s

theorem execLinkUp_completes (s : State) : Completes s (execLinkUp s) := by
  unfold execLinkUp
  split
  · exact Completes.idle s
  · exact Completes.conclude (Keeps.refl s).frame

theorem Keeps.controlArrives (h : Keeps s t) (f : RawFrame) : Keeps s (t.controlArrives f) := by
  unfold State.controlArrives
  split
  · rename_i room
    exact { h with control := fun _ => by rw [List.length_append, List.length_singleton]; exact room }
  · exact h

/-- What an arriving frame does: Band Intake is offered it, it joins the control queue, or it is discarded. -/
theorem State.frameArrives_cases (s : State) (f : RawFrame) :
    s.frameArrives f = (s.bandArrives f.body).finish ∨ s.frameArrives f = (s.controlArrives f).finish
      ∨ s.frameArrives f = s := by
  unfold State.frameArrives
  split
  · split
    · exact .inl rfl
    · split
      · exact .inr (.inl rfl)
      · exact .inr (.inr rfl)
  · exact .inr (.inr rfl)

theorem Keeps.frameArrives (h : Keeps s t) (f : RawFrame) : Keeps s (t.frameArrives f) := by
  rcases t.frameArrives_cases f with e | e | e <;> rw [e]
  · exact (h.trans ((Inside.refl t).bandArrives _).toKeeps).finish
  · exact (h.controlArrives f).finish
  · exact h

theorem State.frameArrives_quiet (s : State) (f : RawFrame) (h : s.Quiet) : (s.frameArrives f).Quiet := by
  rcases s.frameArrives_cases f with e | e | e <;> rw [e]
  · exact State.quiet_finish _
  · exact State.quiet_finish _
  · exact h

theorem receive_completes (s : State) (bytes : List Byte) : Completes s (.next (s.receive bytes)) := by
  refine ⟨_, rfl, ?_, fun h => ?_⟩ <;> unfold State.receive
  · exact List.foldlRecOn (motive := Keeps s) _ _ (Keeps.refl s).frame fun u hu f _ => hu.frameArrives f
  · exact List.foldlRecOn (motive := State.Quiet) _ _ h fun u hu f _ => u.frameArrives_quiet f hu

theorem execFrameArrival_completes (bytes : List Byte) (s : State) : Completes s (execFrameArrival bytes s) := by
  unfold execFrameArrival
  split
  · exact receive_completes s bytes
  · exact Completes.idle s

theorem execDamagedFrame_completes (bytes : List Byte) (s : State) : Completes s (execDamagedFrame bytes s) :=
  execFrameArrival_completes bytes s

theorem Keeps.emit (h : Keeps s t) (kind : Nat) (tag : BitVec 16) (body : List Byte) : Keeps s (t.emit kind tag body) :=
  { h with out := h.out.trans (List.prefix_append _ _) }

theorem Keeps.endTransmission (s : State) (t : Transmission) : Keeps s (s.endTransmission t) := by
  have ended : Keeps s { s with link := { s.link with tx := none } } := (Keeps.refl s).frame
  unfold State.endTransmission
  dsimp only
  split
  · exact ended.emit _ _ _
  · split
    · exact ended
    · exact ended.frame.emit _ _ _
  · split
    · exact ended
    · rename_i r rest hrecords
      refine Keeps.emit ?_ _ _ _
      exact { (Keeps.refl s).frame (u := { s with link := { s.link with tx := none, awaitingStart := false } }) with
        records := fun hs => by
          rw [hrecords, List.length_cons] at hs
          exact Nat.le_of_succ_le hs
        seq := fun _ => Nat.mod_lt _ (by decide) }

theorem execTransmissionEnd_completes (s : State) : Completes s (execTransmissionEnd s) := by
  unfold execTransmissionEnd
  split
  · exact Completes.idle s
  · exact Completes.conclude (Keeps.endTransmission s _)

theorem execBadFrame_completes (s : State) : Completes s (execBadFrame s) := by
  unfold execBadFrame
  split
  · exact Completes.idle s
  · split
    · exact Completes.idle s
    · exact Completes.conclude ((Keeps.dropControl s).frame)

theorem execEngineReset_completes (s : State) : Completes s (execEngineReset s) := by
  unfold execEngineReset
  split
  · exact Completes.idle s
  · exact Completes.conclude (Keeps.engineReset s)

/-! ### The completions and the timers -/

theorem execBandWriteCompletion_completes (s : State) : Completes s (execBandWriteCompletion s) := by
  unfold execBandWriteCompletion
  split
  · exact Completes.conclude ((Inside.refl s).writeLands _).beginHanding.writeHanded.toKeeps
  · exact Completes.idle s

theorem execBeginTimeout_completes (l : LineId) (s : State) : Completes s (execBeginTimeout l s) := by
  unfold execBeginTimeout
  split
  · exact Completes.idle s
  · split
    · exact Completes.conclude ((Inside.refl s).timeoutBegin l _).toKeeps
    · exact Completes.idle s

theorem execScanReadCompletion_completes (s : State) : Completes s (execScanReadCompletion s) := by
  unfold execScanReadCompletion
  split
  · exact Completes.conclude ((Inside.refl s).readCompletes _).toKeeps
  · exact Completes.idle s

theorem execDeadlineExpiry_completes (l : LineId) (p : Slot) (s : State) : Completes s (execDeadlineExpiry l p s) := by
  unfold execDeadlineExpiry
  split
  · exact Completes.idle s
  · exact Completes.conclude ((Inside.refl s).faultLine l _ _).toKeeps

end

/-- The replying commands complete, whatever their answer. -/
theorem replying_completes (c : Instr) (code : Byte) (s : State) (h : (c, code) ∈ replyingCommands) :
    Completes s (exec c s) := by
  obtain ⟨run, hexec, hanswers⟩ := replyingCommands_answer _ h
  rw [hexec]
  exact Completes.taking _ hanswers

/-- Every command, in every state, completes. -/
theorem exec_completes (c : Instr) (s : State) : Completes s (exec c s) := by
  have h := Inside.refl s
  cases c with
  | engineInfo => exact replying_completes _ 0x02 s (by decide)
  | releasePage => exact replying_completes _ 0x10 s (by decide)
  | discardPage => exact replying_completes _ 0x11 s (by decide)
  | queryPage => exact replying_completes _ 0x12 s (by decide)
  | loadPlate => exact replying_completes _ 0x20 s (by decide)
  | dropPlate => exact replying_completes _ 0x21 s (by decide)
  | remakePlate => exact replying_completes _ 0x22 s (by decide)
  | queryPlate => exact replying_completes _ 0x23 s (by decide)
  | lineConfig => exact replying_completes _ 0x30 s (by decide)
  | lineStart => exact replying_completes _ 0x31 s (by decide)
  | linePause => exact replying_completes _ 0x32 s (by decide)
  | lineDrain => exact replying_completes _ 0x33 s (by decide)
  | lineReset => exact replying_completes _ 0x34 s (by decide)
  | lineClearFault => exact replying_completes _ 0x35 s (by decide)
  | queryLine => exact replying_completes _ 0x36 s (by decide)
  | loadProfile => exact replying_completes _ 0x40 s (by decide)
  | binOpen => exact replying_completes _ 0x50 s (by decide)
  | binClose => exact replying_completes _ 0x51 s (by decide)
  | powerOn => exact Completes.conclude (Keeps.resetBlocks s _)
  | linkDown => exact execLinkDown_completes s
  | linkUp => exact execLinkUp_completes s
  | transmissionEnd => exact execTransmissionEnd_completes s
  | badFrame => exact execBadFrame_completes s
  | engineReset => exact execEngineReset_completes s
  | bandWriteCompletion => exact execBandWriteCompletion_completes s
  | scanReadCompletion => exact execScanReadCompletion_completes s
  | frameArrival bytes => exact execFrameArrival_completes bytes s
  | damagedFrame bytes => exact execDamagedFrame_completes bytes s
  | beginTimeout l => exact execBeginTimeout_completes l s
  | deadlineExpiry l p => exact execDeadlineExpiry_completes l p s
  | beginAccept l =>
    unfold exec execBeginAccept
    exact Completes.onLine l (h.takeAccept l)
  | beginRefuse l cause =>
    unfold exec execBeginRefuse
    exact Completes.onLine l (h.takeRefuse l)
  | beginRefuseLocal l =>
    unfold exec execBeginRefuseLocal
    exact Completes.onLine l (h.takeRefuseLocal l)
  | lineRequest l =>
    unfold exec execLineRequest
    exact Completes.onLine l (h.takeLineRequest l)
  | exposeEnd l cause =>
    unfold exec execExposeEnd
    exact Completes.onLine l (h.takeEnd l cause)
  | exposeEndFault l =>
    unfold exec execExposeEndFault
    exact Completes.onLine l (h.takeEndFault l)
  | unitStatusReport l ready stock unitLocal =>
    unfold exec execUnitStatusReport
    exact Completes.onLine l (h.takeStatus l ready stock unitLocal)
  | pbArrival l mark =>
    unfold exec execPbArrival
    exact Completes.onLine l (h.takeArrival l mark)
  | pbSetupDone l =>
    unfold exec execPbSetupDone
    exact Completes.onLine l (h.takeSetupDone l)
  | pbDone l =>
    unfold exec execPbDone
    exact Completes.onLine l (h.takeDone l)
  | pbFault l =>
    unfold exec execPbFault
    exact Completes.onLine l (h.takePunchFault l)
  | soArrival l =>
    unfold exec execSoArrival
    exact Completes.onLine l (h.takeSorterArrival l)
  | soStacked l bin =>
    unfold exec execSoStacked
    exact Completes.onLine l (h.takeStacked l bin)
  | soBinEmptied l bin =>
    unfold exec execSoBinEmptied
    exact Completes.onLine l (h.takeEmptied l bin)
  | soFault l =>
    unfold exec execSoFault
    exact Completes.onLine l (h.faultLine l _ _)

/-- Settles O2: every command answers a next state that keeps the waiting commands and what has been sent. -/
theorem everyCommandCompletes : Obligations.EveryCommandCompletes := by
  intro c s
  obtain ⟨t, hexec, hkeeps, -⟩ := exec_completes c s
  exact ⟨t, hexec, hkeeps.pending, hkeeps.out⟩

/-- A step completes, on the state with the queue's rest. -/
theorem step_keeps (s t : State) (h : step s = .next t) :
    Keeps { s with pending := t.pending } t ∧ (s.Quiet → t.Quiet) := by
  unfold step at h
  split at h
  · cases h
    exact ⟨Keeps.refl s, id⟩
  · rename_i c rest _
    obtain ⟨t', hexec, hkeeps, hquiet⟩ := exec_completes c { s with pending := rest }
    rw [hexec] at h
    cases h
    rw [hkeeps.pending]
    exact ⟨hkeeps, hquiet⟩

/-- Settles O56: every step keeps the capacities, the open reject bins, the canonical form of plate memory, and leaves the
engine between two commands. -/
theorem capacitiesAreKept : Obligations.CapacitiesAreKept := by
  intro s t h
  obtain ⟨hkeeps, hquiet⟩ := step_keeps s t h
  refine ⟨?_, hkeeps.lines, hkeeps.bins, hkeeps.mem, hquiet⟩
  rintro ⟨hcontrol, hrecords, hseq, hbuffer⟩
  exact ⟨hkeeps.control hcontrol, hkeeps.records hrecords, hkeeps.seq hseq, hkeeps.buffer hbuffer⟩

end Sys2Proof.Machine
end

section
/-! SUPPORT. The fields of frames and replies read back from their bytes: a field written by `u8`, `u16`, `u32`, `s16` or
`flag` is read as its value where it stands, and repeated parts of one length stand at the multiples of that length. -/

namespace Sys2Proof.Machine

set_option Elab.async false

/-! ### One field -/

theorem toNat_byte (n : Nat) : (BitVec.ofNat 8 n).toNat = n % 256 := BitVec.toNat_ofNat n 8

theorem toNat_byte_of_lt {n : Nat} (h : n < 256) : (BitVec.ofNat 8 n).toNat = n := by
  rw [toNat_byte, Nat.mod_eq_of_lt h]

/-- The two bytes of a field, low byte first. -/
theorem toNat_word (n : Nat) :
    (BitVec.ofNat 8 n).toNat + 256 * (BitVec.ofNat 8 (n / 256)).toNat = n % 65536 := by
  rw [toNat_byte, toNat_byte]
  omega

theorem toNat_word_of_lt {n : Nat} (h : n < 65536) :
    (BitVec.ofNat 8 n).toNat + 256 * (BitVec.ofNat 8 (n / 256)).toNat = n := by
  rw [toNat_word, Nat.mod_eq_of_lt h]

/-- The four bytes of a field, low byte first. -/
theorem toNat_long_of_lt {n : Nat} (h : n < 4294967296) :
    ((BitVec.ofNat 8 n).toNat + 256 * (BitVec.ofNat 8 (n / 256)).toNat)
      + 65536 * ((BitVec.ofNat 8 (n / 65536)).toNat + 256 * (BitVec.ofNat 8 (n / 65536 / 256)).toNat) = n := by
  rw [toNat_word, toNat_word]
  omega

/-- A signed field, two's complement. -/
theorem toNat_signed (n : Int) : (((BitVec.ofNat 8 (n % 65536).toNat).toNat
    + 256 * (BitVec.ofNat 8 ((n % 65536).toNat / 256)).toNat : Nat) : Int) = n % 65536 := by
  rw [toNat_word]
  omega

/-- A flag byte. -/
theorem toNat_flag (b : Bool) : (if b then 1 else 0 : Byte).toNat = b.toNat := by cases b <;> rfl

/-! ### Where a field stands -/

theorem byteAt_drop (bs : List Byte) (n i : Nat) : byteAt (bs.drop n) i = byteAt bs (n + i) := by
  simp [byteAt, List.getD_eq_getElem?_getD]

theorem u16At_drop (bs : List Byte) (n i : Nat) : u16At (bs.drop n) i = u16At bs (n + i) := by
  rw [u16At, u16At, byteAt_drop, byteAt_drop, Nat.add_assoc]

/-- The bytes from an offset on, read at their own offsets. -/
theorem byteAt_of_drop {bs part : List Byte} {m n : Nat} (h : bs.drop (m + n) = part) (j : Nat) :
    byteAt bs (m + j + n) = byteAt part j := by
  rw [← h, byteAt_drop, Nat.add_right_comm]

theorem u16At_of_drop {bs part : List Byte} {m n : Nat} (h : bs.drop (m + n) = part) (j : Nat) :
    u16At bs (m + j + n) = u16At part j := by
  rw [← h, u16At_drop, Nat.add_right_comm]

/-- Parts of one length stand at its multiples. -/
theorem drop_flatMap_of_length {α : Type} {f : α → List Byte} {k : Nat} (hk : ∀ a, (f a).length = k)
    {as : List α} {i : Nat} {a : α} (h : as[i]? = some a) :
    (as.flatMap f).drop (k * i) = f a ++ (as.drop (i + 1)).flatMap f := by
  induction as generalizing i with
  | nil => simp at h
  | cons b as ih =>
    cases i with
    | zero =>
      obtain rfl := Option.some.inj h
      rfl
    | succ i =>
      rw [List.getElem?_cons_succ] at h
      rw [List.flatMap_cons, Nat.mul_succ, Nat.add_comm, ← hk b, List.drop_length_add_append, hk b, ih h]
      rfl

theorem length_flatMap_of_length {α : Type} {f : α → List Byte} {k : Nat} (hk : ∀ a, (f a).length = k) (as : List α) :
    (as.flatMap f).length = k * as.length := by
  simp [List.length_flatMap, hk, Nat.mul_comm]

end Sys2Proof.Machine
end

section
/-! SUPPORT. The statements about the link signal, the transmitter and the Report Queue (spec 01). -/

namespace Sys2Proof.Machine

set_option Elab.async false

/-! ### The Report Queue (R12) -/

/-- Reports offered in order to a queue that is not over its capacity: those there is room for enter, the first with the
gap flag as its mark. -/
theorem ReportQueue.foldl_offer (r : Report) (rs : List Report) (q : ReportQueue) (h : q.records.length ≤ 256) :
    (r :: rs).foldl ReportQueue.offer q =
      { q with
        records := q.records ++ (({ r with gap := q.gapFlag } :: rs.map fun x => { x with gap := false }).take
          (256 - q.records.length))
        gapFlag := decide (256 < q.records.length + (rs.length + 1)) } := by
  induction rs generalizing r q with
  | nil =>
    by_cases room : q.records.length < 256
    · obtain ⟨n, hn⟩ : ∃ n, 256 - q.records.length = n + 1 := ⟨255 - q.records.length, by omega⟩
      simp [ReportQueue.offer_of_room q r room, hn]
      omega
    · simp [ReportQueue.offer_of_full q r room, show 256 - q.records.length = 0 by omega]
      omega
  | cons x rs ih =>
    rw [List.foldl_cons]
    by_cases room : q.records.length < 256
    · obtain ⟨n, hn⟩ : ∃ n, 256 - q.records.length = n + 1 := ⟨255 - q.records.length, by omega⟩
      rw [ReportQueue.offer_of_room q r room, ih _ _ (by simpa using room)]
      simp [hn, show 256 - (q.records.length + 1) = n by omega]
      omega
    · rw [ReportQueue.offer_of_full q r room, ih x { q with gapFlag := true } h]
      simp [show 256 - q.records.length = 0 by omega]
      omega

/-- Settles O10, by induction on the reports offered. -/
theorem reportsEnterInOrder : Obligations.ReportsEnterInOrder := by
  refine ⟨fun s r rs h => ?_, rfl⟩
  rw [State.reportAll_eq, ReportQueue.foldl_offer r rs s.reports h]

/-! ### The link signal (R11) -/

/-- Settles O7: both commands in both signal states. -/
theorem linkSignalObeyed : Obligations.LinkSignalObeyed := by
  intro s
  refine ⟨fun up => ?_, fun down => ?_, fun down => ?_, fun up => ?_⟩
  · show execLinkDown s = _
    rw [execLinkDown, if_pos up, LinkPort.cutOff]
    rcases s.link.tx with _ | _ | _ | _ <;> rfl
  · show execLinkDown s = _
    simp [execLinkDown, down]
  · show execLinkUp s = _
    simp [execLinkUp, down, conclude]
  · show execLinkUp s = _
    simp [execLinkUp, up]

/-! ### The transmitter (R5, R10, R13) -/

/-- The intake condition by the bands in the buffer (R5). -/
theorem State.condition_eq (s : State) : s.condition = if s.intake.buffer.length < 3 then .go else .hold := by
  show (if 4 - s.intake.buffer.length < 2 then Pace.hold else Pace.go) = _
  by_cases h : s.intake.buffer.length < 3
  · rw [if_pos h, if_neg (by omega)]
  · rw [if_neg h, if_pos (by omega)]

/-- The presence byte, bit by bit. -/
theorem Report.presence_eq_bits (r : Report) :
    r.presence = Nat.bit r.line.isSome (Nat.bit r.slot.isSome (Nat.bit r.key.isSome (Nat.bit r.version.isSome
      (Nat.bit r.oldVersion.isSome (Nat.bit r.pass.isSome (Nat.bit r.bin.isSome (Nat.bit r.cause.isSome 0))))))) := by
  simp only [Report.presence, Nat.bit_val]
  omega

/-- A bit of the presence byte says whether its field is there. -/
theorem Report.testBit_presence (r : Report) (i : Nat) (hi : i < 8) :
    r.presence.testBit i = [r.line.isSome, r.slot.isSome, r.key.isSome, r.version.isSome, r.oldVersion.isSome,
      r.pass.isSome, r.bin.isSome, r.cause.isSome].getD i false := by
  rw [Report.presence_eq_bits]
  interval_cases i <;> simp [Nat.testBit_bit_succ]

theorem ReportKind.code_lt (k : ReportKind) : k.code < 256 := by cases k <;> decide

theorem LineMode.code_lt (m : LineMode) : m.code < 256 := by cases m <;> decide

theorem Cause.code_lt (c : Cause) : c.code < 256 := by
  cases c with
  | lineState m => exact m.code_lt
  | _ => decide

/-- A field that may be absent is within its range when its values and 0 are. -/
theorem getD_map_lt {α : Type} {o : Option α} {f : α → Nat} {n : Nat} (hf : ∀ a, f a < n) (hn : 0 < n) :
    (o.map f).getD 0 < n := by
  cases o with
  | none => exact hn
  | some a => exact hf a

/-- Each field of a report record stands at its offset (section 1.7). -/
theorem Report.encode_layout (r : Report) :
    let d := r.encode
    d.length = 15 ∧ byteAt d 0 = r.kind.code ∧ byteAt d 1 = r.gap.toNat
    ∧ (∀ i < 8, (d.getD 2 0).getLsbD i = [r.line.isSome, r.slot.isSome, r.key.isSome, r.version.isSome,
      r.oldVersion.isSome, r.pass.isSome, r.bin.isSome, r.cause.isSome].getD i false)
    ∧ byteAt d 3 = (r.line.map Fin.val).getD 0 ∧ u16At d 4 = (r.slot.map Fin.val).getD 0
    ∧ d.getD 6 0 = (r.key.map Prod.fst).getD 0 ∧ d.getD 7 0 = (r.key.map Prod.snd).getD 0
    ∧ u16At d 8 = r.version.getD 0 % 65536 ∧ u16At d 10 = r.oldVersion.getD 0 % 65536
    ∧ byteAt d 12 = r.pass.getD 0 % 256 ∧ byteAt d 13 = (r.bin.map Fin.val).getD 0
    ∧ byteAt d 14 = (r.cause.map Cause.code).getD 0 := by
  unfold Report.encode
  simp only [u8, u16, flag, List.cons_append, List.nil_append]
  refine ⟨rfl, toNat_byte_of_lt r.kind.code_lt, toNat_flag r.gap, fun i hi => ?_, toNat_byte_of_lt ?_,
    toNat_word_of_lt ?_, rfl, rfl, toNat_word _, toNat_word _, toNat_byte _, toNat_byte_of_lt ?_, toNat_byte_of_lt ?_⟩
  · rw [← r.testBit_presence i hi]
    show (BitVec.ofNat 8 r.presence).getLsbD i = _
    rw [BitVec.getLsbD_ofNat, decide_eq_true hi, Bool.true_and]
  · exact getD_map_lt (fun l => l.isLt.trans (by decide)) (by decide)
  · exact getD_map_lt (fun p => p.isLt.trans (by decide)) (by decide)
  · exact getD_map_lt (fun b => b.isLt.trans (by decide)) (by decide)
  · exact getD_map_lt Cause.code_lt (by decide)

/-- Settles O8: the transmitter's choice branch by branch, the end of each kind of frame, and the record's layout. -/
theorem framesAreTransmitted : Obligations.FramesAreTransmitted := by
  refine ⟨fun s => ⟨fun busy => ?_, fun up free => ?_, s.condition_eq⟩, fun s => ⟨?_, ?_, ?_, ?_⟩,
    Report.encode_layout, rfl, rfl, fun _ => rfl, rfl, rfl⟩
  · refine if_neg fun h => ?_
    rcases busy with down | sending
    · simp [down] at h
    · exact sending h.2
  · refine ⟨fun start records => ?_, fun started pace => ?_, fun started pace reply => ?_,
      fun started pace reply records => ?_, fun started pace reply records => ?_⟩ <;>
      rw [State.transmit, if_pos ⟨up, free⟩]
    · rw [if_pos start, if_neg records]
    · rw [started, if_neg Bool.false_ne_true, if_pos pace]
    · rw [started, if_neg Bool.false_ne_true, if_neg (not_not.mpr pace), if_pos reply]
    · rw [started, if_neg Bool.false_ne_true, if_neg (not_not.mpr pace), if_neg (not_not.mpr reply), if_pos records]
    · rw [started, if_neg Bool.false_ne_true, if_neg (not_not.mpr pace), if_neg (not_not.mpr reply),
        if_neg (not_not.mpr records)]
  · intro carried before tx
    show execTransmissionEnd s = _
    cases carried <;> simp [execTransmissionEnd, tx, State.endTransmission, conclude, State.emit, Pace.encode]
  · intro r tx reply
    show execTransmissionEnd s = _
    simp [execTransmissionEnd, tx, State.endTransmission, reply, conclude, State.emit, Reply.encode]
  · intro r rest tx records
    refine ⟨rfl, ?_⟩
    show execTransmissionEnd s = _
    simp [execTransmissionEnd, tx, State.endTransmission, records, conclude, State.emit]
  · intro tx
    show execTransmissionEnd s = _
    simp [execTransmissionEnd, tx]

end Sys2Proof.Machine
end

section
/-! SUPPORT. The statements about the state after reset and the two commands that restore it (R14). -/

namespace Sys2Proof.Machine

set_option Elab.async false

/-! ### The reset state -/

theorem State.reset_quiet : State.reset.Quiet := ⟨rfl, rfl⟩

theorem State.reset_linkBounded : State.reset.LinkBounded :=
  ⟨Nat.zero_le _, show 1 ≤ 256 by decide, show 0 < 65536 by decide, Nat.zero_le _⟩

theorem State.reset_linesBounded : State.reset.LinesBounded := fun l => by
  rw [State.reset_line]
  exact ⟨Nat.zero_le _, Nat.zero_le _, Nat.zero_le _⟩

theorem State.reset_linesConsistent : State.reset.LinesConsistent := fun l => by
  rw [State.reset_line]
  exact ⟨by simp, fun _ => rfl, fun _ => rfl, nofun, nofun⟩

theorem State.reset_rejectBinsOpen : State.reset.RejectBinsOpen := fun l => by
  rw [State.reset_line]
  rfl

/-- After reset every strip is in the free list, in ascending order (R43). -/
theorem State.reset_stripsConserved : State.reset.store.StripsConserved := by
  have held : State.reset.store.table.toList.flatMap Descriptor.strips = [] := by
    rw [List.flatMap_eq_nil_iff]
    intro d hd
    obtain ⟨-, rfl⟩ := Vector.mem_replicate.mp (Vector.mem_toList_iff.mp hd)
    rfl
  rw [RasterStore.StripsConserved, held, List.append_nil, List.range_eq_range']
  exact List.Perm.refl _

theorem State.reset_storeSound : State.reset.StoreSound :=
  ⟨State.reset_stripsConserved, fun d _ => by simp, fun k d h => by simp at h⟩

theorem State.reset_placed : State.reset.Placed where
  ready p := by simp [show State.reset.ready = [] from rfl]
  readyOnce := List.nodup_nil
  classes := rfl
  queued p l := by simp
  queuedOnce l := by simp
  exposing p l := by simp
  exposed p l := by simp
  exposedOnce l := by simp
  onLine p := by simp [PlateState.inFlight]

/-- After reset no record is in a demanding state, so no key is referenced. -/
theorem State.reset_demandExact : State.reset.DemandExact := fun k => by
  have none_demands : ∀ p : Slot, (State.reset.plate p).demandKeys.count k = 0 := fun p => by
    rw [State.reset_plate]
    rfl
  rw [State.references, State.reset_page]
  refine (List.sum_eq_zero fun n hn => ?_).symm
  obtain ⟨p, -, rfl⟩ := List.mem_map.mp hn
  exact none_demands p

theorem State.reset_coherent : State.reset.Coherent where
  placed := State.reset_placed
  demand := State.reset_demandExact
  head h := absurd rfl h
  writing b rest h := by cases h
  versions k := by simp
  complete p h := by simp at h
  unanswered l c h := by simp at h
  answered l c h := by simp at h
  exposing p h := by simp at h
  exposed p h := by simp at h
  delivered p h := by simp at h

theorem State.reset_holdsSound : State.reset.HoldsSound where
  fit d := by simp [Descriptor.HoldsFit]
  counted d := by simp
  once l c h := by simp at h
  held l c h := by simp at h
  reads l c h := by simp at h
  rasters k := by simp
  versions k d h := by simp at h

theorem State.reset_settled : State.reset.Settled where
  quiet := State.reset_quiet
  placed p h := by cases h
  started l := by simp [Line.startReady]

/-- Settles O4: the invariants of the reset state, block by block. -/
theorem resetStateIsSound : Obligations.ResetStateIsSound :=
  ⟨State.reset_quiet, State.reset_linkBounded, State.reset_linesBounded, State.reset_linesConsistent,
    State.reset_rejectBinsOpen, Memory.reset_wf, State.reset_storeSound, State.reset_coherent, State.reset_holdsSound,
    State.reset_settled⟩

/-! ### POWER_ON and ENGINE_RESET -/

/-- With the blocks at their reset values the transmitter begins the REPORT ENGINE_STARTED when the link is up (R14). -/
theorem State.finish_of_started (s : State) (quiet : s.Quiet) (records : s.reports.records ≠ [])
    (link : s.link = { State.reset.link with up := s.link.up }) :
    s.finish = { s with link := { s.link with tx := if s.link.up then some .report else none } } := by
  have free : s.link.tx = none := by rw [link]; rfl
  have start : s.link.awaitingStart = true := by rw [link]; rfl
  rw [State.finish_quiet s quiet, State.transmit]
  by_cases up : s.link.up = true
  · rw [if_pos ⟨up, free⟩, if_pos start, if_neg records, if_pos up]
  · rw [if_neg fun h => up h.1, if_neg up, ← free]

/-- What a reset leaves of a write in service: at each address a byte of the write, or what was there (R55). -/
theorem Memory.read?_foldl_write (lands : Nat → Bool) (x : Nat) (vs : List Byte) (is : List Nat)
    (his : ∀ i ∈ is, i < vs.length) (m : Memory) (h : m.wf) (a : Nat) :
    (x ≤ a ∧ a < x + vs.length
      ∧ Memory.read? (is.foldl (fun m i => if lands i then m.write (x + i) (vs.getD i 0) else m) m) a = vs[a - x]?)
    ∨ Memory.read? (is.foldl (fun m i => if lands i then m.write (x + i) (vs.getD i 0) else m) m) a = m.read? a := by
  induction is generalizing m with
  | nil => exact .inr rfl
  | cons i is ih =>
    obtain ⟨hi, his⟩ := List.forall_mem_cons.mp his
    rw [List.foldl_cons]
    by_cases hl : lands i
    · rw [if_pos hl]
      rcases ih his _ (Memory.write_wf m _ _ h) with hw | hw
      · exact .inl hw
      · rw [hw, Memory.read?_write m _ _ _ h]
        by_cases ha : a = x + i
        · subst ha
          refine .inl ⟨by omega, by omega, ?_⟩
          rw [if_pos rfl, Nat.add_sub_cancel_left, List.getElem?_eq_getElem hi, List.getD_eq_getElem _ _ hi]
        · exact .inr (if_neg ha)
    · rw [if_neg hl]
      exact ih his m h

theorem State.memoryAfterReset_of_write (s : State) (w : BandWrite) (h : s.store.inService = some (.write w)) :
    s.memoryAfterReset = (List.range w.bytes.length).foldl
      (fun m i => if Config.resetWriteLands s.resetDraws i then m.write (w.addr + i) (w.bytes.getD i 0) else m)
      s.store.mem := by
  simp [State.memoryAfterReset, h]

theorem State.memoryAfterReset_of_no_write (s : State) (h : ∀ w : BandWrite, s.store.inService ≠ some (.write w)) :
    s.memoryAfterReset = s.store.mem := by
  unfold State.memoryAfterReset
  split
  · rename_i w hw
    exact absurd hw (h w)
  · rfl

/-- Settles O5: both resets write the reset values, and the first frame is begun where the link is up. -/
theorem resetsRestoreTheEngine : Obligations.ResetsRestoreTheEngine := by
  refine ⟨fun s => ?_, fun s f offers => ⟨?_, fun w hw wf a => ?_, s.memoryAfterReset_of_no_write⟩⟩
  · exact congrArg Host.Outcome.next
      (State.finish_of_started { s.resetBlocks with powerCycle := s.powerCycle + 1 } ⟨rfl, rfl⟩ (List.cons_ne_nil _ _) rfl)
  · have shape : commandOf f.body ≠ none := by
      rw [offers.body]
      decide
    have head : s.argsOf 0x01 = some (f, []) := State.argsOf_of_offers offers shape
    show execEngineReset s = _
    rw [execEngineReset, head]
    exact congrArg Host.Outcome.next
      (State.finish_of_started s.engineReset ⟨rfl, rfl⟩ (List.cons_ne_nil _ _) rfl)
  · rw [s.memoryAfterReset_of_write w hw]
    exact Memory.read?_foldl_write _ _ _ _ (fun i hi => List.mem_range.mp hi) _ wf a

end Sys2Proof.Machine
end

section
/-! SUPPORT. The receive parser reads a frame as it was sent (R1, R2), and a BAND body is read as its band (R4). -/

namespace Sys2Proof.Machine

set_option Elab.async false

/-! ### The parser, state by state (R1) -/

theorem Parser.run_append (xs ys : List Byte) (p : Parser) :
    p.run (xs ++ ys) = (((p.run xs).1.run ys).1, (p.run xs).2 ++ ((p.run xs).1.run ys).2) := by
  induction xs generalizing p with
  | nil => rfl
  | cons x xs ih => simp [Parser.run, ih]

/-- The two delimiter bytes lead from HUNT to the header, whatever byte came before them. -/
theorem Parser.run_delimiter (half : Bool) : (Parser.hunt half).run [0x7B, 0xD4] = (.header [], []) := by
  cases half <;> decide

/-- Where the parser goes when it has the whole header. -/
def Parser.afterHeader (header : List Byte) : Parser :=
  if Config.maxBody < bodyLength header then .hunt false
  else if bodyLength header = 0 then .check header [] []
  else .body header []

/-- The last bytes of a header. -/
theorem Parser.run_header (bs got : List Byte) (h : got.length + bs.length = 7) (hbs : bs ≠ []) :
    (Parser.header got).run bs = (Parser.afterHeader (got ++ bs), []) := by
  induction bs generalizing got with
  | nil => exact absurd rfl hbs
  | cons b bs ih =>
    rw [List.length_cons] at h
    cases bs with
    | nil =>
      have whole : ¬ got.length + 1 < 7 := by simp at h; omega
      simp only [Parser.run, Parser.feed, if_neg whole, Parser.afterHeader]
      split
      · rfl
      · split <;> rfl
    | cons b' bs =>
      have more : got.length + 1 < 7 := by simp at h; omega
      rw [Parser.run]
      simp only [Parser.feed, if_pos more]
      rw [ih (got ++ [b]) (by simp at h ⊢; omega) (List.cons_ne_nil _ _)]
      simp

/-- The last bytes of a body. -/
theorem Parser.run_body (bs header got : List Byte) (h : got.length + bs.length = bodyLength header) (hbs : bs ≠ []) :
    (Parser.body header got).run bs = (.check header (got ++ bs) [], []) := by
  induction bs generalizing got with
  | nil => exact absurd rfl hbs
  | cons b bs ih =>
    rw [List.length_cons] at h
    cases bs with
    | nil =>
      have whole : ¬ got.length + 1 < bodyLength header := by simp at h; omega
      simp [Parser.run, Parser.feed, if_neg whole]
    | cons b' bs =>
      have more : got.length + 1 < bodyLength header := by simp at h; omega
      rw [Parser.run]
      simp only [Parser.feed, if_pos more]
      rw [ih (got ++ [b]) (by simp at h ⊢; omega) (List.cons_ne_nil _ _)]
      simp

/-- Up to three check bytes are collected. -/
theorem Parser.run_check_short (bs header body got : List Byte) (h : got.length + bs.length < 4) :
    (Parser.check header body got).run bs = (.check header body (got ++ bs), []) := by
  induction bs generalizing got with
  | nil => simp [Parser.run]
  | cons b bs ih =>
    rw [List.length_cons] at h
    have more : got.length + 1 < 4 := by omega
    rw [Parser.run]
    simp only [Parser.feed, if_pos more]
    rw [ih (got ++ [b]) (by simp; omega)]
    simp

/-- The fourth check byte delivers the frame. -/
theorem Parser.run_check (header body check : List Byte) (h : check.length = 4) :
    (Parser.check header body []).run check = (.hunt false, [{ header := header, body := body, check := check }]) := by
  obtain ⟨c0, c1, c2, c3, rfl⟩ : ∃ c0 c1 c2 c3, check = [c0, c1, c2, c3] := by
    match check, h with
    | [c0, c1, c2, c3], _ => exact ⟨c0, c1, c2, c3, rfl⟩
  rfl

/-- A delimiter, a header and the body that the header announces lead from HUNT to the check bytes. -/
theorem Parser.run_to_check (half : Bool) (header body : List Byte) (hheader : header.length = 7)
    (hlength : bodyLength header = body.length) (hbody : body.length ≤ Config.maxBody) :
    (Parser.hunt half).run ([0x7B, 0xD4] ++ (header ++ body)) = (.check header body [], []) := by
  have hne : header ≠ [] := by rintro rfl; cases hheader
  rw [Parser.run_append, Parser.run_delimiter, Parser.run_append, Parser.run_header header [] (by simpa using hheader) hne,
    List.nil_append, Parser.afterHeader, if_neg (by omega), hlength]
  cases body with
  | nil => rfl
  | cons b bs =>
    rw [if_neg (by simp), Parser.run_body (b :: bs) header [] (by rw [hlength]; simp) (List.cons_ne_nil _ _)]
    rfl

/-! ### Whole frames (R1, R2) -/

/-- The seven header bytes of a frame: kind, tag, body length. -/
def headerBytes (kind : Nat) (tag : BitVec 16) (n : Nat) : List Byte := u8 kind ++ u16 tag.toNat ++ u32 n

theorem coveredBytes_eq (kind : Nat) (tag : BitVec 16) (body : List Byte) :
    coveredBytes kind tag body = headerBytes kind tag body.length ++ body := rfl

theorem bodyLength_headerBytes (kind : Nat) (tag : BitVec 16) {n : Nat} (h : n ≤ Config.maxBody) :
    bodyLength (headerBytes kind tag n) = n :=
  toNat_long_of_lt (lt_of_le_of_lt h (by decide))

theorem u32At_u32 (c : CheckWord) : u32At (u32 c.toNat) 0 = c.toNat := toNat_long_of_lt c.isLt

/-- The frame that the parser delivers for the bytes sent. -/
def sentFrame (kind : Nat) (tag : BitVec 16) (body : List Byte) (c : CheckWord) : RawFrame :=
  { header := headerBytes kind tag body.length, body := body, check := u32 c.toNat }

theorem sentFrame_kind {kind : Nat} (tag : BitVec 16) (body : List Byte) (c : CheckWord) (h : kind < 256) :
    (sentFrame kind tag body c).kind = kind := toNat_byte_of_lt h

theorem sentFrame_tag (kind : Nat) (tag : BitVec 16) (body : List Byte) (c : CheckWord) :
    (sentFrame kind tag body c).tag = tag := by
  show BitVec.ofNat 16 ((BitVec.ofNat 8 tag.toNat).toNat + 256 * (BitVec.ofNat 8 (tag.toNat / 256)).toNat) = tag
  rw [toNat_word_of_lt tag.isLt, BitVec.ofNat_toNat, BitVec.setWidth_eq]

/-- A frame passes its check exactly when its check bytes are those of its header and body. -/
theorem sentFrame_passes (kind : Nat) (tag : BitVec 16) (body : List Byte) (c : CheckWord) :
    (sentFrame kind tag body c).passes = true ↔ c = checkOf (coveredBytes kind tag body) := by
  rw [RawFrame.passes, beq_iff_eq]
  show BitVec.ofNat 32 (u32At (u32 c.toNat) 0) = _ ↔ _
  rw [u32At_u32, BitVec.ofNat_toNat, BitVec.setWidth_eq]
  rfl

/-- From HUNT the bytes sent deliver one frame, and leave the parser in HUNT. -/
theorem Parser.run_sent (half : Bool) (kind : Nat) (tag : BitVec 16) {body : List Byte} (c : CheckWord)
    (h : body.length ≤ Config.maxBody) :
    (Parser.hunt half).run ([0x7B, 0xD4] ++ coveredBytes kind tag body ++ u32 c.toNat) =
      (.hunt false, [sentFrame kind tag body c]) := by
  rw [Parser.run_append, coveredBytes_eq, Parser.run_to_check half _ _ rfl (bodyLength_headerBytes kind tag h) h,
    Parser.run_check _ _ _ rfl]
  rfl

/-- Before its last byte a frame is not delivered. -/
theorem Parser.run_sent_dropLast (half : Bool) (kind : Nat) (tag : BitVec 16) {body : List Byte}
    (h : body.length ≤ Config.maxBody) : ((Parser.hunt half).run (frameBytes kind tag body).dropLast).2 = [] := by
  have hne : ∀ n, u32 n ≠ [] := fun n => List.cons_ne_nil _ _
  have hshort : ∀ n, ([] : List Byte).length + (u32 n).dropLast.length < 4 := fun _ => (by decide : 3 < 4)
  rw [frameBytes, List.dropLast_append_of_ne_nil (hne _), Parser.run_append, coveredBytes_eq,
    Parser.run_to_check half _ _ rfl (bodyLength_headerBytes kind tag h) h, Parser.run_check_short _ _ _ _ (hshort _)]
  rfl

/-- A header that announces a body above the greatest length is discarded (R1). -/
theorem Parser.run_damaged (half : Bool) (header : List Byte) (hheader : header.length = 7)
    (h : Config.maxBody < bodyLength header) : (Parser.hunt half).run ([0x7B, 0xD4] ++ header) = (.hunt false, []) := by
  have hne : header ≠ [] := by rintro rfl; cases hheader
  rw [Parser.run_append, Parser.run_delimiter, Parser.run_header header [] (by simpa using hheader) hne,
    List.nil_append, Parser.afterHeader, if_pos h]
  rfl

/-! ### BAND bodies (R4) -/

/-- A band's fields laid out as the BAND body of section 1.7: 14 bytes, with the last mark the page check, and the
payload. -/
def bandBody (b : Band) : List Byte :=
  u8 b.page.val ++ u8 b.sep.val ++ u16 b.version ++ u16 b.index ++ flag b.last ++ u8 b.rows ++ u16 b.firstRow
    ++ u16 b.width ++ u16 b.height ++ (if b.last then u32 b.check.toNat else []) ++ b.payload

theorem bandHeaderLength_bandBody (b : Band) : bandHeaderLength (bandBody b) = if b.last then 18 else 14 := by
  have mark : byteAt (bandBody b) 6 = b.last.toNat := toNat_flag b.last
  rw [bandHeaderLength, mark]
  cases b.last <;> rfl

theorem length_bandBody (b : Band) :
    (bandBody b).length = bandHeaderLength (bandBody b) + b.payload.length := by
  rw [bandHeaderLength_bandBody]
  cases h : b.last <;> simp [bandBody, h, u8, u16, u32, flag] <;> omega

theorem drop_bandBody (b : Band) : (bandBody b).drop (bandHeaderLength (bandBody b)) = b.payload := by
  rw [bandHeaderLength_bandBody]
  unfold bandBody
  cases b.last <;> rfl

/-- The page check follows the header with the last mark. -/
theorem check_bandBody (b : Band) (h : b.last = true) : BitVec.ofNat 32 (u32At (bandBody b) 14) = b.check := by
  have stands : u32At (bandBody b) 14 = b.check.toNat := by
    unfold bandBody
    rw [h]
    exact toNat_long_of_lt b.check.isLt
  rw [stands, BitVec.ofNat_toNat, BitVec.setWidth_eq]

/-- The ranges of a band's fields (section 1.7), with a payload of as many rows as it gives. -/
structure Band.InRange (b : Band) : Prop where
  version : b.version < 65536
  index : b.index < 65536
  rows : b.rows ≤ 64
  firstRow : b.firstRow < 65536
  width : 1 ≤ b.width ∧ b.width ≤ 24576
  height : 1 ≤ b.height ∧ b.height ≤ 32768
  payload : b.payload.length = b.rows * rowBytes b.width
  last : b.last = true ∨ 1 ≤ b.rows ∧ b.check = 0

/-- The fields of a BAND body stand at their offsets. -/
theorem Band.InRange.fields {b : Band} (h : b.InRange) :
    byteAt (bandBody b) 0 = b.page.val ∧ byteAt (bandBody b) 1 = b.sep.val ∧ u16At (bandBody b) 2 = b.version
    ∧ u16At (bandBody b) 4 = b.index ∧ byteAt (bandBody b) 6 = b.last.toNat ∧ byteAt (bandBody b) 7 = b.rows
    ∧ u16At (bandBody b) 8 = b.firstRow ∧ u16At (bandBody b) 10 = b.width ∧ u16At (bandBody b) 12 = b.height :=
  ⟨toNat_byte_of_lt b.page.isLt, toNat_byte_of_lt (b.sep.isLt.trans (by decide)), toNat_word_of_lt h.version,
    toNat_word_of_lt h.index, toNat_flag b.last, toNat_byte_of_lt (h.rows.trans_lt (by decide)),
    toNat_word_of_lt h.firstRow, toNat_word_of_lt (h.width.2.trans_lt (by decide)),
    toNat_word_of_lt (h.height.2.trans_lt (by decide))⟩

/-- The widest band of the most rows fills the greatest body. -/
theorem Band.InRange.length_le {b : Band} (h : b.InRange) : (bandBody b).length ≤ Config.maxBody := by
  have row : rowBytes b.width ≤ 3072 := by
    have := h.width.2
    unfold rowBytes
    omega
  have payload : b.payload.length ≤ 64 * 3072 := h.payload ▸ Nat.mul_le_mul h.rows row
  have header : bandHeaderLength (bandBody b) ≤ 18 := by
    rw [bandHeaderLength_bandBody]
    split <;> decide
  rw [length_bandBody]
  exact Nat.add_le_add header payload

/-- With the last mark the header has 18 bytes; without it 14, and then there is a row. -/
theorem Band.InRange.mark {b : Band} (h : b.InRange) :
    b.last.toNat = 1 ∧ bandHeaderLength (bandBody b) = 18
    ∨ b.last.toNat = 0 ∧ bandHeaderLength (bandBody b) = 14 ∧ 1 ≤ b.rows := by
  rw [bandHeaderLength_bandBody]
  cases hb : b.last with
  | true => exact .inl ⟨rfl, rfl⟩
  | false =>
    rcases h.last with hl | ⟨hr, -⟩
    · rw [hb] at hl
      cases hl
    · exact .inr ⟨rfl, rfl, hr⟩

theorem Band.InRange.not_malformed {b : Band} (h : b.InRange) : bandMalformed (bandBody b) = false := by
  obtain ⟨-, hsep, -, -, hlast, hrows, -, hwidth, hheight⟩ := h.fields
  have hlen := length_bandBody b
  have hmark := h.mark
  have hsep4 := b.sep.isLt
  have hw := h.width
  have hh := h.height
  have hr := h.rows
  simp only [bandMalformed, hsep, hlast, hrows, hwidth, hheight, ← h.payload, Bool.or_eq_false_iff,
    decide_eq_false_iff_not]
  refine ⟨⟨⟨⟨⟨⟨⟨⟨?_, ?_⟩, ?_⟩, ?_⟩, ?_⟩, ?_⟩, ?_⟩, ?_⟩, ?_⟩ <;> omega

theorem Band.InRange.bandOf_bandBody {b : Band} (h : b.InRange) : bandOf (bandBody b) = b := by
  obtain ⟨hpage, hsep, hversion, hindex, hlast, hrows, hfirst, hwidth, hheight⟩ := h.fields
  have page : Fin.ofNat 256 b.page.val = b.page := Fin.ext (Nat.mod_eq_of_lt b.page.isLt)
  have sep : Fin.ofNat 4 b.sep.val = b.sep := Fin.ext (Nat.mod_eq_of_lt b.sep.isLt)
  have last : decide (b.last.toNat = 1) = b.last := by cases b.last <;> rfl
  have check : (if b.last.toNat = 1 then BitVec.ofNat 32 (u32At (bandBody b) 14) else 0) = b.check := by
    by_cases hb : b.last = true
    · rw [if_pos (by rw [hb]; rfl), check_bandBody b hb]
    · rw [Bool.not_eq_true] at hb
      rw [if_neg (by rw [hb]; decide)]
      rcases h.last with hl | ⟨-, hc⟩
      · rw [hb] at hl
        cases hl
      · exact hc.symm
  rw [bandOf, hpage, hsep, hversion, hindex, hlast, hrows, hfirst, hwidth, hheight, drop_bandBody, page, sep, last, check]

/-- Settles O6: the parser delivers what was sent with the last byte, and a BAND body is read back. -/
theorem framesAreReadAsSent : Obligations.FramesAreReadAsSent := by
  refine ⟨fun kind tag body half hkind hbody => ⟨?_, Parser.run_sent_dropLast half kind tag hbody⟩, ?_⟩
  · exact ⟨sentFrame kind tag body (checkOf (coveredBytes kind tag body)), Parser.run_sent half kind tag _ hbody,
      sentFrame_kind tag body _ hkind, sentFrame_tag kind tag body _, rfl, (sentFrame_passes kind tag body _).mpr rfl⟩
  · intro b version index rows firstRow width height payload last
    have h : b.InRange := ⟨version, index, rows, firstRow, width, height, payload, last⟩
    exact ⟨h.length_le, h.not_malformed, h.bandOf_bandBody⟩

end Sys2Proof.Machine
end

section
/-! SUPPORT. The frames that arrive, and what becomes of each (R3 to R7). -/

namespace Sys2Proof.Machine

set_option Elab.async false

/-- The state with the parser in HUNT, where every frame leaves it. -/
def State.hunting (s : State) : State := { s with link := { s.link with parser := .hunt false } }

/-- With the link up the bytes of one frame are that frame's arrival. -/
theorem exec_frameArrival_sent (s : State) (half : Bool) (kind : Nat) (tag : BitVec 16) (body : List Byte) (c : CheckWord)
    (up : s.link.up = true) (parser : s.link.parser = .hunt half) (h : body.length ≤ Config.maxBody) :
    exec (.frameArrival ([0x7B, 0xD4] ++ coveredBytes kind tag body ++ u32 c.toNat)) s =
      .next (s.hunting.frameArrives (sentFrame kind tag body c)) := by
  show execFrameArrival _ s = _
  rw [execFrameArrival, if_pos up, State.receive, parser, Parser.run_sent half kind tag c h]
  rfl

/-- A frame that fails its check is discarded. -/
theorem State.frameArrives_of_failed (s : State) (kind : Nat) (tag : BitVec 16) (body : List Byte) (c : CheckWord)
    (h : c ≠ checkOf (coveredBytes kind tag body)) : s.frameArrives (sentFrame kind tag body c) = s := by
  rw [State.frameArrives, if_neg ((sentFrame_passes kind tag body c).not.mpr h)]

/-- The frame as it was sent, whose check is right. -/
def wholeFrame (kind : Nat) (tag : BitVec 16) (body : List Byte) : RawFrame :=
  sentFrame kind tag body (checkOf (coveredBytes kind tag body))

theorem wholeFrame_passes (kind : Nat) (tag : BitVec 16) (body : List Byte) : (wholeFrame kind tag body).passes = true :=
  (sentFrame_passes kind tag body _).mpr rfl

theorem State.frameArrives_band (s : State) (tag : BitVec 16) (body : List Byte) :
    s.frameArrives (wholeFrame 0x01 tag body) = (s.bandArrives body).finish := by
  have kind : (wholeFrame 0x01 tag body).kind = 0x01 := sentFrame_kind tag body _ (by decide)
  rw [State.frameArrives, if_pos (wholeFrame_passes _ tag body), if_pos kind]
  rfl

theorem State.frameArrives_control (s : State) (tag : BitVec 16) (body : List Byte) :
    s.frameArrives (wholeFrame 0x02 tag body) = (s.controlArrives (wholeFrame 0x02 tag body)).finish := by
  have kind : (wholeFrame 0x02 tag body).kind = 0x02 := sentFrame_kind tag body _ (by decide)
  rw [State.frameArrives, if_pos (wholeFrame_passes _ tag body), kind, if_neg (by decide), if_pos rfl]

theorem State.frameArrives_unknown (s : State) {kind : Nat} (tag : BitVec 16) (body : List Byte) (hkind : kind < 256)
    (h : kind ≠ 1 ∧ kind ≠ 2) : s.frameArrives (wholeFrame kind tag body) = s := by
  have hk : (wholeFrame kind tag body).kind = kind := sentFrame_kind tag body _ hkind
  rw [State.frameArrives, if_pos (wholeFrame_passes _ tag body), hk, if_neg h.1, if_neg h.2]

theorem State.bandArrives_malformed (s : State) (body : List Byte) (h : bandMalformed body = true) :
    s.bandArrives body = s.report (malformedReport body) := if_pos h

theorem State.bandArrives_formed (s : State) (body : List Byte) (h : bandMalformed body = false) :
    s.bandArrives body = s.offerBand (bandOf body) := if_neg (by rw [h]; exact Bool.false_ne_true)

theorem State.controlArrives_room (s : State) (f : RawFrame) (h : s.link.controlQueue.length < 16) :
    s.controlArrives f = { s with link := { s.link with
      controlQueue := s.link.controlQueue ++ [{ tag := f.tag, body := f.body }] } } := if_pos h

theorem State.controlArrives_full (s : State) (f : RawFrame) (h : 16 ≤ s.link.controlQueue.length) :
    s.controlArrives f = s := if_neg (Nat.not_lt.mpr h)

theorem State.offerBand_room (s : State) (b : Band) (h : s.intake.buffer.length < 4) :
    s.offerBand b = State.runIntake { s with intake := { s.intake with buffer := s.intake.buffer ++ [b] } } := if_pos h

theorem State.offerBand_full (s : State) (b : Band) (h : 4 ≤ s.intake.buffer.length) :
    s.offerBand b = s.overrunBand b := if_neg (Nat.not_lt.mpr h)

/-- What becomes of a CONTROL frame (R7). -/
theorem exec_frameArrival_control (s : State) (half : Bool) (tag : BitVec 16) (body : List Byte)
    (up : s.link.up = true) (parser : s.link.parser = .hunt half) (h : body.length ≤ Config.maxBody) :
    exec (.frameArrival (frameBytes 0x02 tag body)) s =
      .next (s.hunting.controlArrives (wholeFrame 0x02 tag body)).finish := by
  rw [← State.frameArrives_control]
  exact exec_frameArrival_sent s half 0x02 tag body _ up parser h

/-- What becomes of a BAND frame (R4, R6). -/
theorem exec_frameArrival_band (s : State) (half : Bool) (tag : BitVec 16) (body : List Byte)
    (up : s.link.up = true) (parser : s.link.parser = .hunt half) (h : body.length ≤ Config.maxBody) :
    exec (.frameArrival (frameBytes 0x01 tag body)) s = .next (s.hunting.bandArrives body).finish := by
  rw [← State.frameArrives_band s.hunting tag]
  exact exec_frameArrival_sent s half 0x01 tag body _ up parser h

/-- Settles O9: each kind of frame by what it finds. -/
theorem framesAreTaken : Obligations.FramesAreTaken := by
  refine ⟨fun s half tag body up parser h => ⟨fun room => ?_, fun full => ?_⟩, fun s half tag body up parser h => ?_,
    fun s half kind tag body parser hkind h => ⟨fun up unknown => ?_, fun c up failed => ?_,
      fun header up hheader long => ?_, fun bytes down => ⟨?_, ?_⟩⟩⟩
  · have htag : (wholeFrame 0x02 tag body).tag = tag := sentFrame_tag 0x02 tag body _
    rw [exec_frameArrival_control s half tag body up parser h, State.controlArrives_room s.hunting _ room, htag]
    rfl
  · rw [exec_frameArrival_control s half tag body up parser h, State.controlArrives_full s.hunting _ full]
    rfl
  · have arrives := exec_frameArrival_band s half tag body up parser h
    dsimp only
    refine ⟨fun malformed short => ?_, fun malformed long => ?_, fun formed room => ?_, fun formed full other => ?_,
      fun formed full receiving version => ?_⟩
    · rw [arrives, State.bandArrives_malformed _ body malformed, malformedReport, if_pos short]
      rfl
    · rw [arrives, State.bandArrives_malformed _ body malformed, malformedReport, if_neg (by omega)]
      rfl
    · rw [arrives, State.bandArrives_formed _ body formed, State.offerBand_room s.hunting _ room]
      rfl
    · rw [arrives, State.bandArrives_formed _ body formed, State.offerBand_full s.hunting _ full]
      exact congrArg (fun u => Host.Outcome.next (State.finish u)) (if_neg other)
    · rw [arrives, State.bandArrives_formed _ body formed, State.offerBand_full s.hunting _ full]
      exact congrArg (fun u => Host.Outcome.next (State.finish u)) (if_pos ⟨receiving, version⟩)
  · have arrives := exec_frameArrival_sent s half kind tag body (checkOf (coveredBytes kind tag body)) up parser h
    exact arrives.trans (congrArg _ (State.frameArrives_unknown s.hunting tag body hkind unknown))
  · rw [exec_frameArrival_sent s half kind tag body c up parser h, State.frameArrives_of_failed _ _ _ _ _ failed]
    rfl
  · show execDamagedFrame _ s = _
    rw [execDamagedFrame, if_pos up, State.receive, parser, Parser.run_damaged half header hheader long]
    rfl
  · show execFrameArrival bytes s = _
    simp [execFrameArrival, down]
  · show execDamagedFrame bytes s = _
    simp [execDamagedFrame, down]

end Sys2Proof.Machine
end

section
/-! SUPPORT. The queries (R15, R41, R78, R114): the entry a query names, its REPLY, and where each field of the reply data
stands. -/

namespace Sys2Proof.Machine

set_option Elab.async false

/-! ### What a query names, and its REPLY -/

theorem commandOf_ne_none_of_fixed {code : Byte} {args : List Byte} (hcode : code ≠ 0x20)
    (h : (code.toNat, args.length) ∈ fixedShapes) : commandOf (code :: args) ≠ none := by
  have hnat : code.toNat ≠ 0x20 := fun h => hcode (BitVec.eq_of_toNat_eq h)
  rw [commandOf_cons, if_pos ((argumentLength_eq_some hnat).mpr h)]
  exact Option.some_ne_none _

/-- A command of a fixed shape whose frame is offered is taken. -/
theorem taking_of_fixed {s : State} {f : ControlFrame} {code : Byte} {args : List Byte}
    (run : List Byte → State → State × Answer) (h : s.Offers f code args) (hcode : code ≠ 0x20)
    (shape : (code.toNat, args.length) ∈ fixedShapes) :
    taking code.toNat run s =
      .next (((run args s.dropControl).1.placeReply f code (run args s.dropControl).2).finish) :=
  taking_of_offers run h (by rw [h.body]; exact commandOf_ne_none_of_fixed hcode shape)

theorem firstBad_singleton_ok {i : Nat} {b : Bool} (h : b = true) : firstBad [(i, b)] = none := by
  simp [firstBad, h]

theorem firstBad_singleton_bad {i : Nat} {b : Bool} (h : b = false) : firstBad [(i, b)] = some i := by
  simp [firstBad, h]

theorem within_zero {hi n : Nat} (h : n ≤ hi) : within 0 hi n = true := decide_eq_true ⟨Nat.zero_le _, h⟩

theorem not_within_zero {hi n : Nat} (h : hi < n) : within 0 hi n = false :=
  decide_eq_false fun hn => absurd hn.2 (Nat.not_le.mpr h)

/-- The two bytes of a page key, read back. -/
theorem keyBytes_toNat (k : PageIx) : (keyBytes k).1.toNat = k.val / 4 ∧ (keyBytes k).2.toNat = k.val % 4 := by
  have hk := k.isLt
  exact ⟨toNat_byte_of_lt (by omega), toNat_byte_of_lt (by omega)⟩

theorem pageOperand_keyBytes (k : PageIx) : pageOperand [(keyBytes k).1, (keyBytes k).2] = k := by
  obtain ⟨hpage, hsep⟩ := keyBytes_toNat k
  have hk := k.isLt
  apply Fin.ext
  show (keyBytes k).1.toNat % 256 * 4 + (keyBytes k).2.toNat % 4 = k.val
  rw [hpage, hsep]
  omega

theorem slotOperand_u16 (p : Slot) : slotOperand (u16 p.val) = p := by
  have word : u16At (u16 p.val) 0 = p.val := toNat_word_of_lt (p.isLt.trans (by decide))
  apply Fin.ext
  show u16At (u16 p.val) 0 % 512 = p.val
  rw [word, Nat.mod_eq_of_lt p.isLt]

theorem lineOperand_u8 (l : LineId) : lineOperand (u8 l.val) = l := by
  have byte : byteAt (u8 l.val) 0 = l.val := toNat_byte_of_lt (l.isLt.trans (by decide))
  apply Fin.ext
  show byteAt (u8 l.val) 0 % 4 = l.val
  rw [byte, Nat.mod_eq_of_lt l.isLt]

/-- A query whose fields are in range is answered with the data it asks for. -/
theorem taking_query {s : State} {f : ControlFrame} {code : Byte} {args : List Byte} (fields : List Byte → List FieldCheck)
    (data : List Byte → State → List Byte) (h : s.Offers f code args) (hcode : code ≠ 0x20)
    (shape : (code.toNat, args.length) ∈ fixedShapes) (ok : firstBad (fields args) = none) :
    taking code.toNat (fun args s => checked (fields args) s (answer s (data args s))) s =
      .next (s.replied f code { data := data args s.dropControl }) := by
  rw [taking_of_fixed _ h hcode shape, checked_ok _ _ _ ok]
  rfl

/-- A query with a field out of range is refused with its index. -/
theorem taking_query_refused {s : State} {f : ControlFrame} {code : Byte} {args : List Byte} {i : Nat}
    (fields : List Byte → List FieldCheck) (data : List Byte → State → List Byte) (h : s.Offers f code args)
    (hcode : code ≠ 0x20) (shape : (code.toNat, args.length) ∈ fixedShapes) (bad : firstBad (fields args) = some i) :
    taking code.toNat (fun args s => checked (fields args) s (answer s (data args s))) s =
      .next (s.replied f code { status := .badField, field := i }) := by
  rw [taking_of_fixed _ h hcode shape, checked_bad _ _ _ i bad]
  rfl

theorem exec_engineInfo_eq (s : State) (f : ControlFrame) (h : s.Offers f 0x02 []) :
    exec .engineInfo s = .next (s.replied f 0x02 { data := s.engineInfo }) :=
  taking_of_fixed (fun _ s => answer s s.engineInfo) h (by decide) (by decide)

/-- QUERY_PAGE is a query of the entry its key names. -/
theorem exec_queryPage_eq (s : State) : exec .queryPage s =
    taking (0x12 : Byte).toNat (fun args s => checked (pageFields args) s (answer s (s.page (pageOperand args)).encode)) s :=
  rfl

/-- QUERY_PLATE is a query of the record its slot names. -/
theorem exec_queryPlate_eq (s : State) : exec .queryPlate s =
    taking (0x23 : Byte).toNat
      (fun args s => checked (slotFields args) s (answer s (s.plate (slotOperand args)).encode)) s := rfl

/-- QUERY_LINE is a query of the line it names. -/
theorem exec_queryLine_eq (s : State) : exec .queryLine s =
    taking (0x36 : Byte).toNat
      (fun args s => checked (lineFields args) s (answer s (s.line (lineOperand args)).encode)) s := rfl

/-! ### The codes of the tables are bytes -/

theorem PageState.code_lt (p : PageState) : p.code < 256 := by cases p <;> decide

theorem PlateState.code_lt (p : PlateState) : p.code < 256 := by cases p <;> decide

theorem Stage.code_lt (g : Stage) : g.code < 256 := by cases g <;> simp [Stage.code]

/-! ### QUERY_PAGE data (R41) -/

theorem PageEntry.encode_layout (e : PageEntry) :
    let d := e.encode
    d.length = 21 ∧ byteAt d 0 = e.state.code ∧ u16At d 1 = e.version % 65536
    ∧ byteAt d 3 = e.raster.isSome.toNat ∧ u16At d 4 = (e.raster.map Fin.val).getD 0
    ∧ u16At d 6 = e.nextBand % 65536 ∧ u16At d 8 = e.rows % 65536 ∧ u16At d 10 = e.width % 65536
    ∧ u16At d 12 = e.height % 65536 ∧ u32At d 14 = (checkValue e.check).toNat ∧ u16At d 18 = e.demand % 65536
    ∧ byteAt d 20 = (e.cause.map Cause.code).getD 0 := by
  unfold PageEntry.encode
  simp only [u8, u16, u32, flag, List.cons_append, List.nil_append]
  exact ⟨rfl, toNat_byte_of_lt e.state.code_lt, toNat_word _, toNat_flag _,
    toNat_word_of_lt (getD_map_lt (fun d => d.isLt.trans (by decide)) (by decide)), toNat_word _, toNat_word _,
    toNat_word _, toNat_word _, toNat_long_of_lt (checkValue e.check).isLt, toNat_word _,
    toNat_byte_of_lt (getD_map_lt Cause.code_lt (by decide))⟩

/-! ### QUERY_PLATE data (R61, R78) -/

/-- The fixed fields stand at their offsets. -/
theorem PlateRecord.encode_layout (r : PlateRecord) :
    let d := r.encode
    let x := r.load
    byteAt d 0 = r.state.code
    ∧ byteAt d 1 = x.edition % 256 ∧ byteAt d 2 = x.color.val ∧ byteAt d 3 = x.sizeClass % 256
    ∧ u16At d 4 = x.width % 65536 ∧ u16At d 6 = x.height % 65536 ∧ byteAt d 8 = x.profile.val
    ∧ byteAt d 9 = x.dest.val ∧ byteAt d 10 = x.mask % 256 ∧ byteAt d 11 = (decide (x.priority = .urgent)).toNat
    ∧ byteAt d 12 = x.holdAfter.toNat ∧ byteAt d 13 = (decide (x.action = .abort)).toNat
    ∧ byteAt d 14 = (decide (x.remake = .manual)).toNat ∧ byteAt d 15 = x.tiles.length % 256
    ∧ byteAt d 16 = r.pass % 256
    ∧ byteAt d 17 = r.line.isSome.toNat ∧ byteAt d 18 = (r.line.map Fin.val).getD 0
    ∧ byteAt d 19 = (r.doom.map fun x => x.cause.code).getD 0 ∧ byteAt d 20 = r.withdraw.toNat
    ∧ byteAt d 21 = r.place.isSome.toNat ∧ byteAt d 22 = (r.place.map fun q => q.1.val).getD 0
    ∧ byteAt d 23 = (r.place.map fun q => q.2.val).getD 0 ∧ byteAt d 24 = (r.lastCause.map Cause.code).getD 0
    ∧ byteAt d 25 = r.bound.isSome.toNat
    ∧ ∀ i < 4, u16At d (26 + 2 * i) = (r.bound.getD []).getD i 0 % 65536 := by
  simp only [PlateRecord.encode, PlateLoad.encode, u8, u16, flag, List.cons_append, List.nil_append]
  refine ⟨toNat_byte_of_lt r.state.code_lt, toNat_byte _, toNat_byte_of_lt (r.load.color.isLt.trans (by decide)),
    toNat_byte _, toNat_word _, toNat_word _, toNat_byte_of_lt (r.load.profile.isLt.trans (by decide)),
    toNat_byte_of_lt (r.load.dest.isLt.trans (by decide)), toNat_byte _, toNat_flag _, toNat_flag _, toNat_flag _,
    toNat_flag _, toNat_byte _, toNat_byte _, toNat_flag _, toNat_byte_of_lt ?_, toNat_byte_of_lt ?_, toNat_flag _,
    toNat_flag _, toNat_byte_of_lt ?_, toNat_byte_of_lt ?_, toNat_byte_of_lt ?_, toNat_flag _, fun i hi => ?_⟩
  · exact getD_map_lt (fun l => l.isLt.trans (by decide)) (by decide)
  · exact getD_map_lt (fun d => d.cause.code_lt) (by decide)
  · exact getD_map_lt (fun q => q.1.isLt.trans (by decide)) (by decide)
  · exact getD_map_lt (fun q => q.2.isLt.trans (by decide)) (by decide)
  · exact getD_map_lt Cause.code_lt (by decide)
  · match i, hi with
    | 0, _ | 1, _ | 2, _ | 3, _ => exact toNat_word _

theorem Tile.encode_length (t : Tile) : t.encode.length = 17 := rfl

/-- After the 34 bytes of the fixed fields come the tile parts. -/
theorem PlateRecord.encode_drop (r : PlateRecord) : r.encode.drop 34 = r.load.tiles.flatMap Tile.encode := by
  simp only [PlateRecord.encode, PlateLoad.encode, u8, u16, flag, List.cons_append, List.nil_append]
  rfl

theorem PlateRecord.encode_length (r : PlateRecord) : r.encode.length = 34 + 17 * r.load.tiles.length := by
  have parts : (r.encode.drop 34).length = 17 * r.load.tiles.length := by
    rw [PlateRecord.encode_drop, length_flatMap_of_length Tile.encode_length]
  have fixed : 34 ≤ r.encode.length := by
    simp only [PlateRecord.encode, PlateLoad.encode, u8, u16, flag, List.cons_append, List.nil_append]
    exact Nat.le_add_left 34 (r.load.tiles.flatMap Tile.encode).length
  rw [List.length_drop] at parts
  omega

/-- The part of a tile stands behind those before it. -/
theorem PlateRecord.encode_tile (r : PlateRecord) {i : Nat} {t : Tile} (h : r.load.tiles[i]? = some t) :
    ∃ rest, r.encode.drop (34 + 17 * i) = t.encode ++ rest := by
  rw [← List.drop_drop, PlateRecord.encode_drop, drop_flatMap_of_length Tile.encode_length h]
  exact ⟨_, rfl⟩

/-- The fields of a tile part stand at their offsets. -/
theorem PlateRecord.encode_tile_layout (r : PlateRecord) (i : Nat) (t : Tile) (h : r.load.tiles[i]? = some t) :
    let d := r.encode
    byteAt d (34 + 17 * i) = t.page.val ∧ u16At d (35 + 17 * i) = t.originX % 65536
    ∧ u16At d (37 + 17 * i) = t.originY % 65536 ∧ byteAt d (39 + 17 * i) = (decide (t.turn = .inverted)).toNat
    ∧ (u16At d (40 + 17 * i) : Int) = t.scale % 65536 ∧ byteAt d (42 + 17 * i) = t.clip.isSome.toNat
    ∧ u16At d (43 + 17 * i) = (t.clip.map Clip.cx).getD 0 % 65536
    ∧ u16At d (45 + 17 * i) = (t.clip.map Clip.cy).getD 0 % 65536
    ∧ u16At d (47 + 17 * i) = (t.clip.map Clip.cw).getD 0 % 65536
    ∧ u16At d (49 + 17 * i) = (t.clip.map Clip.ch).getD 0 % 65536 := by
  obtain ⟨rest, hdrop⟩ := r.encode_tile h
  unfold Tile.encode at hdrop
  simp only [u8, u16, s16, flag, List.cons_append, List.nil_append] at hdrop
  have byte := byteAt_of_drop hdrop
  have word := u16At_of_drop hdrop
  exact ⟨(byte 0).trans (toNat_byte_of_lt t.page.isLt), (word 1).trans (toNat_word _), (word 3).trans (toNat_word _),
    (byte 5).trans (toNat_flag _), (congrArg Nat.cast (word 6)).trans (toNat_signed t.scale),
    (byte 8).trans (toNat_flag _), (word 9).trans (toNat_word _), (word 11).trans (toNat_word _),
    (word 13).trans (toNat_word _), (word 15).trans (toNat_word _)⟩

/-! ### QUERY_LINE data (R114) -/

/-- The places of a line's queue. -/
theorem range_eight : List.range 8 = [0, 1, 2, 3, 4, 5, 6, 7] := rfl

/-- The fixed fields and the queue stand at their offsets. -/
theorem Line.encode_layout (ln : Line) :
    let d := ln.encode
    byteAt d 0 = ln.mode.code ∧ byteAt d 1 = (ln.faultCause.map Cause.code).getD 0
    ∧ byteAt d 2 = ln.fitted.toNat ∧ byteAt d 3 = ln.unitReady.toNat ∧ byteAt d 4 = ln.stock.getD 255 % 256
    ∧ byteAt d 5 = ln.unitLocal.toNat ∧ byteAt d 6 = ln.config.expected.getD 8 % 256
    ∧ byteAt d 7 = ln.config.tPb % 256 ∧ byteAt d 8 = ln.config.tSo % 256 ∧ byteAt d 9 = ln.config.tSetup % 256
    ∧ byteAt d 10 = ln.stationProfile.isSome.toNat ∧ byteAt d 11 = (ln.stationProfile.map Fin.val).getD 0
    ∧ byteAt d 12 = ln.queue.length % 256 ∧ (∀ i < 8, u16At d (13 + 2 * i) = (ln.queue.map Fin.val).getD i 0)
    ∧ byteAt d 29 = ln.exposure.isSome.toNat ∧ u16At d 30 = (ln.exposure.map fun c => c.slot.val).getD 0
    ∧ byteAt d 32 = ((ln.exposure.map Exposure.answered).getD false).toNat
    ∧ byteAt d 33 = ln.transit.length % 256 := by
  have queued : ∀ i, (ln.queue.map Fin.val).getD i 0 < 65536 := by
    intro i
    rw [List.getD_eq_getElem?_getD, List.getElem?_map]
    exact getD_map_lt (fun p => p.isLt.trans (by decide)) (by decide)
  unfold Line.encode
  simp only [LineConfig.expectedCode, range_eight, List.flatMap_cons, u8, u16, flag, List.append_assoc,
    List.cons_append, List.nil_append]
  refine ⟨toNat_byte_of_lt ln.mode.code_lt, toNat_byte_of_lt (getD_map_lt Cause.code_lt (by decide)), toNat_flag _,
    toNat_flag _, toNat_byte _, toNat_flag _, toNat_byte _, toNat_byte _, toNat_byte _, toNat_byte _, toNat_flag _,
    toNat_byte_of_lt ?_, toNat_byte _, fun i hi => ?_, toNat_flag _, toNat_word_of_lt ?_, toNat_flag _, toNat_byte _⟩
  · exact getD_map_lt (fun f => f.isLt.trans (by decide)) (by decide)
  · match i, hi with
    | 0, _ | 1, _ | 2, _ | 3, _ | 4, _ | 5, _ | 6, _ | 7, _ => exact toNat_word_of_lt (queued _)
  · exact getD_map_lt (fun c => c.slot.isLt.trans (by decide)) (by decide)

/-- The part of the transit list's entry at a position, five 0 bytes where there is none. -/
def Line.transitPart (ln : Line) (i : Nat) : List Byte := ((ln.transit[i]?).map TransitEntry.encode).getD [0, 0, 0, 0, 0]

theorem TransitEntry.encode_length (e : TransitEntry) : e.encode.length = 5 := by
  unfold TransitEntry.encode
  cases e.route <;> rfl

theorem Line.transitPart_length (ln : Line) (i : Nat) : (ln.transitPart i).length = 5 := by
  unfold Line.transitPart
  cases ln.transit[i]? with
  | none => rfl
  | some e => exact e.encode_length

theorem Bin.encode_length (b : Bin) : b.encode.length = 3 := rfl

/-- After the 34 bytes of the fixed fields and the queue come the six transit parts and the ten bins. -/
theorem Line.encode_drop (ln : Line) :
    ln.encode.drop 34 = (List.range 6).flatMap ln.transitPart ++ ln.bins.toList.flatMap Bin.encode := by
  unfold Line.encode
  simp only [range_eight, List.flatMap_cons, u8, u16, flag, List.append_assoc, List.cons_append,
    List.nil_append]
  rfl

theorem Line.transitParts_length (ln : Line) : ((List.range 6).flatMap ln.transitPart).length = 30 :=
  length_flatMap_of_length ln.transitPart_length _

theorem Line.encode_length (ln : Line) : ln.encode.length = 94 := by
  have parts : (ln.encode.drop 34).length = 60 := by
    rw [Line.encode_drop, List.length_append, ln.transitParts_length, length_flatMap_of_length Bin.encode_length,
      Vector.length_toList]
  rw [List.length_drop] at parts
  omega

/-- The part of a transit entry stands behind those before it. -/
theorem Line.encode_transit (ln : Line) {i : Nat} (hi : i < 6) :
    ∃ rest, ln.encode.drop (34 + 5 * i) = ln.transitPart i ++ rest := by
  have part := drop_flatMap_of_length ln.transitPart_length
    (show (List.range 6)[i]? = some i by rw [List.getElem?_range hi])
  rw [← List.drop_drop, Line.encode_drop, List.drop_append_of_le_length (by rw [ln.transitParts_length]; omega), part,
    List.append_assoc]
  exact ⟨_, rfl⟩

/-- The bytes of a bin stand behind the transit parts and the bins before it. -/
theorem Line.encode_bin (ln : Line) (b : BinId) :
    ∃ rest, ln.encode.drop (64 + 3 * b.val) = (ln.bin b).encode ++ rest := by
  have part := drop_flatMap_of_length Bin.encode_length
    (show ln.bins.toList[b.val]? = some (ln.bin b) by
      rw [List.getElem?_eq_getElem (by rw [Vector.length_toList]; exact b.isLt), Vector.getElem_toList]; rfl)
  have bins : ln.encode.drop 64 = ln.bins.toList.flatMap Bin.encode := by
    rw [show 64 = 34 + 30 from rfl, ← List.drop_drop, Line.encode_drop, ← ln.transitParts_length, List.drop_left]
  rw [← List.drop_drop, bins, part]
  exact ⟨_, rfl⟩

/-- A transit entry's slot, stage and route stand at their offsets. -/
theorem Line.encode_transit_layout (ln : Line) (i : Nat) (e : TransitEntry) (hi : i < 6) (h : ln.transit[i]? = some e) :
    let d := ln.encode
    u16At d (34 + 5 * i) = e.slot.val ∧ byteAt d (36 + 5 * i) = e.stage.code
    ∧ (e.route = .deliver → byteAt d (37 + 5 * i) = 0 ∧ byteAt d (38 + 5 * i) = 0)
    ∧ ∀ c, e.route = .reject c → byteAt d (37 + 5 * i) = 1 ∧ byteAt d (38 + 5 * i) = c.code := by
  obtain ⟨rest, hdrop⟩ := ln.encode_transit hi
  rw [show ln.transitPart i = e.encode by rw [Line.transitPart, h]; rfl] at hdrop
  have byte := byteAt_of_drop hdrop
  have word := u16At_of_drop hdrop
  have slot : u16At (e.encode ++ rest) 0 = e.slot.val := toNat_word_of_lt (e.slot.isLt.trans (by decide))
  have stage : byteAt (e.encode ++ rest) 2 = e.stage.code := toNat_byte_of_lt e.stage.code_lt
  refine ⟨(word 0).trans slot, (byte 2).trans stage, fun route => ⟨(byte 3).trans ?_, (byte 4).trans ?_⟩,
    fun c route => ⟨(byte 3).trans ?_, (byte 4).trans ?_⟩⟩ <;> unfold TransitEntry.encode <;> rw [route]
  · rfl
  · rfl
  · rfl
  · exact toNat_byte_of_lt c.code_lt

/-- Where the transit list has no entry its part is 0 bytes. -/
theorem Line.encode_transit_absent (ln : Line) (i : Nat) (hi : i < 6) (h : ln.transit[i]? = none) (j : Nat) (hj : j < 5) :
    byteAt ln.encode (34 + 5 * i + j) = 0 := by
  obtain ⟨rest, hdrop⟩ := ln.encode_transit hi
  rw [show ln.transitPart i = [0, 0, 0, 0, 0] by rw [Line.transitPart, h]; rfl] at hdrop
  rw [← byteAt_drop, hdrop]
  match j, hj with
  | 0, _ | 1, _ | 2, _ | 3, _ | 4, _ => rfl

/-- A bin's count, capacity and closed flag stand at their offsets. -/
theorem Line.encode_bin_layout (ln : Line) (b : BinId) :
    let d := ln.encode
    byteAt d (64 + 3 * b.val) = (ln.bin b).count % 256 ∧ byteAt d (65 + 3 * b.val) = (ln.bin b).capacity % 256
    ∧ byteAt d (66 + 3 * b.val) = (ln.bin b).closed.toNat := by
  obtain ⟨rest, hdrop⟩ := ln.encode_bin b
  have byte := byteAt_of_drop hdrop
  exact ⟨(byte 0).trans (toNat_byte _), (byte 1).trans (toNat_byte _), (byte 2).trans (toNat_flag _)⟩

/-! ### The statement -/

/-- Settles O23: each query's taking, its refusals, and the layout of its reply data. -/
theorem queriesShowTheState : Obligations.QueriesShowTheState := by
  refine ⟨exec_engineInfo_eq, fun s f k p l => ⟨fun h => ?_, fun h => ?_, fun h => ?_, fun a b h hb => ?_,
    fun a b h hab => ?_, fun a h ha => ?_, (s.page k).encode_layout, ?_, ?_, rfl, rfl, rfl, fun _ _ => rfl⟩⟩
  · have shape : (0x12, 2) ∈ fixedShapes := by decide
    have sep : (keyBytes k).2.toNat ≤ 3 := by rw [(keyBytes_toNat k).2]; omega
    rw [exec_queryPage_eq, taking_query pageFields (fun args s => (s.page (pageOperand args)).encode) h (by decide)
      shape (firstBad_singleton_ok (within_zero sep)), pageOperand_keyBytes]
    rfl
  · have shape : (0x23, 2) ∈ fixedShapes := by decide
    have slot : u16At (u16 p.val) 0 ≤ 511 := by
      rw [show u16At (u16 p.val) 0 = p.val from toNat_word_of_lt (p.isLt.trans (by decide))]
      exact Nat.le_of_lt_succ p.isLt
    rw [exec_queryPlate_eq, taking_query slotFields (fun args s => (s.plate (slotOperand args)).encode) h (by decide)
      shape (firstBad_singleton_ok (within_zero slot)), slotOperand_u16]
    rfl
  · have shape : (0x36, 1) ∈ fixedShapes := by decide
    have line : byteAt (u8 l.val) 0 ≤ 3 := by
      rw [show byteAt (u8 l.val) 0 = l.val from toNat_byte_of_lt (l.isLt.trans (by decide))]
      exact Nat.le_of_lt_succ l.isLt
    rw [exec_queryLine_eq, taking_query lineFields (fun args s => (s.line (lineOperand args)).encode) h (by decide)
      shape (firstBad_singleton_ok (within_zero line)), lineOperand_u8]
    rfl
  · have shape : (0x12, 2) ∈ fixedShapes := by decide
    exact taking_query_refused pageFields (fun args s => (s.page (pageOperand args)).encode) h (by decide) shape
      (firstBad_singleton_bad (not_within_zero hb))
  · have shape : (0x23, 2) ∈ fixedShapes := by decide
    exact taking_query_refused slotFields (fun args s => (s.plate (slotOperand args)).encode) h (by decide) shape
      (firstBad_singleton_bad (not_within_zero hab))
  · have shape : (0x36, 1) ∈ fixedShapes := by decide
    exact taking_query_refused lineFields (fun args s => (s.line (lineOperand args)).encode) h (by decide) shape
      (firstBad_singleton_bad (not_within_zero ha))
  · exact ⟨(s.plate p).encode_length, by
      obtain ⟨h0, h1, h2, h3, h4, h6, h8, h9, h10, h11, h12, h13, h14, h15, h16, h17, h18, h19, h20, h21, h22, h23, h24,
        h25, h26⟩ := (s.plate p).encode_layout
      exact ⟨h0, h1, h2, h3, h4, h6, h8, h9, h10, h11, h12, h13, h14, h15, h16, h17, h18, h19, h20, h21, h22, h23, h24,
        h25, h26, (s.plate p).encode_tile_layout⟩⟩
  · obtain ⟨h0, h1, h2, h3, h4, h5, h6, h7, h8, h9, h10, h11, h12, h13, h29, h30, h32, h33⟩ := (s.line l).encode_layout
    exact ⟨(s.line l).encode_length, h0, h1, h2, h3, h4, h5, h6, h7, h8, h9, h10, h11, h12, h13, h29, h30, h32, h33,
      (s.line l).encode_transit_layout, (s.line l).encode_transit_absent, (s.line l).encode_bin_layout⟩

end Sys2Proof.Machine
end

section
/-! SUPPORT. Demand (R37, R38, R66): what one net change and a whole offer of changes make of the page entries, and what
they leave unchanged. -/

namespace Sys2Proof.Machine

set_option Elab.async false

/-- A page entry after the net change of its demand count: released when it is COMPLETE and the count falls to 0 (R38). -/
def PageEntry.netted (e : PageEntry) (removed added : Nat) : PageEntry :=
  if 1 ≤ e.demand ∧ e.demand + added - removed = 0 ∧ e.state = .complete then
    { e with demand := 0, state := .released, raster := none }
  else { e with demand := e.demand + added - removed }

/-- What the operations of the Page Directory can touch: page entries, reports, and of the Raster Store all but
plate memory. -/
def DirectoryOnly (s t : State) : Prop :=
  ∃ pages store reports, t = { s with pages := pages, store := store, reports := reports } ∧ store.mem = s.store.mem

theorem DirectoryOnly.refl (s : State) : DirectoryOnly s s := ⟨s.pages, s.store, s.reports, rfl, rfl⟩

theorem DirectoryOnly.trans {s t u : State} (h : DirectoryOnly s t) (k : DirectoryOnly t u) : DirectoryOnly s u := by
  obtain ⟨_, _, _, rfl, hmem⟩ := h
  obtain ⟨_, _, _, rfl, kmem⟩ := k
  exact ⟨_, _, _, rfl, kmem.trans hmem⟩

theorem State.releasePage_page (s : State) (k j : PageIx) : (s.releasePage k).page j =
    if j = k then { s.page k with state := .released, raster := none } else s.page j := by
  unfold State.releasePage
  dsimp only
  split <;> exact State.page_setPage s k j _

theorem State.releasePage_only (s : State) (k : PageIx) : DirectoryOnly s (s.releasePage k) := by
  unfold State.releasePage
  dsimp only
  split
  · exact ⟨_, _, _, rfl, RasterStore.dropDirHold_mem _ _ _⟩
  · exact ⟨_, _, _, rfl, rfl⟩

theorem State.changeDemand_page (s : State) (k j : PageIx) (removed added : Nat) :
    (s.changeDemand k removed added).page j = if j = k then (s.page k).netted removed added else s.page j := by
  unfold State.changeDemand PageEntry.netted
  dsimp only
  split
  · rename_i h
    rw [State.releasePage_page, State.page_setPage_self, State.page_setPage, h.2.1]
    split <;> rfl
  · exact State.page_setPage s k j _

theorem State.changeDemand_only (s : State) (k : PageIx) (removed added : Nat) :
    DirectoryOnly s (s.changeDemand k removed added) := by
  have counted : ∀ e, DirectoryOnly s (s.setPage k e) := fun e => ⟨_, _, _, rfl, rfl⟩
  unfold State.changeDemand
  dsimp only
  split
  · exact (counted _).trans (State.releasePage_only _ k)
  · exact counted _

/-! ### The keys of an offer -/

theorem mem_insertKey (k j : PageIx) (ks : List PageIx) : j ∈ insertKey k ks ↔ j = k ∨ j ∈ ks := by
  induction ks with
  | nil => simp [insertKey]
  | cons x xs ih =>
    unfold insertKey
    split
    · exact List.mem_cons
    · split
      · rename_i hk
        subst hk
        simp
      · rw [List.mem_cons, ih, List.mem_cons, or_left_comm]

theorem mem_sortedKeys (j : PageIx) (ks : List PageIx) : j ∈ sortedKeys ks ↔ j ∈ ks := by
  induction ks with
  | nil => exact Iff.rfl
  | cons k ks ih =>
    rw [sortedKeys, List.foldr_cons, mem_insertKey, List.mem_cons]
    exact or_congr_right ih

theorem insertKey_ascending (k : PageIx) (ks : List PageIx) (h : ks.Pairwise (· < ·)) :
    (insertKey k ks).Pairwise (· < ·) := by
  induction ks with
  | nil => exact List.pairwise_singleton _ _
  | cons x xs ih =>
    obtain ⟨least, rest⟩ := List.pairwise_cons.mp h
    unfold insertKey
    split
    · rename_i hk
      refine List.pairwise_cons.mpr ⟨fun j hj => ?_, h⟩
      rcases List.mem_cons.mp hj with rfl | hj
      · exact hk
      · exact hk.trans (least j hj)
    · split
      · exact h
      · rename_i hlt hne
        refine List.pairwise_cons.mpr ⟨fun j hj => ?_, ih rest⟩
        rcases (mem_insertKey k j xs).mp hj with rfl | hj
        · exact lt_of_le_of_ne (not_lt.mp hlt) (Ne.symm hne)
        · exact least j hj

theorem sortedKeys_nodup (ks : List PageIx) : (sortedKeys ks).Nodup := by
  have ascending : (sortedKeys ks).Pairwise (· < ·) := by
    induction ks with
    | nil => exact List.Pairwise.nil
    | cons k ks ih => exact insertKey_ascending k _ ih
  exact ascending.imp ne_of_lt

/-! ### An offer of demand -/

/-- The net changes of a list of keys without repeats: each key of the list takes its own. -/
theorem State.foldl_changeDemand_page (removed added : List PageIx) (j : PageIx) (ks : List PageIx) (h : ks.Nodup)
    (s : State) :
    (ks.foldl (fun s k => s.changeDemand k (removed.count k) (added.count k)) s).page j =
      if j ∈ ks then (s.page j).netted (removed.count j) (added.count j) else s.page j := by
  induction ks generalizing s with
  | nil => rfl
  | cons k ks ih =>
    obtain ⟨hk, hks⟩ := List.nodup_cons.mp h
    rw [List.foldl_cons, ih hks, State.changeDemand_page]
    by_cases hj : j = k
    · subst hj
      rw [if_neg hk, if_pos rfl, if_pos List.mem_cons_self]
    · simp only [List.mem_cons, hj, false_or, if_false]

theorem State.offerDemand_only (s : State) (removed added : List PageIx) :
    DirectoryOnly s (s.offerDemand removed added) := by
  unfold State.offerDemand
  exact List.foldlRecOn (motive := DirectoryOnly s) _ _ (DirectoryOnly.refl s) fun u hu k _ =>
    hu.trans (u.changeDemand_only k _ _)

/-- A page entry that is neither removed from nor added to keeps its count. -/
theorem PageEntry.netted_zero (e : PageEntry) : e.netted 0 0 = e := by
  unfold PageEntry.netted
  rw [if_neg (by omega)]
  rfl

/-- Every page entry after an offer of demand. -/
theorem State.offerDemand_page (s : State) (removed added : List PageIx) (k : PageIx) :
    (s.offerDemand removed added).page k = (s.page k).netted (removed.count k) (added.count k) := by
  rw [State.offerDemand, State.foldl_changeDemand_page _ _ _ _ (sortedKeys_nodup _)]
  split
  · rfl
  · rename_i hk
    rw [mem_sortedKeys] at hk
    obtain ⟨hremoved, hadded⟩ := not_or.mp (List.mem_append.not.mp hk)
    rw [List.count_eq_zero_of_not_mem hremoved, List.count_eq_zero_of_not_mem hadded, PageEntry.netted_zero]

/-- Settles O19: every key takes one net change, by induction over the keys of the offer. -/
theorem demandIsOffered : Obligations.DemandIsOffered := by
  intro s removed added
  refine ⟨fun k => ?_, ?_⟩
  · dsimp only
    rw [State.offerDemand_page, PageEntry.netted]
    split
    · rename_i hreleased
      exact if_pos hreleased.2
    · rename_i hkept
      refine if_neg fun hfall => hkept ⟨?_, hfall⟩
      by_contra hk
      obtain ⟨hremoved, hadded⟩ := not_or.mp (List.mem_append.not.mp hk)
      rw [List.count_eq_zero_of_not_mem hremoved, List.count_eq_zero_of_not_mem hadded] at hfall
      omega
  · obtain ⟨pages, store, reports, e, hmem⟩ := s.offerDemand_only removed added
    rw [e]
    exact ⟨rfl, rfl, rfl, rfl, rfl, hmem⟩

end Sys2Proof.Machine
end

section
/-! SUPPORT. The judgement of bands (R20 to R26): one equation per row of its tables. -/

namespace Sys2Proof.Machine

set_option Elab.async false

section
variable {s : State} {b : Band}

/-! ### The judgement's cases -/

theorem State.judge_malformed (h : b.version = 0) : s.judge b = (s.report (droppedReport b .malformed), .disposed) :=
  if_pos h

theorem State.judge_stale (h0 : 0 < b.version) (h : b.version < (s.page b.key).version) :
    s.judge b = (s.report (droppedReport b .stale), .disposed) := by
  rw [State.judge, if_neg (Nat.ne_of_gt h0), if_pos h]

/-- A band of a newer version, or of a version above 0 on an EMPTY entry (R21). -/
theorem State.judge_newer (h0 : 0 < b.version)
    (h : (s.page b.key).version < b.version ∨ (s.page b.key).version = b.version ∧ (s.page b.key).state = .empty) :
    s.judge b = if b.index = 0 then s.newReception b else (s.report (droppedReport b .orphan), .disposed) := by
  rw [State.judge, if_neg (Nat.ne_of_gt h0), if_neg (by omega), if_pos (h.imp_right And.right)]

/-- A band of the entry's current version (R23). -/
theorem State.judge_same (h0 : 0 < b.version) (h : b.version = (s.page b.key).version) : s.judge b = s.judgeSame b := by
  rw [State.judge, if_neg (Nat.ne_of_gt h0), if_neg (by omega)]
  split
  · rename_i hempty
    have empty : (s.page b.key).state = .empty := hempty.resolve_left (by omega)
    simp only [State.judgeSame, empty]
  · rfl

theorem State.judgeSame_receiving (h : (s.page b.key).state = .receiving) : s.judgeSame b =
    if b.index = (s.page b.key).nextBand then (s, .accepted)
    else if b.index = 0 then (s.restartReception b, .accepted)
    else if b.index < (s.page b.key).nextBand then (s.report (droppedReport b .duplicate), .disposed)
    else (s.breakPage b.key .gap, .disposed) := by
  simp only [State.judgeSame, h]

theorem State.judgeSame_complete (h : (s.page b.key).state = .complete) :
    s.judgeSame b = (s.report (droppedReport b .alreadyComplete), .disposed) := by
  simp only [State.judgeSame, h]

theorem State.judgeSame_again (h : (s.page b.key).state = .broken ∨ (s.page b.key).state = .released) : s.judgeSame b =
    if b.index = 0 then s.receiveAgain b else (s.report (droppedReport b .orphan), .disposed) := by
  rcases h with h | h <;> simp only [State.judgeSame, h]

/-- The four ways of a judgement: the band is dropped with a cause, it breaks its RECEIVING entry for a gap, it continues
or restarts the reception of its own version, or it is a band 0 that asks for a descriptor. -/
theorem State.judge_cases (s : State) (b : Band) :
    (∃ c, s.judge b = (s.report (droppedReport b c), .disposed))
    ∨ ((s.page b.key).state = .receiving ∧ s.judge b = (s.breakPage b.key .gap, .disposed))
    ∨ ((s.page b.key).state = .receiving
        ∧ (s.judge b = (s, .accepted) ∨ s.judge b = (s.restartReception b, .accepted)))
    ∨ (0 < b.version ∧ b.version = (s.page b.key).version
        ∧ ((s.page b.key).state = .broken ∨ (s.page b.key).state = .released) ∧ s.judge b = s.receiveAgain b)
    ∨ (0 < b.version
        ∧ ((s.page b.key).version < b.version ∨ (s.page b.key).version = b.version ∧ (s.page b.key).state = .empty)
        ∧ s.judge b = s.newReception b) := by
  rcases Nat.eq_zero_or_pos b.version with h0 | h0
  · exact .inl ⟨_, State.judge_malformed h0⟩
  rcases Nat.lt_trichotomy b.version (s.page b.key).version with hlt | heq | hgt
  · exact .inl ⟨_, State.judge_stale h0 hlt⟩
  · cases hstate : (s.page b.key).state with
    | empty =>
      have newer := Or.inr (a := (s.page b.key).version < b.version) (And.intro heq.symm hstate)
      rw [State.judge_newer h0 newer, hstate] at *
      split
      · exact .inr (.inr (.inr (.inr ⟨h0, .inr ⟨heq.symm, rfl⟩, rfl⟩)))
      · exact .inl ⟨_, rfl⟩
    | receiving =>
      rw [State.judge_same h0 heq, State.judgeSame_receiving hstate]
      split
      · exact .inr (.inr (.inl ⟨rfl, .inl rfl⟩))
      · split
        · exact .inr (.inr (.inl ⟨rfl, .inr rfl⟩))
        · split
          · exact .inl ⟨_, rfl⟩
          · exact .inr (.inl ⟨rfl, rfl⟩)
    | complete =>
      rw [State.judge_same h0 heq, State.judgeSame_complete hstate]
      exact .inl ⟨_, rfl⟩
    | broken =>
      rw [State.judge_same h0 heq, State.judgeSame_again (.inl hstate)]
      split
      · exact .inr (.inr (.inr (.inl ⟨h0, heq, .inl rfl, rfl⟩)))
      · exact .inl ⟨_, rfl⟩
    | released =>
      rw [State.judge_same h0 heq, State.judgeSame_again (.inr hstate)]
      split
      · exact .inr (.inr (.inr (.inl ⟨h0, heq, .inr rfl, rfl⟩)))
      · exact .inl ⟨_, rfl⟩
  · rw [State.judge_newer h0 (.inl hgt)]
    split
    · exact .inr (.inr (.inr (.inr ⟨h0, .inl hgt, rfl⟩)))
    · exact .inl ⟨_, rfl⟩

/-! ### Bands that ask for a descriptor -/

theorem State.newReception_waits (h : s.store.firstFree = none) : s.newReception b = (s, .waits) := by
  unfold State.newReception
  rw [h]

theorem State.receiveAgain_waits (h : s.store.firstFree = none) : s.receiveAgain b = (s, .waits) := by
  unfold State.receiveAgain
  rw [h]

theorem State.receiveAgain_takes {d : DescId} (h : s.store.firstFree = some d) : s.receiveAgain b =
    ((s.onStore fun st => st.takeDesc d b.key b.version b.width b.height).setPage b.key
      ((s.page b.key).receive b d), .accepted) := by
  unfold State.receiveAgain
  rw [h]

/-- The state with the band's reception begun in a FREE descriptor, the raster that the entry had given up (R21, R48). -/
def State.received (s : State) (b : Band) (d : DescId) : State :=
  let taken := s.onStore fun st => st.takeDesc d b.key b.version b.width b.height
  (match (s.page b.key).raster with
    | some old => taken.onStore fun st => st.dropDirHold old true
    | none => taken).setPage b.key ((s.page b.key).receive b d)

/-- The PAGE_SUPERSEDED report of a band of a newer version (R21, step 4). -/
def supersededReport (b : Band) (old : Nat) : Report :=
  { kind := .pageSuperseded, key := some (keyBytes b.key), version := some b.version, oldVersion := some old }

theorem State.newReception_takes {d : DescId} (h : s.store.firstFree = some d) : s.newReception b =
    if (s.page b.key).version = 0 then (s.received b d, .accepted)
    else (((s.received b d).report (supersededReport b (s.page b.key).version)).supersede b.key b.version,
      .accepted) := by
  unfold State.newReception State.received
  rw [h]
  rfl

theorem State.newReception_ne_disposed : (s.newReception b).2 ≠ .disposed := by
  cases h : s.store.firstFree with
  | none =>
    rw [State.newReception_waits h]
    exact Verdict.noConfusion
  | some d =>
    rw [State.newReception_takes h]
    split <;> exact Verdict.noConfusion

theorem State.receiveAgain_ne_disposed : (s.receiveAgain b).2 ≠ .disposed := by
  cases h : s.store.firstFree with
  | none =>
    rw [State.receiveAgain_waits h]
    exact Verdict.noConfusion
  | some d =>
    rw [State.receiveAgain_takes h]
    exact Verdict.noConfusion

end

/-- Settles O15: the first two rows of the judgement, and its cases for a band that is disposed of. -/
theorem oldBandsAreDropped : Obligations.OldBandsAreDropped := by
  intro s b
  refine ⟨fun h => State.judge_malformed h, fun h0 h => State.judge_stale h0 h, fun hdisposed => ?_⟩
  rcases s.judge_cases b with ⟨c, e⟩ | ⟨hstate, e⟩ | ⟨-, e | e⟩ | ⟨-, -, -, e⟩ | ⟨-, -, e⟩ <;>
    rw [e] at hdisposed ⊢
  · exact .inl ⟨c, rfl⟩
  · exact .inr ⟨hstate, rfl⟩
  · cases hdisposed
  · cases hdisposed
  · exact absurd hdisposed State.receiveAgain_ne_disposed
  · exact absurd hdisposed State.newReception_ne_disposed

/-! ### What the judgement's operations change -/

section
variable (s : State)

theorem State.breakPage_page (k j : PageIx) (c : Cause) : (s.breakPage k c).page j =
    if j = k then { s.page k with state := .broken, cause := some c, raster := none } else s.page j := by
  unfold State.breakPage
  dsimp only
  split <;> exact State.page_setPage s k j _

theorem State.breakPage_only (k : PageIx) (c : Cause) : DirectoryOnly s (s.breakPage k c) := by
  unfold State.breakPage
  dsimp only
  split <;> exact ⟨_, _, _, rfl, rfl⟩

theorem State.report_only (r : Report) : DirectoryOnly s (s.report r) := ⟨_, _, _, rfl, rfl⟩

/-- A reception that has no raster does not arise, and its restart would change nothing (log 22). -/
theorem State.restartReception_page (b : Band) (j : PageIx) : (s.restartReception b).page j = s.page j
    ∨ j = b.key ∧ (s.restartReception b).page j =
      { s.page b.key with nextBand := 0, rows := 0, width := b.width, height := b.height, check := checkPreset } := by
  unfold State.restartReception
  dsimp only
  split
  · exact .inl rfl
  · rw [State.page_setPage]
    split
    · exact .inr ⟨‹_›, rfl⟩
    · exact .inl rfl

theorem State.restartReception_only (b : Band) : DirectoryOnly s (s.restartReception b) := by
  unfold State.restartReception
  dsimp only
  split
  · exact DirectoryOnly.refl s
  · exact ⟨_, _, _, rfl, rfl⟩

theorem State.receiveAgain_page (b : Band) (j : PageIx) : (s.receiveAgain b).1.page j = s.page j
    ∨ j = b.key ∧ ∃ d, (s.receiveAgain b).1.page j = (s.page b.key).receive b d := by
  cases h : s.store.firstFree with
  | none =>
    rw [State.receiveAgain_waits h]
    exact .inl rfl
  | some d =>
    rw [State.receiveAgain_takes h, State.page_setPage]
    split
    · exact .inr ⟨‹_›, d, rfl⟩
    · exact .inl rfl

theorem State.receiveAgain_only (b : Band) : DirectoryOnly s (s.receiveAgain b).1 := by
  cases h : s.store.firstFree with
  | none =>
    rw [State.receiveAgain_waits h]
    exact DirectoryOnly.refl s
  | some d =>
    rw [State.receiveAgain_takes h]
    exact ⟨_, _, _, rfl, rfl⟩

theorem State.received_page (b : Band) (d : DescId) (j : PageIx) : (s.received b d).page j =
    if j = b.key then (s.page b.key).receive b d else s.page j := by
  unfold State.received
  dsimp only
  split <;> exact State.page_setPage s b.key j _

theorem State.received_only (b : Band) (d : DescId) : DirectoryOnly s (s.received b d) := by
  unfold State.received
  dsimp only
  split
  · exact ⟨_, _, _, rfl, RasterStore.dropDirHold_mem _ _ _⟩
  · exact ⟨_, _, _, rfl, rfl⟩

end

theorem DirectoryOnly.plates {s t : State} (h : DirectoryOnly s t) : t.plates = s.plates := by
  obtain ⟨_, _, _, rfl, -⟩ := h
  rfl

/-- A judgement by the entry's own version keeps the version and touches no plate record (R23). -/
theorem State.judge_same_keeps {s : State} {b : Band} (h : b.version = (s.page b.key).version)
    (hstate : (s.page b.key).state ≠ .empty) :
    ((s.judge b).1.page b.key).version = b.version ∧ (s.judge b).1.plates = s.plates := by
  rcases s.judge_cases b with ⟨c, e⟩ | ⟨-, e⟩ | ⟨-, e | e⟩ | ⟨-, -, -, e⟩ | ⟨-, newer, -⟩
  · rw [e]
    exact ⟨h.symm, rfl⟩
  · rw [e, State.breakPage_page, if_pos rfl]
    exact ⟨h.symm, (s.breakPage_only _ _).plates⟩
  · rw [e]
    exact ⟨h.symm, rfl⟩
  · rw [e]
    refine ⟨?_, (s.restartReception_only b).plates⟩
    rcases s.restartReception_page b b.key with e' | ⟨-, e'⟩ <;> rw [e'] <;> exact h.symm
  · rw [e]
    refine ⟨?_, (s.receiveAgain_only b).plates⟩
    rcases s.receiveAgain_page b b.key with e' | ⟨-, d, e'⟩ <;> rw [e']
    · exact h.symm
    · rfl
  · rcases newer with newer | ⟨-, hempty⟩
    · omega
    · exact absurd hempty hstate

/-! ### The FREE descriptor of lowest index (R46) -/

theorem RasterStore.firstFree_some {st : RasterStore} {d : DescId} (h : st.firstFree = some d) :
    (st.desc d).state = .free ∧ ∀ d', (st.desc d').state = .free → d ≤ d' := by
  obtain ⟨hfree, i, hi, rfl, before⟩ := List.find?_eq_some_iff_getElem.mp h
  refine ⟨by simpa using hfree, fun d' hd' => ?_⟩
  by_contra hlt
  rw [not_le, List.getElem_finRange, Fin.lt_def] at hlt
  have := before d'.val hlt
  simp [hd'] at this

theorem RasterStore.firstFree_none {st : RasterStore} : st.firstFree = none ↔ ∀ d, (st.desc d).state ≠ .free := by
  simp [RasterStore.firstFree]

/-! ### The raster given up by a newer version (R47, R48) -/

/-- The reception of a newer version, written out: the entry, and the descriptor of its old raster freed or RETIRED. -/
theorem State.received_eq (s : State) (b : Band) (d : DescId) :
    let taken := s.store.takeDesc d b.key b.version b.width b.height
    s.received b d = { s with
      pages := s.pages.set b.key.val ((s.page b.key).receive b d)
      store := match (s.page b.key).raster with
        | some old =>
          if (taken.desc old).expHolds = 0 then
            { taken with free := taken.free ++ (taken.desc old).strips, table := taken.table.set old.val {} }
          else
            { taken with
              table := taken.table.set old.val { taken.desc old with dirHold := false, state := .retired } }
        | none => taken } := by
  unfold State.received
  cases (s.page b.key).raster with
  | none => rfl
  | some old =>
    dsimp only
    show _ = ({ s with pages := _, store := RasterStore.dropDirHold _ old true } : State)
    rfl

/-- Settles O16: the judgement's equations, row by row. -/
theorem bandsAreJudged : Obligations.BandsAreJudged := by
  constructor
  · intro s b h0 h
    dsimp only
    rw [State.judge_same h0 h]
    refine ⟨fun hs hi => ?_, fun d hs hi hi0 hd => ?_, fun hs hi0 hi => ?_, fun hs hi hi0 => ?_, fun hs => ?_,
      fun hs hi => ?_, fun hs hi hfree => ?_, fun d hs hi hfree => ?_, fun hs => ?_⟩
    · rw [State.judgeSame_receiving hs, if_pos hi]
    · rw [State.judgeSame_receiving hs, if_neg hi, if_pos hi0]
      simp only [State.restartReception, hd]
      rfl
    · rw [State.judgeSame_receiving hs, if_neg (Nat.ne_of_lt hi), if_neg (Nat.ne_of_gt hi0), if_pos hi]
      rfl
    · rw [State.judgeSame_receiving hs, if_neg (Nat.ne_of_gt hi), if_neg hi0, if_neg (by omega)]
    · exact State.judgeSame_complete hs
    · rw [State.judgeSame_again hs, if_neg hi]
      rfl
    · rw [State.judgeSame_again hs, if_pos hi, State.receiveAgain_waits hfree]
    · rw [State.judgeSame_again hs, if_pos hi, State.receiveAgain_takes hfree, PageEntry.receive, h]
      rfl
    · rw [← State.judge_same h0 h]
      exact State.judge_same_keeps h hs
  · intro s b h0 h
    dsimp only
    rw [State.judge_newer h0 h]
    refine ⟨fun hi => ?_, fun hi hfree => ?_, fun d hi hfree => ?_⟩
    · rw [if_neg hi]
      rfl
    · rw [if_pos hi, State.newReception_waits hfree]
    · obtain ⟨free, least⟩ := RasterStore.firstFree_some hfree
      refine ⟨free, least, fun old hold => ?_, ?_⟩
      · exact (RasterStore.desc_setDesc s.store d old _).trans (if_neg hold)
      · rw [if_pos hi, State.newReception_takes hfree]
        refine ⟨fun hv => ?_, fun hv => ?_⟩
        · rw [if_pos hv, State.received_eq]
          rfl
        · rw [if_neg hv, State.received_eq]
          rfl

end Sys2Proof.Machine
end

section
/-! SUPPORT. What no operation outside Band Intake changes: the version of a page entry, Band Intake itself and plate
memory. Each such operation carries the relation `Calm` one step further. -/

namespace Sys2Proof.Machine

set_option Elab.async false

/-- From `s` to `t` no version of a page entry has decreased, and plate memory is as it was. -/
structure Steady (s t : State) : Prop where
  version : ∀ k : PageIx, (s.page k).version ≤ (t.page k).version
  mem : t.store.mem = s.store.mem

/-- Such a change that leaves Band Intake. -/
structure Calm (s t : State) : Prop extends Steady s t where
  intake : t.intake = s.intake

theorem Steady.refl (s : State) : Steady s s := ⟨fun _ => le_refl _, rfl⟩

theorem Steady.trans {s t u : State} (h : Steady s t) (k : Steady t u) : Steady s u :=
  ⟨fun j => (h.version j).trans (k.version j), k.mem.trans h.mem⟩

theorem Calm.refl (s : State) : Calm s s := ⟨Steady.refl s, rfl⟩

theorem Calm.trans {s t u : State} (h : Calm s t) (k : Calm t u) : Calm s u :=
  ⟨h.toSteady.trans k.toSteady, k.intake.trans h.intake⟩

section
variable {s t u : State}

/-- A change of what `Steady` does not speak of. -/
theorem Steady.frame (h : Steady s t) (pages : u.pages = t.pages := by rfl) (mem : u.store.mem = t.store.mem := by rfl) :
    Steady s u :=
  h.trans ⟨fun k => by rw [State.page, State.page, pages], mem⟩

/-- A change of what `Calm` does not speak of. -/
theorem Calm.frame (h : Calm s t) (pages : u.pages = t.pages := by rfl) (mem : u.store.mem = t.store.mem := by rfl)
    (intake : u.intake = t.intake := by rfl) : Calm s u :=
  ⟨h.toSteady.frame pages mem, intake.trans h.intake⟩

/-- The walk, a start, composing and the end of a command touch nothing of this. -/
theorem SamePages.calm (h : SamePages s t) : Calm s t := (Calm.refl s).frame h.pages h.mem h.intake

theorem RoutesOnly.calm (h : RoutesOnly s t) : Calm s t := by
  obtain ⟨_, _, rfl⟩ := h
  exact (Calm.refl s).frame

/-- An operation of the Page Directory that lets no version decrease. -/
theorem DirectoryOnly.calm (h : DirectoryOnly s t) (version : ∀ k, (s.page k).version ≤ (t.page k).version) :
    Calm s t := by
  refine ⟨⟨version, ?_⟩, ?_⟩ <;> obtain ⟨_, _, _, rfl, hmem⟩ := h
  · exact hmem
  · rfl

theorem Calm.foldl {α : Type} {f : State → α → State} (hf : ∀ u a, Calm s u → Calm s (f u a)) (as : List α)
    (h : Calm s t) : Calm s (as.foldl f t) :=
  List.foldlRecOn (motive := Calm s) as f h fun u hu a _ => hf u a hu

/-! ### The updates of the state -/

theorem Calm.setPlate (h : Calm s t) (p : Slot) (r : PlateRecord) : Calm s (t.setPlate p r) := h.frame
theorem Calm.setLine (h : Calm s t) (l : LineId) (ln : Line) : Calm s (t.setLine l ln) := h.frame
theorem Calm.report (h : Calm s t) (r : Report) : Calm s (t.report r) := h.frame
theorem Calm.send (h : Calm s t) (l : LineId) (m : StationMessage) : Calm s (t.send l m) := h.frame
theorem Calm.tell (h : Calm s t) : Calm s t.tell := h.frame
theorem Calm.leaveReady (h : Calm s t) (p : Slot) : Calm s (t.leaveReady p) := h.frame
theorem Calm.beginHanding (h : Calm s t) : Calm s t.beginHanding := h.frame

theorem Calm.reportAll (h : Calm s t) (rs : List Report) : Calm s (t.reportAll rs) :=
  h.trans (t.reportAll_sameLink rs).calm

theorem Calm.startTest (h : Calm s t) (l : LineId) : Calm s (t.startTest l) := h.trans (t.startTest_sameLink l).calm
theorem Calm.feedLine (h : Calm s t) (l : LineId) : Calm s (t.feedLine l) := h.trans (t.feedLine_sameLink l).calm
theorem Calm.goTest (h : Calm s t) (l : LineId) : Calm s (t.goTest l) := h.trans (t.goTest_sameLink l).calm
theorem Calm.settle (h : Calm s t) : Calm s t.settle := h.trans t.settle_sameLink.calm

theorem Calm.routeWaiting (h : Calm s t) (l : LineId) : Calm s (t.routeWaiting l) :=
  h.trans (t.routeWaiting_only l).calm

theorem Steady.finish (h : Steady s t) : Steady s t.finish := h.trans t.finish_samePages.calm.toSteady

/-! ### Lines -/

theorem Calm.setMode (h : Calm s t) (l : LineId) (m : LineMode) : Calm s (t.setMode l m) := by
  unfold State.setMode
  split
  · exact h
  · exact h.frame

theorem Calm.drainTest (h : Calm s t) (l : LineId) : Calm s (t.drainTest l) := by
  unfold State.drainTest
  split
  · exact h.setMode l _
  · exact h

theorem Calm.endPause (h : Calm s t) (l : LineId) : Calm s (t.endPause l) := by
  unfold State.endPause
  split
  · exact h.setMode l _
  · exact h

theorem Calm.holdTest (h : Calm s t) (l : LineId) : Calm s (t.holdTest l) := by
  unfold State.holdTest
  split
  case h_1 | h_3 => exact h.setMode l _
  case h_2 => exact (h.setMode l _).setMode l _
  all_goals exact h

theorem Calm.afterEnd (h : Calm s t) (l : LineId) (hold : Bool) : Calm s (t.afterEnd l hold) := by
  unfold State.afterEnd
  split
  · exact h.holdTest l
  · exact (h.endPause l).drainTest l

theorem Calm.abortExposure (h : Calm s t) (l : LineId) : Calm s (t.abortExposure l) := by
  unfold State.abortExposure
  split
  · exact h
  · split
    · exact h
    · exact h.frame

theorem Calm.closeExposure (h : Calm s t) (l : LineId) (c : Exposure) : Calm s (t.closeExposure l c) :=
  h.frame (mem := RasterStore.closing_mem _ _ _)

/-! ### The Plate Plan -/

theorem Calm.joinBack (h : Calm s t) (p : Slot) : Calm s (t.joinBack p) := by
  unfold State.joinBack
  split <;> exact h.frame

theorem Calm.joinFront (h : Calm s t) (p : Slot) : Calm s (t.joinFront p) := by
  unfold State.joinFront
  split <;> exact h.frame

theorem Calm.evaluate (h : Calm s t) (p : Slot) : Calm s (t.evaluate p) := by
  unfold State.evaluate
  split
  · exact ((h.setPlate p _).joinBack p).tell
  · exact h

theorem Calm.evaluateOn (h : Calm s t) (k : PageIx) : Calm s (t.evaluateOn k) :=
  h.foldl (fun _ p hu => hu.evaluate p) _

theorem PageEntry.netted_version (e : PageEntry) (removed added : Nat) : (e.netted removed added).version = e.version := by
  unfold PageEntry.netted
  split <;> rfl

theorem Calm.releasePage (h : Calm s t) (k : PageIx) : Calm s (t.releasePage k) :=
  h.trans ((t.releasePage_only k).calm fun j => by
    rw [State.releasePage_page]
    split
    · subst j
      exact le_refl _
    · exact le_refl _)

theorem Calm.offerDemand (h : Calm s t) (removed added : List PageIx) : Calm s (t.offerDemand removed added) :=
  h.trans ((t.offerDemand_only removed added).calm fun k => by
    rw [State.offerDemand_page, PageEntry.netted_version])

theorem Calm.remake (h : Calm s t) (p : Slot) : Calm s (t.remake p) := (h.setPlate p _).evaluate p

theorem Calm.autoRemake (h : Calm s t) (p : Slot) : Calm s (t.autoRemake p) := by
  unfold State.autoRemake
  split
  · exact h.remake p
  · exact h

theorem Calm.spoil (h : Calm s t) (p : Slot) (c : Cause) : Calm s (t.spoil p c) := (h.setPlate p _).autoRemake p

theorem Calm.returnToReady (h : Calm s t) (p : Slot) : Calm s (t.returnToReady p) := (h.setPlate p _).joinFront p

theorem Calm.foldr_returnToReady (h : Calm s t) (ps : List Slot) :
    Calm s (ps.foldr (fun p u => u.returnToReady p) t) := by
  induction ps with
  | nil => exact h
  | cons p ps ih => exact ih.returnToReady p

theorem Calm.returnEntries (h : Calm s t) (l : LineId) (ps : List Slot) : Calm s (t.returnEntries l ps) := by
  unfold State.returnEntries
  split
  · exact h
  · exact (((h.setLine l _).foldr_returnToReady ps).reportAll _).tell

theorem Calm.leaveQueue (h : Calm s t) (l : LineId) (p : Slot) : Calm s (t.leaveQueue l p) := h.frame

theorem Calm.faultLine (h : Calm s t) (l : LineId) (c : Cause) (p : Option Slot) : Calm s (t.faultLine l c p) := by
  unfold State.faultLine
  split
  · exact h.report _
  · exact (Calm.returnEntries h.frame l _).tell

theorem Calm.takeOut (h : Calm s t) (p : Slot) : Calm s (t.takeOut p) := by
  unfold State.takeOut
  split
  · exact h.leaveReady p
  · exact (h.leaveQueue _ p).drainTest _
  · exact h

theorem Calm.dropPlate (h : Calm s t) (p : Slot) : Calm s (t.dropPlate p) :=
  ((h.takeOut p).offerDemand _ _).setPlate p _

theorem Calm.loadFree (h : Calm s t) (p : Slot) (x : PlateLoad) : Calm s (t.loadFree p x) :=
  ((h.setPlate p _).offerDemand _ _).evaluate p

theorem Calm.replacePlate (h : Calm s t) (p : Slot) (x : PlateLoad) : Calm s (t.replacePlate p x) :=
  (((h.leaveReady p).offerDemand _ _).setPlate p _).evaluate p

/-! ### Supersession -/

theorem Calm.applyAction (h : Calm s t) (p : Slot) (l : LineId) : Calm s (t.applyAction p l) := by
  unfold State.applyAction
  dsimp only
  split
  · exact (h.setPlate p _).abortExposure l
  · exact h.setPlate p _

theorem Calm.supersedeExposing (h : Calm s t) (p : Slot) (l : LineId) : Calm s (t.supersedeExposing p l) := by
  unfold State.supersedeExposing
  split
  · exact h
  · split
    · exact h.applyAction p l
    · exact h.setPlate p _

theorem Calm.supersedeExposed (h : Calm s t) (p : Slot) (l : LineId) : Calm s (t.supersedeExposed p l) := by
  unfold State.supersedeExposed
  split
  · exact h
  · dsimp only
    split
    · exact h.setPlate p _
    · exact (h.setPlate p _).setLine l _

theorem Calm.supersedeOne (h : Calm s t) (k : PageIx) (w : Nat) (p : Slot) : Calm s (State.supersedeOne k w t p) := by
  unfold State.supersedeOne
  split
  case h_1 => exact ((h.leaveReady p).setPlate p _).tell
  case h_2 =>
    split
    · exact (((h.leaveQueue _ p).setPlate p _).report _).drainTest _
    · exact h
  case h_3 =>
    split
    · exact h.supersedeExposing p _
    · exact h
  case h_4 =>
    split
    · exact h.supersedeExposed p _
    · exact h
  case h_5 => exact (((h.setPlate p _).report _).offerDemand _ _).autoRemake p
  all_goals exact h

theorem Calm.supersede (h : Calm s t) (k : PageIx) (w : Nat) : Calm s (t.supersede k w) :=
  (h.foldl (fun _ p hu => hu.supersedeOne k w p) _).foldl (fun _ l hu => hu.routeWaiting l) _

/-! ### The line commands -/

theorem Calm.configure (h : Calm s t) (l : LineId) (c : LineConfig) (capacity : BinId → Nat) :
    Calm s (t.configure l c capacity) := ((h.setLine l _).reportAll _).routeWaiting l

theorem Calm.clearTransit (h : Calm s t) (l : LineId) (c : Cause) : Calm s (t.clearTransit l c) :=
  h.foldl (fun _ _ hu => (hu.setLine l _).spoil _ c) _

theorem Calm.abandonExposure (h : Calm s t) (l : LineId) : Calm s (t.abandonExposure l) := by
  unfold State.abandonExposure
  split
  · exact h
  · exact (((h.send l _).closeExposure l _).spoil _ _).setLine l _

theorem Calm.stopLine (h : Calm s t) (l : LineId) : Calm s (t.stopLine l) := (h.setLine l _).setMode l _

theorem Calm.resetLine (h : Calm s t) (l : LineId) : Calm s (t.resetLine l) :=
  (((((h.abandonExposure l).clearTransit l _).returnEntries l _).setLine l _).stopLine l).tell

/-! ### The exposure unit and the Composer -/

theorem Calm.clearAbort (h : Calm s t) (l : LineId) : Calm s (t.clearAbort l) := by
  unfold State.clearAbort
  split
  · exact (h.setLine l _).startTest l
  · exact h

theorem Calm.takeAccept (h : Calm s t) (l : LineId) : Calm s (t.takeAccept l) := by
  unfold State.takeAccept
  split
  · exact h
  · split
    · exact h
    · unfold State.acceptBegin
      dsimp only
      split
      · exact ((((h.setLine l _).setPlate _ _).report _).applyAction _ l).goTest l
      · exact (((h.setLine l _).setPlate _ _).report _).goTest l

theorem Calm.undoBegin (h : Calm s t) (l : LineId) (c : Exposure) : Calm s (t.undoBegin l c) :=
  (h.closeExposure l c).setPlate c.slot _

theorem Calm.withdrawRecord (h : Calm s t) (l : LineId) (p : Slot) : Calm s (t.withdrawRecord l p) :=
  ((h.setPlate p _).report _).evaluate p

theorem Calm.requeue (h : Calm s t) (l : LineId) (p : Slot) : Calm s (t.requeue l p) := by
  unfold State.requeue
  dsimp only
  split
  · exact ((h.setLine l _).setPlate p _).returnEntries l _
  · exact (h.setLine l _).setPlate p _

theorem Calm.returnMismatch (h : Calm s t) (l : LineId) (p : Slot) : Calm s (t.returnMismatch l p) := by
  unfold State.returnMismatch
  split
  · exact h
  · exact h.returnEntries l _

theorem Calm.refusedRecord (h : Calm s t) (l : LineId) (p : Slot) : Calm s (t.refusedRecord l p) := by
  unfold State.refusedRecord
  split
  · exact h.withdrawRecord l p
  · split
    · exact (h.returnToReady p).tell
    · exact (h.requeue l p).returnMismatch l p

theorem Calm.readCompletes (h : Calm s t) (r : ScanRead) : Calm s (t.readCompletes r) := by
  unfold State.readCompletes State.readHanded
  split
  · exact h.beginHanding.feedLine _
  · split
    · exact h.beginHanding
    · split
      · exact h.beginHanding
      · exact (h.beginHanding.setLine _ _).feedLine _

theorem Calm.takeLineRequest (h : Calm s t) (l : LineId) : Calm s (t.takeLineRequest l) := by
  unfold State.takeLineRequest
  split
  · exact h
  · split
    · split
      · exact (h.setPlate _ _).abortExposure l
      · exact ((h.setLine l _).send l _).feedLine l
    · exact h

theorem Calm.takeStatus (h : Calm s t) (l : LineId) (ready : Bool) (stock : Option Nat) (unitLocal : Bool) :
    Calm s (t.takeStatus l ready stock unitLocal) := by
  unfold State.takeStatus State.changeStock
  dsimp only
  split
  · exact ((h.setLine l _).startTest l).tell
  · exact (((((h.setLine l _).setLine l _).returnEntries l _).drainTest l).startTest l).tell

/-! ### The punch-bender and the sorter -/

theorem Calm.deliverAtPunch (h : Calm s t) (l : LineId) (e : TransitEntry) : Calm s (t.deliverAtPunch l e) := by
  unfold State.deliverAtPunch
  split
  · exact (h.setLine l _).send l _
  · split
    · exact (h.setLine l _).send l _
    · exact h.setLine l _

theorem Calm.acceptArrival (h : Calm s t) (l : LineId) (e : TransitEntry) : Calm s (t.acceptArrival l e) := by
  unfold State.acceptArrival
  split
  · exact h.deliverAtPunch l e
  · exact (h.setLine l _).send l _

theorem Calm.takeArrival (h : Calm s t) (l : LineId) (mark : Option Nat) : Calm s (t.takeArrival l mark) := by
  unfold State.takeArrival
  split
  · exact h.faultLine l _ _
  · split
    · exact h.faultLine l _ _
    · unfold State.matchArrival
      split
      · split
        · exact (h.report _).acceptArrival l _
        · split
          · exact h.acceptArrival l _
          · exact h.faultLine l _ _
      · exact h.acceptArrival l _

theorem Calm.serveSetups (h : Calm s t) (n : Nat) (l : LineId) : Calm s (State.serveSetups n l t) := by
  induction n generalizing t with
  | zero => exact h
  | succ n ih =>
    unfold State.serveSetups
    split
    · exact ih (h.deliverAtPunch l _)
    · exact h

theorem Calm.takeSetupDone (h : Calm s t) (l : LineId) : Calm s (t.takeSetupDone l) := by
  unfold State.takeSetupDone
  split
  · exact h
  · split
    · exact h
    · exact Calm.serveSetups (((h.setLine l _).setLine l _).send l _) _ l

theorem Calm.takeDone (h : Calm s t) (l : LineId) : Calm s (t.takeDone l) := by
  unfold State.takeDone
  split
  · exact h
  · split
    · exact h
    · exact h.setLine l _

theorem Calm.takePunchFault (h : Calm s t) (l : LineId) : Calm s (t.takePunchFault l) := by
  unfold State.takePunchFault
  dsimp only
  split
  · exact h.faultLine l _ _
  · exact (h.setLine l _).faultLine l _ _

theorem Calm.takeSorterArrival (h : Calm s t) (l : LineId) : Calm s (t.takeSorterArrival l) := by
  unfold State.takeSorterArrival State.arriveAtSorter
  split
  · exact h.faultLine l _ _
  · split
    · exact h.faultLine l _ _
    · split <;> exact (h.setLine l _).send l _

theorem Calm.fate (h : Calm s t) (l : LineId) (b : BinId) (e : TransitEntry) : Calm s (t.fate l b e) := by
  unfold State.fate
  split
  · exact ((h.setPlate _ _).report _).offerDemand _ _
  all_goals exact ((h.setPlate _ _).report _).autoRemake _

theorem Calm.fullTest (h : Calm s t) (l : LineId) (b : BinId) : Calm s (t.fullTest l b) := by
  unfold State.fullTest
  split
  · exact h.report _
  · exact h

theorem Calm.misroute (h : Calm s t) (l : LineId) (e : TransitEntry) : Calm s (t.misroute l e) :=
  ((h.setLine l _).spoil _ _).faultLine l _ _

theorem Calm.takeEmptied (h : Calm s t) (l : LineId) (bin : Nat) : Calm s (t.takeEmptied l bin) := by
  unfold State.takeEmptied
  split
  · exact ((h.setLine l _).report _).routeWaiting l
  · exact h

end

end Sys2Proof.Machine
end

section
/-! SUPPORT. Band Intake (R19, R26 to R36): what it does with its head band, one equation per outcome, the rows it asks to
be written, and that no version decreases by it. -/

namespace Sys2Proof.Machine

set_option Elab.async false

/-! ### Judging leaves Band Intake -/

/-- A judgement lets no version decrease and leaves Band Intake and plate memory. -/
theorem State.judge_calm (s : State) (b : Band) : Calm s (s.judge b).1 := by
  have entry : ∀ {e : PageEntry} {j : PageIx}, (s.page b.key).version ≤ e.version → j = b.key →
      (s.page j).version ≤ e.version := fun h hj => hj ▸ h
  rcases s.judge_cases b with ⟨c, e⟩ | ⟨-, e⟩ | ⟨-, e | e⟩ | ⟨h0, h, -, e⟩ | ⟨h0, h, e⟩ <;> rw [e]
  · exact (Calm.refl s).report _
  · refine (s.breakPage_only _ _).calm fun j => ?_
    rw [State.breakPage_page]
    split
    · exact entry (le_refl _) ‹_›
    · exact le_refl _
  · exact Calm.refl s
  · refine (s.restartReception_only b).calm fun j => ?_
    rcases s.restartReception_page b j with e' | ⟨hj, e'⟩ <;> rw [e']
    exact entry (le_refl _) hj
  · refine (s.receiveAgain_only b).calm fun j => ?_
    rcases s.receiveAgain_page b j with e' | ⟨hj, d, e'⟩ <;> rw [e']
    exact entry (le_of_eq h.symm) hj
  · cases hfree : s.store.firstFree with
    | none =>
      rw [State.newReception_waits hfree]
      exact Calm.refl s
    | some d =>
      have received : Calm s (s.received b d) := (s.received_only b d).calm fun j => by
        rw [State.received_page]
        split
        · exact entry (show _ ≤ b.version by omega) ‹_›
        · exact le_refl _
      rw [State.newReception_takes hfree]
      split
      · exact received
      · exact (received.report _).supersede _ _

theorem State.judge_endStall_buffer (s : State) (b : Band) : (s.judge b).1.endStall.intake.buffer = s.intake.buffer :=
  show (s.judge b).1.intake.buffer = s.intake.buffer from congrArg BandIntake.buffer (s.judge_calm b).intake

/-- A band waits when no descriptor is FREE, and then the judgement has changed nothing (R26). -/
theorem State.judge_of_waits {s : State} {b : Band} (h : (s.judge b).2 = .waits) : s.judge b = (s, .waits) := by
  rcases s.judge_cases b with ⟨c, e⟩ | ⟨-, e⟩ | ⟨-, e | e⟩ | ⟨-, -, -, e⟩ | ⟨-, -, e⟩ <;>
    rw [e] at h ⊢
  case inr.inr.inr.inl =>
    cases hfree : s.store.firstFree with
    | none => exact State.receiveAgain_waits hfree
    | some d =>
      rw [State.receiveAgain_takes hfree] at h
      cases h
  case inr.inr.inr.inr =>
    cases hfree : s.store.firstFree with
    | none => exact State.newReception_waits hfree
    | some d =>
      rw [State.newReception_takes hfree] at h
      split at h <;> cases h
  all_goals cases h

/-! ### Acceptance and the last-band decision (R27, R35, R36) -/

theorem State.acceptBand_of_failure {s : State} {b : Band} {c : Cause} (h : s.acceptanceFailure b = some c) :
    s.acceptBand b = (s.breakPage b.key c, true) := by
  simp only [State.acceptBand, h]

theorem State.acceptBand_of_pass {s : State} {b : Band} (h : s.acceptanceFailure b = none) : s.acceptBand b =
    if b.rows = 0 then ((s.acceptInto b).lastBandDecision b, true)
    else (State.startRow { s.acceptInto b with intake := { s.intake with phase := some .writing, nextRow := 0 } } b,
      false) := by
  simp only [State.acceptBand, h]
  rfl

/-- The running check over the payloads accepted, in order, is the check over all their bytes (R34). -/
theorem foldl_checkRun (payloads : List (List Byte)) (reg : CheckWord) :
    payloads.foldl checkRun reg = checkRun reg payloads.flatten := by
  induction payloads generalizing reg with
  | nil => rfl
  | cons bs payloads ih =>
    rw [List.foldl_cons, ih, List.flatten_cons, checkRun, checkRun, checkRun, List.foldl_append]

section
variable {s : State} {b : Band} {d : DescId}

theorem State.breakPage_eq {k : PageIx} (c : Cause) (h : (s.page k).raster = some d) : s.breakPage k c = { s with
    pages := s.pages.set k.val { s.page k with state := .broken, cause := some c, raster := none }
    store := { s.store with free := s.store.free ++ (s.store.desc d).strips, table := s.store.table.set d.val {} }
    reports := s.reports.offer
      { kind := .pageBroken, key := some (keyBytes k), version := some (s.page k).version, cause := some c } } := by
  simp only [State.breakPage, h]
  rfl

theorem State.completePage_eq {k : PageIx} (h : (s.page k).raster = some d) : s.completePage k =
    ((List.finRange 512).filter fun p => decide (k ∈ (s.plate p).load.keys)).foldl State.evaluate { s with
      pages := s.pages.set k.val { s.page k with state := .complete }
      store := { s.store with table := s.store.table.set d.val { s.store.desc d with state := .filled } }
      reports := s.reports.offer
        { kind := .pageComplete, key := some (keyBytes k), version := some (s.page k).version } } := by
  simp only [State.completePage, h]
  rfl

end

/-! ### Rows (R29 to R31) -/

section
variable {s : State} {b : Band} {d : DescId}

/-- A row within a strip: its write is requested. -/
theorem State.startRow_within (h : (s.page b.key).raster = some d)
    (row : (s.page b.key).rows % (s.store.desc d).perStrip ≠ 0) :
    s.startRow b = s.requestWrite b d (s.page b.key).rows := by
  simp only [State.startRow, h, if_neg row]

/-- A row that begins a strip takes the strip at the front of the free list (R44). -/
theorem State.startRow_takes {st : RasterStore} (h : (s.page b.key).raster = some d)
    (row : (s.page b.key).rows % (s.store.desc d).perStrip = 0) (free : s.store.takeStrip d = some st) :
    s.startRow b = ({ s with store := st } : State).requestWrite b d (s.page b.key).rows := by
  simp only [State.startRow, h, if_pos row, free]

/-- A row that begins a strip, with none free: the band waits (R31). -/
theorem State.startRow_waits (h : (s.page b.key).raster = some d)
    (row : (s.page b.key).rows % (s.store.desc d).perStrip = 0) (free : s.store.free = []) :
    s.startRow b = ({ s with intake := { s.intake with phase := some .waitingStrip } } : State).stallReport b := by
  simp only [State.startRow, h, if_pos row, RasterStore.takeStrip, free]

end

/-- What the start of a row can touch: of the Raster Store all but memory, of Band Intake the stall, and the phase where
the band waits for a strip. -/
theorem State.startRow_only (s : State) (b : Band) :
    ∃ store reports phase stall, s.startRow b = { s with
        store := store, reports := reports, intake := { s.intake with phase := phase, stall := stall } }
      ∧ store.mem = s.store.mem ∧ (phase = s.intake.phase ∨ phase = some .waitingStrip) := by
  unfold State.startRow
  split
  · exact ⟨_, _, _, _, rfl, rfl, .inl rfl⟩
  · dsimp only
    split
    · split
      · unfold State.stallReport
        split
        · exact ⟨_, _, _, _, rfl, rfl, .inr rfl⟩
        · exact ⟨_, _, _, _, rfl, rfl, .inr rfl⟩
      · rename_i hst
        refine ⟨_, _, _, _, rfl, ?_, .inl rfl⟩
        exact (RasterStore.request_mem _ _).1.trans (RasterStore.takeStrip_mem _ _ _ hst)
    · exact ⟨_, _, _, _, rfl, (RasterStore.request_mem _ _).1, .inl rfl⟩

/-! ### What acceptance leaves -/

theorem Calm.breakPage {s t : State} (h : Calm s t) (k : PageIx) (c : Cause) : Calm s (t.breakPage k c) := by
  refine h.trans ((t.breakPage_only k c).calm fun j => ?_)
  rw [State.breakPage_page]
  split
  · subst j
    exact le_refl _
  · exact le_refl _

/-- A page that completes keeps its version. -/
theorem Calm.completePage {s t : State} (h : Calm s t) (k : PageIx) : Calm s (t.completePage k) := by
  have complete : Calm t (t.setPage k { t.page k with state := .complete }) := by
    refine DirectoryOnly.calm ⟨_, _, _, rfl, rfl⟩ fun j => ?_
    rw [State.page_setPage]
    split
    · subst j
      exact le_refl _
    · exact le_refl _
  unfold State.completePage
  dsimp only
  split <;> exact Calm.evaluateOn (h.trans complete).frame k

theorem Calm.lastBandDecision {s t : State} (h : Calm s t) (b : Band) : Calm s (t.lastBandDecision b) := by
  unfold State.lastBandDecision
  dsimp only
  split
  · split
    · exact h.completePage _
    · exact h.breakPage _ _
  · exact h.breakPage _ _

/-- The acceptance of a band lets no version decrease. -/
theorem State.acceptInto_calm (s : State) (b : Band) : Calm s (s.acceptInto b) := by
  refine DirectoryOnly.calm ⟨_, _, _, rfl, rfl⟩ fun j => ?_
  unfold State.acceptInto
  rw [State.page_setPage]
  split
  · subst j
    exact le_refl _
  · exact le_refl _

/-- A band that its acceptance disposes of leaves Band Intake as it was; any other leaves the buffer. -/
theorem State.acceptBand_cases (s : State) (b : Band) :
    ((s.acceptBand b).2 = true ∧ Calm s (s.acceptBand b).1)
    ∨ ((s.acceptBand b).2 = false ∧ Steady s (s.acceptBand b).1
        ∧ (s.acceptBand b).1.intake.buffer = s.intake.buffer) := by
  cases h : s.acceptanceFailure b with
  | some c =>
    rw [State.acceptBand_of_failure h]
    exact .inl ⟨rfl, (Calm.refl s).breakPage _ _⟩
  | none =>
    rw [State.acceptBand_of_pass h]
    split
    · exact .inl ⟨rfl, (s.acceptInto_calm b).lastBandDecision b⟩
    · obtain ⟨store, reports, phase, stall, e, hmem, -⟩ :=
        State.startRow_only { s.acceptInto b with intake := { s.intake with phase := some .writing, nextRow := 0 } } b
      dsimp only
      rw [e]
      exact .inr ⟨rfl, (s.acceptInto_calm b).toSteady.frame rfl hmem, rfl⟩

theorem State.acceptBand_buffer (s : State) (b : Band) : (s.acceptBand b).1.intake.buffer = s.intake.buffer := by
  rcases s.acceptBand_cases b with ⟨-, h⟩ | ⟨-, -, h⟩
  · exact congrArg BandIntake.buffer h.intake
  · exact h

/-! ### The head band (R19, R33) -/

section
variable {s : State} {b : Band} {rest : List Band} {n : Nat}

theorem State.takeHeads_idle (h : s.intake.phase ≠ none ∨ s.intake.buffer = []) (n : Nat) : s.takeHeads n = s := by
  cases n with
  | zero => rfl
  | succ n =>
    unfold State.takeHeads
    split
    · rfl
    · rename_i hphase
      rw [h.resolve_left hphase]

/-- The head band is judged, and accepted, waits or leaves its slot (R19, R26, R33). -/
theorem State.takeHeads_head (phase : s.intake.phase = none) (buffer : s.intake.buffer = b :: rest) :
    s.takeHeads (n + 1) =
      match (s.judge b).2 with
      | .waits => ({ s with intake := { s.intake with phase := some .waitingDescriptor } }).stallReport b
      | .disposed => State.takeHeads n (s.judge b).1.endStall.popHead
      | .accepted =>
        if ((s.judge b).1.endStall.acceptBand b).2 then
          State.takeHeads n ((s.judge b).1.endStall.acceptBand b).1.popHead
        else ((s.judge b).1.endStall.acceptBand b).1 := by
  rw [State.takeHeads, if_neg (not_not.mpr phase)]
  split
  · rename_i hempty
    rw [hempty] at buffer
    cases buffer
  · rename_i b' rest' hhead
    cases hhead.symm.trans buffer
    split
    · rename_i hjudge
      rw [hjudge]
      cases (State.judge_of_waits (congrArg Prod.snd hjudge)).symm.trans hjudge
      rfl
    · rename_i hjudge
      rw [hjudge]
    · rename_i hjudge
      rw [hjudge]
      dsimp only
      split
      · rename_i haccept
        rw [haccept]
        rfl
      · rename_i haccept
        rw [haccept]
        rfl

theorem State.popHead_length (s : State) : s.popHead.intake.buffer.length = s.intake.buffer.length - 1 :=
  List.length_tail

/-- With bounds that reach the end of the buffer it makes no difference which one is given. -/
theorem State.takeHeads_succ (n : Nat) (s : State) (h : s.intake.buffer.length ≤ n) :
    s.takeHeads (n + 1) = s.takeHeads n := by
  induction n generalizing s with
  | zero =>
    have empty := List.eq_nil_of_length_eq_zero (Nat.le_zero.mp h)
    rw [State.takeHeads_idle (.inr empty), State.takeHeads_idle (.inr empty)]
  | succ n ih =>
    by_cases hphase : s.intake.phase = none
    · cases hbuffer : s.intake.buffer with
      | nil => rw [State.takeHeads_idle (.inr hbuffer), State.takeHeads_idle (.inr hbuffer)]
      | cons b rest =>
        have judged := s.judge_endStall_buffer b
        rw [State.takeHeads_head hphase hbuffer, State.takeHeads_head hphase hbuffer]
        split
        · rfl
        · refine ih _ ?_
          rw [State.popHead_length, judged]
          omega
        · split
          · refine ih _ ?_
            rw [State.popHead_length, State.acceptBand_buffer, judged]
            omega
          · rfl
    · rw [State.takeHeads_idle (.inl hphase), State.takeHeads_idle (.inl hphase)]

end

/-- Settles O17: the head band by its judgement, an accepted band by its checks, and the last-band decision. -/
theorem lastBandsDecide : Obligations.LastBandsDecide := by
  refine ⟨fun s hlength => ⟨fun h => State.takeHeads_idle h _, fun b rest phase buffer => ?_⟩,
    ⟨fun s b => ?_, fun payloads => ?_, by decide +kernel⟩, fun s b d h => ?_⟩
  · have head := State.takeHeads_head (n := 4) phase buffer
    have judged := s.judge_endStall_buffer b
    dsimp only
    refine ⟨fun hw hstall => ?_, fun hw hstall => ?_, fun hd => ?_, fun ha hd => ?_, fun ha hd => ?_,
      (s.judge_calm b).intake, ?_⟩
    · rw [State.runIntake]
      refine head.trans ?_
      rw [hw]
      dsimp only
      rw [State.stallReport, if_pos hstall, ← hstall]
    · refine head.trans ?_
      rw [hw]
      dsimp only
      rw [State.stallReport, if_neg (by simpa using hstall)]
    · refine head.trans ?_
      rw [hd]
      refine (State.takeHeads_succ 4 _ ?_).symm
      rw [State.popHead_length, judged]
      omega
    · refine head.trans ?_
      rw [ha]
      refine (if_pos hd).trans (State.takeHeads_succ 4 _ ?_).symm
      rw [State.popHead_length, State.acceptBand_buffer, judged]
      omega
    · refine head.trans ?_
      rw [ha]
      exact if_neg (Bool.eq_false_iff.mp hd)
    · rw [State.popHead, buffer, List.tail_cons]
  · dsimp only
    refine ⟨fun hsize => ?_, fun hsize hrow => ?_, fun hsize hrow hheight => ?_, fun hsize hrow hheight hrows => ?_,
      fun hsize hrow hheight hrows => ?_⟩
    · exact State.acceptBand_of_failure (if_pos (by tauto))
    · exact State.acceptBand_of_failure ((if_neg (by tauto)).trans (if_pos hrow))
    · exact State.acceptBand_of_failure ((if_neg (by tauto)).trans ((if_neg (by tauto)).trans (if_pos hheight)))
    · rw [State.acceptBand_of_pass, if_pos hrows]
      · rfl
      · exact (if_neg (by tauto)).trans ((if_neg (by tauto)).trans (if_neg (by omega)))
    · rw [State.acceptBand_of_pass, if_neg (by omega)]
      · rfl
      · exact (if_neg (by tauto)).trans ((if_neg (by tauto)).trans (if_neg (by omega)))
  · rw [foldl_checkRun, checkOf]
  · dsimp only
    refine ⟨fun hrows hcheck => ?_, fun hrows hcheck => ?_, fun hrows => ?_, fun c => State.breakPage_eq c h⟩
    · rw [State.lastBandDecision, if_pos hrows, if_pos hcheck, State.completePage_eq h]
    · rw [State.lastBandDecision, if_pos hrows, if_neg hcheck, State.breakPage_eq _ h]
    · rw [State.lastBandDecision, if_neg hrows, State.breakPage_eq _ h]

end Sys2Proof.Machine
end

section
/-! SUPPORT. Band writes (R29 to R33, R42, R51): their completion, the rows they carry and the waking of a stalled band; no
operation of Band Intake but DISCARD_PAGE lets a version decrease, and none touches plate memory. -/

namespace Sys2Proof.Machine

set_option Elab.async false

section
variable {s t : State}

/-! ### Band Intake lets no version decrease -/

theorem Steady.calm {u : State} (h : Steady s t) (k : Calm t u) : Steady s u := h.trans k.toSteady

theorem Steady.startRow (h : Steady s t) (b : Band) : Steady s (t.startRow b) := by
  obtain ⟨_, _, _, _, e, hmem, -⟩ := t.startRow_only b
  rw [e]
  exact h.frame rfl hmem

theorem Steady.stallReport (h : Steady s t) (b : Band) : Steady s (t.stallReport b) := by
  unfold State.stallReport
  split <;> exact h.frame

theorem Steady.acceptBand (h : Steady s t) (b : Band) : Steady s (t.acceptBand b).1 := by
  rcases t.acceptBand_cases b with ⟨-, k⟩ | ⟨-, k, -⟩
  · exact h.calm k
  · exact h.trans k

theorem Steady.takeHeads (h : Steady s t) (n : Nat) : Steady s (t.takeHeads n) := by
  induction n generalizing t with
  | zero => exact h
  | succ n ih =>
    by_cases phase : t.intake.phase = none
    · cases buffer : t.intake.buffer with
      | nil =>
        rw [State.takeHeads_idle (.inr buffer)]
        exact h
      | cons b rest =>
        have judged : Steady s (t.judge b).1.endStall := (h.calm (t.judge_calm b)).frame
        rw [State.takeHeads_head phase buffer]
        split
        · exact Steady.stallReport h.frame b
        · exact ih judged.frame
        · split
          · exact ih (judged.acceptBand b).frame
          · exact judged.acceptBand b
    · rw [State.takeHeads_idle (.inl phase)]
      exact h

theorem Steady.runIntake (h : Steady s t) : Steady s t.runIntake := h.takeHeads _

theorem Steady.tell (h : Steady s t) : Steady s t.tell := h.frame
theorem Steady.popHead (h : Steady s t) : Steady s t.popHead := h.frame

theorem Steady.wakeIntake (h : Steady s t) : Steady s t.wakeIntake := by
  unfold State.wakeIntake
  split
  · split
    · exact h
    · exact Steady.startRow h.frame _
  · split
    · exact h
    · exact Steady.runIntake h.frame
  · exact h

theorem Steady.abandonHead (h : Steady s t) (k : PageIx) : Steady s (t.abandonHead k) := by
  unfold State.abandonHead
  split
  · split
    · exact h.frame
    · exact h
  · split
    · exact h.frame
    · exact h
  · exact h

theorem Steady.disposeAbandoned (h : Steady s t) : Steady s t.disposeAbandoned := by
  unfold State.disposeAbandoned
  split
  · exact h.popHead.runIntake
  · exact h

theorem Steady.bandArrives (h : Steady s t) (body : List Byte) : Steady s (t.bandArrives body) := by
  unfold State.bandArrives State.offerBand State.overrunBand
  split
  · exact h.frame
  · split
    · exact Steady.runIntake h.frame
    · have reported : Steady s (t.report (droppedReport (bandOf body) .overrun)) := h.frame
      dsimp only
      split
      · exact ((reported.calm ((Calm.refl _).breakPage _ _)).abandonHead _).wakeIntake.disposeAbandoned
      · exact reported

/-- A row counted as received keeps the version of its entry. -/
theorem State.rowCounted_calm (s : State) (k : PageIx) (n : Nat) : Calm s (s.setPage k { s.page k with rows := n }) := by
  refine DirectoryOnly.calm ⟨_, _, _, rfl, rfl⟩ fun j => ?_
  rw [State.page_setPage]
  split
  · subst j
    exact le_refl _
  · exact le_refl _

theorem Steady.writeHanded (h : Steady s t) : Steady s t.writeHanded := by
  unfold State.writeHanded
  split
  · rename_i b _ _ _
    have counted := h.calm (t.rowCounted_calm b.key ((t.page b.key).rows + 1))
    unfold State.rowWritten
    dsimp only
    split
    · exact Steady.startRow counted.frame b
    · split
      · exact ((Steady.frame counted).calm ((Calm.refl _).lastBandDecision b)).popHead.runIntake
      · exact Steady.runIntake counted.frame
  · exact h.popHead.runIntake
  · exact h

end

/-! ### The bytes of a row (R29) -/

/-- The mask that sets the pad bits of a row's last byte to 0. -/
abbrev padMask (width : Nat) : Byte := 0xFF#8 <<< ((8 - width % 8) % 8)

theorem maskPad_length (width : Nat) (bs : List Byte) : (maskPad width bs).length = bs.length := by
  induction bs with
  | nil => rfl
  | cons b bs ih =>
    cases bs with
    | nil => rfl
    | cons c bs => exact congrArg (· + 1) ih

/-- Of a row the last byte alone is masked. -/
theorem maskPad_getD (width : Nat) (bs : List Byte) (i : Nat) (h : i < bs.length) : (maskPad width bs).getD i 0 =
    if i + 1 = bs.length then bs.getD i 0 &&& padMask width else bs.getD i 0 := by
  induction bs generalizing i with
  | nil => cases h
  | cons b bs ih =>
    cases bs with
    | nil =>
      obtain rfl : i = 0 := by simpa using h
      rfl
    | cons c bs =>
      cases i with
      | zero => simp [maskPad]
      | succ i =>
        have := ih i (by simpa using h)
        simpa [maskPad] using this

/-- Bit `i` from the left of a byte under the mask is kept where it lies within the row's width. -/
theorem getMsbD_and_padMask (width i : Nat) (b : Byte) :
    (b &&& padMask width).getMsbD i = (decide (i < 8 - (8 - width % 8) % 8) && b.getMsbD i) := by
  have ones : (0xFF#8).getMsbD (i + (8 - width % 8) % 8) = decide (i < 8 - (8 - width % 8) % 8) := by
    rw [show (0xFF#8) = BitVec.allOnes 8 from rfl, BitVec.getMsbD_allOnes]
    exact decide_eq_decide.mpr (by omega)
  rw [BitVec.getMsbD_and, BitVec.getMsbD_shiftLeft, ones, Bool.and_comm]

theorem Band.rowOf_length {b : Band} {n : Nat} (hpayload : b.payload.length = b.rows * rowBytes b.width)
    (hn : n < b.rows) : (b.rowOf n).length = rowBytes b.width := by
  have : (n + 1) * rowBytes b.width ≤ b.payload.length := by
    rw [hpayload]
    exact Nat.mul_le_mul_right _ hn
  rw [Band.rowOf, maskPad_length, List.length_take, List.length_drop]
  rw [Nat.succ_mul] at this
  omega

/-- The pixels of a row stand in its bytes, with the pad bits 0. -/
theorem Band.rowOf_pixel {b : Band} {n x : Nat} (hpayload : b.payload.length = b.rows * rowBytes b.width)
    (hn : n < b.rows) (hx : x < 8 * rowBytes b.width) :
    ((b.rowOf n).getD (x / 8) 0).getMsbD (x % 8) =
      (decide (x < b.width) && (b.payload.getD (n * rowBytes b.width + x / 8) 0).getMsbD (x % 8)) := by
  have length : ((b.payload.drop (n * rowBytes b.width)).take (rowBytes b.width)).length = rowBytes b.width := by
    rw [← maskPad_length b.width, ← Band.rowOf]
    exact Band.rowOf_length hpayload hn
  have byte : x / 8 < rowBytes b.width := by omega
  have unmasked : ((b.payload.drop (n * rowBytes b.width)).take (rowBytes b.width)).getD (x / 8) 0
      = b.payload.getD (n * rowBytes b.width + x / 8) 0 := by
    simp only [List.getD_eq_getElem?_getD, List.getElem?_take_of_lt byte, List.getElem?_drop]
  have bytes : rowBytes b.width = (b.width + 7) / 8 := rfl
  rw [Band.rowOf, maskPad_getD _ _ _ (by rw [length]; exact byte), length, unmasked]
  split
  · rw [getMsbD_and_padMask]
    congr 1
    exact decide_eq_decide.mpr (by omega)
  · rw [decide_eq_true (by omega), Bool.true_and]

/-! ### The rows asked to be written, and the waking -/

theorem RasterStore.takeStrip_cons {st : RasterStore} {n : Nat} {rest : List Nat} (d : DescId) (h : st.free = n :: rest) :
    st.takeStrip d = some { st with
      free := rest, table := st.table.set d.val { st.desc d with strips := (st.desc d).strips ++ [n] } } := by
  unfold RasterStore.takeStrip
  rw [h]

/-- A strip taken leaves the size of the raster. -/
theorem RasterStore.takeStrip_size {st st' : RasterStore} {d : DescId} (h : st.takeStrip d = some st') :
    (st'.desc d).perStrip = (st.desc d).perStrip ∧ (st'.desc d).width = (st.desc d).width := by
  unfold RasterStore.takeStrip at h
  split at h
  · cases h
  · cases h
    simp only [RasterStore.desc, Vector.getElem_set_self, and_self]

/-- The row write that is asked for, by the width and the rows per strip of its descriptor (R29, R42). -/
theorem State.requestWrite_eq (s : State) (b : Band) (d : DescId) (row : Nat) {r width : Nat}
    (hr : (s.store.desc d).perStrip = r) (hwidth : (s.store.desc d).width = width) : s.requestWrite b d row =
      { s with store := s.store.request (.write
        { desc := d, strip := (s.store.desc d).strips.getD (row / r) 0, row := row % r
          bytes := b.rowOf s.intake.nextRow
          addr := (s.store.desc d).strips.getD (row / r) 0 * 262144 + row % r * ((width + 7) / 8) }) } := by
  subst hr hwidth
  simp only [State.requestWrite, State.onStore, Descriptor.address, Descriptor.stripOf, Nat.add_zero, rowBytes]

theorem RasterStore.firstFree_ne_none {st : RasterStore} (h : ∃ d, (st.desc d).state = .free) :
    st.firstFree ≠ none := by
  obtain ⟨d, hd⟩ := h
  exact fun hnone => RasterStore.firstFree_none.mp hnone d hd

section
variable {s : State} {b : Band} {rest : List Band}

theorem State.wakeIntake_strip (phase : s.intake.phase = some .waitingStrip) (buffer : s.intake.buffer = b :: rest)
    (free : s.store.free ≠ []) : s.wakeIntake =
      State.startRow { s with intake := { s.intake with phase := some .writing, stall := false } } b := by
  simp only [State.wakeIntake, phase, buffer, if_neg free]
  rfl

theorem State.wakeIntake_no_strip (phase : s.intake.phase = some .waitingStrip) (free : s.store.free = []) :
    s.wakeIntake = s := by
  unfold State.wakeIntake
  rw [phase]
  split
  · exact if_pos free
  · rename_i h _
    cases h
  · rfl

theorem State.wakeIntake_descriptor (phase : s.intake.phase = some .waitingDescriptor)
    (buffer : s.intake.buffer = b :: rest) (free : s.store.firstFree ≠ none) :
    s.wakeIntake = State.runIntake { s with intake := { s.intake with phase := none } } := by
  unfold State.wakeIntake
  rw [phase, buffer]
  exact if_neg free

theorem State.wakeIntake_no_descriptor (phase : s.intake.phase = some .waitingDescriptor)
    (free : s.store.firstFree = none) : s.wakeIntake = s := by
  unfold State.wakeIntake
  rw [phase]
  split
  · rename_i h _
    cases h
  · exact if_pos free
  · rfl

theorem State.wakeIntake_other (strip : s.intake.phase ≠ some .waitingStrip)
    (descriptor : s.intake.phase ≠ some .waitingDescriptor) : s.wakeIntake = s := by
  unfold State.wakeIntake
  split
  · exact absurd ‹_› strip
  · exact absurd ‹_› descriptor
  · rfl

/-! ### The completion of a band write (R29, R32) -/

theorem State.rowWritten_more (h : s.intake.nextRow + 1 < b.rows) : s.rowWritten b =
    State.startRow { s with
      pages := s.pages.set b.key.val { s.page b.key with rows := (s.page b.key).rows + 1 }
      intake := { s.intake with nextRow := s.intake.nextRow + 1 } } b := if_pos h

theorem State.rowWritten_last (h : b.rows ≤ s.intake.nextRow + 1) : s.rowWritten b =
    let counted : State := { s with
      pages := s.pages.set b.key.val { s.page b.key with rows := (s.page b.key).rows + 1 }
      intake := { s.intake with nextRow := s.intake.nextRow + 1 } }
    if b.last then (counted.lastBandDecision b).popHead.runIntake else counted.popHead.runIntake :=
  if_neg (Nat.not_lt.mpr h)

theorem State.writeHanded_writing (phase : s.intake.phase = some .writing) (buffer : s.intake.buffer = b :: rest) :
    s.writeHanded = s.rowWritten b := by
  simp only [State.writeHanded, phase, buffer]

theorem State.writeHanded_abandoned (phase : s.intake.phase = some .abandoned) (buffer : s.intake.buffer = b :: rest) :
    s.writeHanded = s.popHead.runIntake := by
  simp only [State.writeHanded, phase, buffer]

theorem exec_bandWriteCompletion_eq {w : BandWrite} (h : s.store.inService = some (.write w)) :
    exec .bandWriteCompletion s = .next (s.writeLands w).beginHanding.writeHanded.finish := by
  show execBandWriteCompletion s = _
  simp only [execBandWriteCompletion, h]
  rfl

end

/-- Settles O14: the completion by the phase of the head band, the row it asks for next, and the waking by the phase. -/
theorem bandWritesComplete : Obligations.BandWritesComplete := by
  refine ⟨fun s w hw hwf => ?_, fun s b d hd => ?_, fun b n => ?_, fun s => ?_⟩
  · rw [exec_bandWriteCompletion_eq hw]
    let landed := (s.writeLands w).beginHanding
    refine ⟨fun t ht => ?_, fun b rest buffer => ⟨fun phase hn => ?_, fun phase hn hlast => ?_, fun phase hn hlast => ?_,
      fun phase => ?_⟩⟩
    · cases ht
      rw [(Steady.refl landed).writeHanded.finish.mem]
      exact ⟨Memory.writeBytes_wf _ _ _ hwf, fun a => Memory.read?_writeBytes _ _ _ a hwf⟩
    · rw [State.writeHanded_writing (s := landed) phase buffer, State.rowWritten_more (s := landed) hn]
      rfl
    · rw [State.writeHanded_writing (s := landed) phase buffer, State.rowWritten_last (s := landed) hn, hlast]
      rfl
    · rw [State.writeHanded_writing (s := landed) phase buffer, State.rowWritten_last (s := landed) hn, hlast]
      rfl
    · rw [State.writeHanded_abandoned (s := landed) phase buffer]
      rfl
  · dsimp only
    refine ⟨fun hrow => (State.startRow_within hd hrow).trans (s.requestWrite_eq b d _ rfl rfl), fun n rest hrow hfree => ?_,
      fun hrow hfree hstall => ?_, fun hrow hfree hstall => ?_⟩
    · have taken := RasterStore.takeStrip_cons d hfree
      obtain ⟨hr, hwidth⟩ := RasterStore.takeStrip_size taken
      rw [State.startRow_takes hd hrow taken]
      exact State.requestWrite_eq _ b d _ hr hwidth
    · rw [State.startRow_waits hd hrow hfree, State.stallReport, if_pos hstall, ← hstall]
    · rw [State.startRow_waits hd hrow hfree, State.stallReport, if_neg (by simpa using hstall)]
  · exact fun _ hpayload hn =>
      ⟨Band.rowOf_length hpayload hn, fun x hx => Band.rowOf_pixel hpayload hn hx⟩
  · refine ⟨fun b rest phase buffer free => State.wakeIntake_strip phase buffer free,
      fun phase free => State.wakeIntake_no_strip phase free, fun phase buffer free => ?_, fun phase free => ?_,
      fun strip descriptor => State.wakeIntake_other strip descriptor⟩
    · obtain ⟨b, rest, hb⟩ := List.exists_cons_of_ne_nil buffer
      exact State.wakeIntake_descriptor phase hb (RasterStore.firstFree_ne_none free)
    · exact State.wakeIntake_no_descriptor phase (RasterStore.firstFree_none.mpr free)

end Sys2Proof.Machine
end

section
/-! SUPPORT. RELEASE_PAGE and DISCARD_PAGE (R38 to R40) and the abandoning of a band (R32). -/

namespace Sys2Proof.Machine

set_option Elab.async false

section
variable {s : State} {f : ControlFrame} {code : Byte}

/-! ### The page commands' fields (R39) -/

/-- A page command of a separation above 3 is refused. -/
theorem taking_page_refused {page sep : Byte} (run : PageIx → State → State × Answer)
    (h : s.Offers f code [page, sep]) (hcode : code ≠ 0x20) (shape : (code.toNat, 2) ∈ fixedShapes)
    (hsep : 3 < sep.toNat) :
    taking code.toNat (fun args s => checked (pageFields args) s (run (pageOperand args) s)) s =
      .next (s.replied f code { status := .badField, field := 2 }) := by
  have bad : firstBad (pageFields [page, sep]) = some 2 := firstBad_singleton_bad (not_within_zero hsep)
  rw [taking_of_fixed _ h hcode shape, checked_bad _ _ _ 2 bad]
  rfl

/-- A page command of a key runs on the entry of the key. -/
theorem taking_page_runs {k : PageIx} (run : PageIx → State → State × Answer)
    (h : s.Offers f code [(keyBytes k).1, (keyBytes k).2]) (hcode : code ≠ 0x20)
    (shape : (code.toNat, 2) ∈ fixedShapes) :
    taking code.toNat (fun args s => checked (pageFields args) s (run (pageOperand args) s)) s =
      .next ((run k s.dropControl).1.placeReply f code (run k s.dropControl).2).finish := by
  have sep : byteAt [(keyBytes k).1, (keyBytes k).2] 1 ≤ 3 := by
    show (keyBytes k).2.toNat ≤ 3
    rw [(keyBytes_toNat k).2]
    omega
  have ok : firstBad (pageFields [(keyBytes k).1, (keyBytes k).2]) = none := firstBad_singleton_ok (within_zero sep)
  rw [taking_of_fixed _ h hcode shape, checked_ok _ _ _ ok, pageOperand_keyBytes]

theorem exec_releasePage_eq (s : State) : exec .releasePage s =
    taking (0x10 : Byte).toNat
      (fun args s => checked (pageFields args) s (runReleasePage (pageOperand args) s)) s := rfl

theorem exec_discardPage_eq (s : State) : exec .discardPage s =
    taking (0x11 : Byte).toNat
      (fun args s => checked (pageFields args) s (runDiscardPage (pageOperand args) s)) s := rfl

end

section
variable {s : State} {k : PageIx} {d : DescId} {b : Band} {rest : List Band}

/-! ### The raster given back (R48, R50) -/

/-- Without an exposure hold the descriptor is freed at once. -/
theorem RasterStore.dropDirHold_frees {st : RasterStore} (h : (st.desc d).expHolds = 0) (superseded : Bool) :
    st.dropDirHold d superseded =
      { st with free := st.free ++ (st.desc d).strips, table := st.table.set d.val {} } := if_pos h

theorem State.releasePage_eq (raster : (s.page k).raster = some d) (holds : (s.store.desc d).expHolds = 0) :
    s.releasePage k = { s with
      pages := s.pages.set k.val { s.page k with state := .released, raster := none }
      store := { s.store with free := s.store.free ++ (s.store.desc d).strips, table := s.store.table.set d.val {} }
      reports := s.reports.offer
        { kind := .pageReleased, key := some (keyBytes k), version := some (s.page k).version } } := by
  rw [← RasterStore.dropDirHold_frees holds false]
  simp only [State.releasePage, raster]
  rfl

/-! ### References (R67) -/

theorem State.referenced_iff :
    s.referenced k = true ↔ ∃ p : Slot, (s.plate p).state ≠ .free ∧ k ∈ (s.plate p).load.keys := by
  simp [State.referenced, State.slotsOn, and_comm]

/-! ### The abandoned band (R32) -/

theorem State.abandonHead_writing (buffer : s.intake.buffer = b :: rest) (key : b.key = k)
    (phase : s.intake.phase = some .writing) :
    s.abandonHead k = { s with intake := { s.intake with phase := some .abandoned } } := by
  unfold State.abandonHead
  rw [phase, buffer]
  exact if_pos key

theorem State.abandonHead_strip (buffer : s.intake.buffer = b :: rest) (key : b.key = k)
    (phase : s.intake.phase = some .waitingStrip) :
    s.abandonHead k = { s with intake := { s.intake with phase := some .abandoned, stall := false } } := by
  unfold State.abandonHead
  rw [phase, buffer]
  exact if_pos key

/-- A head band of another key, or one that is not being written, is not abandoned. -/
theorem State.abandonHead_other (h : (∀ b rest, s.intake.buffer = b :: rest → b.key ≠ k)
    ∨ (s.intake.phase ≠ some .writing ∧ s.intake.phase ≠ some .waitingStrip)) : s.abandonHead k = s := by
  unfold State.abandonHead
  split
  · rename_i phase buffer
    exact if_neg (h.elim (fun hkey => hkey _ _ buffer) fun hphase => absurd phase hphase.1)
  · rename_i phase buffer
    exact if_neg (h.elim (fun hkey => hkey _ _ buffer) fun hphase => absurd phase hphase.2)
  · rfl

theorem State.disposeAbandoned_pops (phase : s.intake.phase = some .abandoned)
    (idle : s.store.writeInFlight = false) : s.disposeAbandoned = s.popHead.runIntake := if_pos ⟨phase, idle⟩

theorem State.disposeAbandoned_stays (h : s.intake.phase ≠ some .abandoned ∨ s.store.writeInFlight = true) :
    s.disposeAbandoned = s :=
  if_neg fun hboth => h.elim (fun hphase => hphase hboth.1) fun hwrite => by rw [hwrite] at hboth; cases hboth.2

/-! ### DISCARD_PAGE (R40) -/

theorem State.discardPage_without_raster (raster : (s.page k).raster = none) :
    s.discardPage k = ((s.abandonHead k).setPage k { demand := (s.page k).demand }).disposeAbandoned := by
  simp only [State.discardPage, raster]

/-- The state with a descriptor freed. -/
def State.freed (s : State) (d : DescId) : State :=
  { s with store := { s.store with
      free := s.store.free ++ (s.store.desc d).strips, table := s.store.table.set d.val {} } }

theorem State.discardPage_with_raster (raster : (s.page k).raster = some d) (holds : (s.store.desc d).expHolds = 0) :
    s.discardPage k = (((s.freed d).abandonHead k).setPage k { demand := (s.page k).demand }).disposeAbandoned := by
  simp only [State.discardPage, raster, State.onStore, RasterStore.dropDirHold_frees holds, State.freed]

end

/-- Settles O13: the two commands by their checks, and the abandoning of the head band by its phase and key. -/
theorem pagesAreReleasedAndDiscarded : Obligations.PagesAreReleasedAndDiscarded := by
  refine ⟨fun s f k => ⟨fun page sep h hsep => ?_, fun h => ⟨fun complete demand => ?_, fun complete demand => ?_,
    fun complete => ?_⟩, fun d raster holds => State.releasePage_eq raster holds⟩, fun s f k =>
    ⟨fun page sep h hsep => ?_, fun h => ⟨fun href => ?_, fun href => ?_⟩, fun phase raster => ?_,
      fun d raster holds => ?_⟩, fun s k b rest buffer => ?_⟩
  · exact taking_page_refused runReleasePage h (by decide) (by decide) hsep
  · rw [exec_releasePage_eq, taking_page_runs runReleasePage h (by decide) (by decide)]
    have runs : runReleasePage k s.dropControl = carryOut (s.dropControl.releasePage k) :=
      (if_pos complete).trans (if_pos demand)
    rw [runs]
    rfl
  · rw [exec_releasePage_eq, taking_page_runs runReleasePage h (by decide) (by decide)]
    have refused : runReleasePage k s.dropControl = refuse s.dropControl .inDemand :=
      (if_pos complete).trans (if_neg (Nat.ne_of_gt demand))
    rw [refused]
    rfl
  · rw [exec_releasePage_eq, taking_page_runs runReleasePage h (by decide) (by decide)]
    have refused : runReleasePage k s.dropControl = refuse s.dropControl .wrongState := if_neg complete
    rw [refused]
    rfl
  · exact taking_page_refused runDiscardPage h (by decide) (by decide) hsep
  · rw [exec_discardPage_eq, taking_page_runs runDiscardPage h (by decide) (by decide)]
    have refused : runDiscardPage k s.dropControl = refuse s.dropControl .referenced :=
      if_pos (State.referenced_iff (s := s.dropControl).mpr href)
    rw [refused]
    rfl
  · rw [exec_discardPage_eq, taking_page_runs runDiscardPage h (by decide) (by decide)]
    have runs : runDiscardPage k s.dropControl = carryOut (s.dropControl.discardPage k) := by
      refine if_neg fun hreferenced => ?_
      obtain ⟨p, hfree, hkey⟩ := State.referenced_iff (s := s.dropControl).mp hreferenced
      exact hfree (href p hkey)
    rw [runs]
    rfl
  · rw [State.discardPage_without_raster raster, State.abandonHead_other (.inr (by rw [phase]; decide)),
      State.disposeAbandoned_stays (.inl (by rw [State.setPage_intake, phase]; exact nofun))]
    rfl
  · dsimp only
    refine ⟨fun phase => ?_, fun b rest buffer key phase write => ?_⟩
    · rw [State.discardPage_with_raster raster holds,
        State.abandonHead_other (s := s.freed d) (.inr (by rw [State.freed, phase]; decide)),
        State.disposeAbandoned_stays (.inl (by rw [State.setPage_intake, State.freed, phase]; exact nofun))]
      rfl
    · rw [State.discardPage_with_raster raster holds, State.abandonHead_writing (s := s.freed d) buffer key phase]
      exact State.disposeAbandoned_stays (.inr write)
  · refine ⟨fun key phase => State.abandonHead_writing buffer key phase,
      fun key phase => State.abandonHead_strip buffer key phase, fun h => State.abandonHead_other ?_,
      fun phase idle => ?_, fun h => State.disposeAbandoned_stays h, fun d raster holds =>
      ⟨fun key phase idle => ?_, fun h hstays => ?_⟩⟩
    · exact h.imp_left fun key b' rest' hbuffer => by cases buffer.symm.trans hbuffer; exact key
    · rw [State.disposeAbandoned_pops phase idle, State.popHead, buffer, List.tail_cons]
    · rw [State.discardPage_with_raster raster holds, State.abandonHead_strip (s := s.freed d) buffer key phase]
      refine (State.disposeAbandoned_pops ?_ ?_).trans ?_
      · rfl
      · exact idle
      · simp only [State.popHead, State.freed, State.setPage, buffer, List.tail_cons]
    · rw [State.discardPage_with_raster raster holds, State.abandonHead_other (s := s.freed d)]
      · exact State.disposeAbandoned_stays hstays
      · exact h.imp_left fun key b' rest' hbuffer => by cases buffer.symm.trans hbuffer; exact key

end Sys2Proof.Machine
end

section
/-! SUPPORT. What a command can do, said once: the effects that the events have and those that control commands carry out.
A predicate that each of these effects keeps is kept by every command. -/

namespace Sys2Proof.Machine

set_option Elab.async false

/-- From `s` to `t` the Link Port, the reports and what has been sent have changed, and nothing else. -/
def LinkOnly (s t : State) : Prop := ∃ link reports out, t = { s with link := link, reports := reports, out := out }

/-- The effect of a station's message, of a timer or of a memory completion, or of a band that arrives, up to what every
command ends with. -/
inductive Happens (s : State) : State → Prop
  | bandArrives (body : List Byte) : Happens s (s.bandArrives body)
  | bandWritten (w : BandWrite) : Happens s (s.writeLands w).beginHanding.writeHanded
  | readCompletes (r : ScanRead) : Happens s (s.readCompletes r)
  | beginTimeout (l : LineId) (c : Exposure) : (s.line l).exposure = some c → Happens s (s.timeoutBegin l c)
  | beginAccept (l : LineId) : Happens s (s.takeAccept l)
  | beginRefuse (l : LineId) : Happens s (s.takeRefuse l)
  | beginRefuseLocal (l : LineId) : Happens s (s.takeRefuseLocal l)
  | lineRequest (l : LineId) : Happens s (s.takeLineRequest l)
  | exposeEnd (l : LineId) (cause : EndCause) : Happens s (s.takeEnd l cause)
  | exposeEndFault (l : LineId) : Happens s (s.takeEndFault l)
  | unitStatus (l : LineId) (ready : Bool) (stock : Option Nat) (unitLocal : Bool) :
      Happens s (s.takeStatus l ready stock unitLocal)
  | pbArrival (l : LineId) (mark : Option Nat) : Happens s (s.takeArrival l mark)
  | pbSetupDone (l : LineId) : Happens s (s.takeSetupDone l)
  | pbDone (l : LineId) : Happens s (s.takeDone l)
  | pbFault (l : LineId) : Happens s (s.takePunchFault l)
  | fault (l : LineId) (c : Cause) (p : Option Slot) : Happens s (s.faultLine l c p)
  | soArrival (l : LineId) : Happens s (s.takeSorterArrival l)
  | soStacked (l : LineId) (bin : Nat) : Happens s (s.takeStacked l bin)
  | soBinEmptied (l : LineId) (bin : Nat) : Happens s (s.takeEmptied l bin)

/-- The effect of a control command that is carried out, DISCARD_PAGE and the queries excepted. -/
inductive Carries (s : State) : State → Prop
  | releasePage (k : PageIx) : (s.page k).state = .complete → (s.page k).demand = 0 → Carries s (s.releasePage k)
  | loadFree (p : Slot) (x : PlateLoad) : (s.plate p).state = .free → Carries s (s.loadFree p x)
  | replacePlate (p : Slot) (x : PlateLoad) : (s.plate p).state.inFlight = false → Carries s (s.replacePlate p x)
  | dropPlate (p : Slot) : (s.plate p).state ≠ .exposing → (s.plate p).state ≠ .exposed → Carries s (s.dropPlate p)
  | remakeDelivered (p : Slot) : (s.plate p).state = .delivered →
      Carries s ((s.offerDemand [] (s.plate p).load.keys).remake p)
  | remake (p : Slot) : (s.plate p).state = .obsolete ∨ (s.plate p).state = .spoiled → Carries s (s.remake p)
  | lineConfig (l : LineId) (c : LineConfig) (capacity : BinId → Nat) : Carries s (s.configure l c capacity)
  | lineStart (l : LineId) : Carries s ((s.setMode l .running).startTest l)
  | linePause (l : LineId) (m : LineMode) : Carries s (s.setMode l m)
  | lineDrain (l : LineId) : Carries s (((s.setMode l .draining).drainTest l).startTest l)
  | lineReset (l : LineId) : Carries s (s.resetLine l)
  | lineClearFault (l : LineId) : Carries s ((s.clearTransit l .lineFault).stopLine l)
  | loadProfile (f : ProfileId) (x : Profile) : Carries s (s.loadProfile f x)
  | binOpen (l : LineId) (b : BinId) : Carries s ((s.setClosed l b false).routeWaiting l)
  | binClose (l : LineId) (b : BinId) : Carries s (s.setClosed l b true)

/-- A predicate kept by every effect but DISCARD_PAGE and the resets, and by what a command ends with. -/
structure Preserved (P : State → Prop) : Prop where
  link : ∀ {s t : State}, P s → LinkOnly s t → P t
  event : ∀ {s t : State}, P s → Happens s t → P t
  carried : ∀ {s t : State}, P s → Carries s t → P t
  wake : ∀ {s : State}, P s → P s.wakeIntake
  settle : ∀ {s : State}, P s → P s.settle
  finish : ∀ {s : State}, P s → P s.finish

namespace Preserved

variable {P : State → Prop} {s t : State}

/-! ### The control commands -/

theorem carryOut (h : Preserved P) (hs : P s) (k : Carries s t) : P (carryOut t).1 :=
  h.settle (h.wake (h.carried hs k))

theorem checked {fields : List FieldCheck} {run : State × Answer} (hs : P s) (h : P run.1) :
    P (Machine.checked fields s run).1 := by
  unfold Machine.checked
  split
  · exact hs
  · exact h

theorem onLineCommand {args : List Byte} {run : LineId → State × Answer} (hs : P s) (h : ∀ l, P (run l).1) :
    P (Machine.onLineCommand args s run).1 := checked hs (h _)

theorem runReleasePage (h : Preserved P) (hs : P s) (k : PageIx) : P (runReleasePage k s).1 := by
  unfold Machine.runReleasePage
  split
  · split
    · exact h.carryOut hs (.releasePage k ‹_› ‹_›)
    · exact hs
  · exact hs

theorem runDiscardPage (h : Preserved P)
    (discard : ∀ {u : State} (k : PageIx), P u → u.referenced k = false → P (u.discardPage k)) (hs : P s) (k : PageIx) :
    P (runDiscardPage k s).1 := by
  unfold Machine.runDiscardPage
  split
  · exact hs
  · rename_i free
    exact h.settle (h.wake (discard k hs (Bool.eq_false_iff.mpr free)))

theorem runLoadPlate (h : Preserved P) (hs : P s) (p : Slot) (x : PlateLoad) : P (runLoadPlate p x s).1 := by
  unfold Machine.runLoadPlate
  split
  · exact hs
  · rename_i idle
    split
    · exact hs
    · split
      · exact h.carryOut hs (.loadFree p x ‹_›)
      · exact h.carryOut hs (.replacePlate p x (by simpa using idle))

theorem runDropPlate (h : Preserved P) (hs : P s) (p : Slot) : P (runDropPlate p s).1 := by
  unfold Machine.runDropPlate
  split
  case h_1 | h_2 | h_3 => exact hs
  all_goals
    rename_i hstate
    exact h.carryOut hs (.dropPlate p (by rw [hstate]; decide) (by rw [hstate]; decide))

theorem runRemakePlate (h : Preserved P) (hs : P s) (p : Slot) : P (runRemakePlate p s).1 := by
  unfold Machine.runRemakePlate
  split
  case h_1 => exact h.carryOut hs (.remakeDelivered p ‹_›)
  case h_2 => exact h.carryOut hs (.remake p (.inl ‹_›))
  case h_3 => exact h.carryOut hs (.remake p (.inr ‹_›))
  all_goals exact hs

theorem runLineConfig (h : Preserved P) (hs : P s) (args : List Byte) (l : LineId) : P (runLineConfig args l s).1 := by
  unfold Machine.runLineConfig
  split
  · exact checked hs (h.carryOut hs (.lineConfig l _ _))
  · exact hs

theorem runLineStart (h : Preserved P) (hs : P s) (l : LineId) : P (runLineStart l s).1 := by
  unfold Machine.runLineStart
  split
  · exact hs
  · split
    · exact hs
    · exact h.carryOut hs (.lineStart l)

theorem runLinePause (h : Preserved P) (hs : P s) (l : LineId) : P (runLinePause l s).1 := by
  unfold Machine.runLinePause
  split
  case h_1 => exact h.carryOut hs (.linePause l _)
  all_goals exact hs

theorem runLineDrain (h : Preserved P) (hs : P s) (l : LineId) : P (runLineDrain l s).1 := by
  unfold Machine.runLineDrain
  split
  case h_1 | h_2 | h_3 => exact hs
  all_goals exact h.carryOut hs (.lineDrain l)

theorem runLineClearFault (h : Preserved P) (hs : P s) (l : LineId) : P (runLineClearFault l s).1 := by
  unfold Machine.runLineClearFault
  split
  · split
    · exact h.carryOut hs (.lineClearFault l)
    · exact hs
  · exact hs

theorem runLoadProfile (h : Preserved P) (hs : P s) (f : ProfileId) (x : Profile) : P (runLoadProfile f x s).1 := by
  unfold Machine.runLoadProfile
  split
  · exact hs
  · exact h.carryOut hs (.loadProfile f x)

/-- A command that does nothing. -/
theorem idle {o : Host.Outcome State Fault Refusal} (hs : P s) (ht : o = .next t) (ho : o = .next s := by rfl) : P t :=
  Host.Outcome.next.inj (ho.symm.trans ht) ▸ hs

/-- A command with an effect. -/
theorem conclude {u : State} (h : Preserved P) (hu : P u) (ht : Machine.conclude u = .next t) : P t :=
  Host.Outcome.next.inj ht ▸ h.finish hu

/-- The taking of a command whose run keeps the predicate. -/
theorem taking (h : Preserved P) {code : Nat} {run : List Byte → State → State × Answer}
    (hrun : ∀ args u, P u → P (run args u).1) (hs : P s) (ht : taking code run s = .next t) : P t := by
  unfold Machine.taking at ht
  split at ht
  · exact idle hs ht
  · exact h.conclude (h.link (hrun _ _ (h.link hs ⟨_, _, _, rfl⟩)) ⟨_, _, _, rfl⟩) ht

/-! ### The events -/

/-- A message of a station whose effect keeps the predicate. -/
theorem onLine (h : Preserved P) {l : LineId} {effect : State → State} (heffect : Happens s (effect s)) (hs : P s)
    (ht : onLine s l effect = .next t) : P t := by
  unfold Machine.onLine at ht
  split at ht
  · exact h.conclude (h.event hs heffect) ht
  · exact idle hs ht

theorem frameArrives (h : Preserved P) (hs : P s) (f : RawFrame) : P (s.frameArrives f) := by
  rcases s.frameArrives_cases f with e | e | e <;> rw [e]
  · exact h.finish (h.event hs (.bandArrives _))
  · refine h.finish ?_
    unfold State.controlArrives
    split
    · exact h.link hs ⟨_, _, _, rfl⟩
    · exact hs
  · exact hs

theorem execFrameArrival (h : Preserved P) {bytes : List Byte} (hs : P s)
    (ht : execFrameArrival bytes s = .next t) : P t := by
  unfold Machine.execFrameArrival at ht
  split at ht
  · refine idle (s := s.receive bytes) ?_ ht
    exact List.foldlRecOn (motive := P) _ _ (h.link hs ⟨_, _, _, rfl⟩) fun u hu f _ => h.frameArrives hu f
  · exact idle hs ht

theorem endTransmission (h : Preserved P) (hs : P s) (x : Transmission) : P (s.endTransmission x) := by
  refine h.link hs ?_
  unfold State.endTransmission
  dsimp only
  split
  · exact ⟨_, _, _, rfl⟩
  · split <;> exact ⟨_, _, _, rfl⟩
  · split <;> exact ⟨_, _, _, rfl⟩

theorem execTransmissionEnd (h : Preserved P) (hs : P s) (ht : execTransmissionEnd s = .next t) : P t := by
  unfold Machine.execTransmissionEnd at ht
  split at ht
  · exact idle hs ht
  · exact h.conclude (h.endTransmission hs _) ht

theorem execLinkDown (h : Preserved P) (hs : P s) (ht : execLinkDown s = .next t) : P t := by
  unfold Machine.execLinkDown at ht
  split at ht
  · exact idle (h.link hs ⟨_, _, _, rfl⟩) ht
  · exact idle hs ht

theorem execLinkUp (h : Preserved P) (hs : P s) (ht : execLinkUp s = .next t) : P t := by
  unfold Machine.execLinkUp at ht
  split at ht
  · exact idle hs ht
  · exact h.conclude (h.link hs ⟨_, _, _, rfl⟩) ht

theorem execBadFrame (h : Preserved P) (hs : P s) (ht : execBadFrame s = .next t) : P t := by
  unfold Machine.execBadFrame at ht
  split at ht
  · exact idle hs ht
  · split at ht
    · exact idle hs ht
    · exact h.conclude (h.link hs ⟨_, _, _, rfl⟩) ht

theorem execEngineReset (h : Preserved P) (reset : P s.engineReset) (hs : P s) (ht : execEngineReset s = .next t) :
    P t := by
  unfold Machine.execEngineReset at ht
  split at ht
  · exact idle hs ht
  · exact h.conclude reset ht

theorem execBandWriteCompletion (h : Preserved P) (hs : P s) (ht : execBandWriteCompletion s = .next t) : P t := by
  unfold Machine.execBandWriteCompletion at ht
  split at ht
  · exact h.conclude (h.event hs (.bandWritten _)) ht
  · exact idle hs ht

theorem execScanReadCompletion (h : Preserved P) (hs : P s) (ht : execScanReadCompletion s = .next t) : P t := by
  unfold Machine.execScanReadCompletion at ht
  split at ht
  · exact h.conclude (h.event hs (.readCompletes _)) ht
  · exact idle hs ht

theorem execBeginTimeout (h : Preserved P) {l : LineId} (hs : P s) (ht : execBeginTimeout l s = .next t) : P t := by
  unfold Machine.execBeginTimeout at ht
  split at ht
  · exact idle hs ht
  · split at ht
    · exact h.conclude (h.event hs (.beginTimeout l _ ‹_›)) ht
    · exact idle hs ht

theorem execDeadlineExpiry (h : Preserved P) {l : LineId} {p : Slot} (hs : P s)
    (ht : execDeadlineExpiry l p s = .next t) : P t := by
  unfold Machine.execDeadlineExpiry at ht
  split at ht
  · exact idle hs ht
  · exact h.conclude (h.event hs (.fault l _ _)) ht

/-- A predicate that the effects of all commands keep, DISCARD_PAGE and the resets where `c` is one of them, is kept by
the execution of `c`. -/
theorem exec (h : Preserved P) (c : Instr)
    (discard : c = .discardPage → ∀ {u : State} (k : PageIx), P u → u.referenced k = false → P (u.discardPage k))
    (power : c = .powerOn → P { s.resetBlocks with powerCycle := s.powerCycle + 1 })
    (reset : c = .engineReset → P s.engineReset) (hs : P s) (ht : exec c s = .next t) : P t := by
  cases c with
  | powerOn => exact h.conclude (power rfl) ht
  | engineReset => exact h.execEngineReset (reset rfl) hs ht
  | linkDown => exact h.execLinkDown hs ht
  | linkUp => exact h.execLinkUp hs ht
  | frameArrival bytes => exact h.execFrameArrival hs ht
  | damagedFrame bytes => exact h.execFrameArrival hs ht
  | transmissionEnd => exact h.execTransmissionEnd hs ht
  | badFrame => exact h.execBadFrame hs ht
  | engineInfo =>
    unfold Machine.exec execEngineInfo at ht
    refine h.taking (fun args u hu => ?_) hs ht
    exact hu
  | releasePage =>
    unfold Machine.exec execReleasePage at ht
    refine h.taking (fun args u hu => ?_) hs ht
    exact checked hu (h.runReleasePage hu _)
  | discardPage =>
    unfold Machine.exec execDiscardPage at ht
    refine h.taking (fun args u hu => ?_) hs ht
    exact checked hu (h.runDiscardPage (discard rfl) hu _)
  | queryPage =>
    unfold Machine.exec execQueryPage at ht
    refine h.taking (fun args u hu => ?_) hs ht
    exact checked hu hu
  | loadPlate =>
    unfold Machine.exec execLoadPlate at ht
    refine h.taking (fun args u hu => ?_) hs ht
    exact checked hu (h.runLoadPlate hu _ _)
  | dropPlate =>
    unfold Machine.exec execDropPlate at ht
    refine h.taking (fun args u hu => ?_) hs ht
    exact checked hu (h.runDropPlate hu _)
  | remakePlate =>
    unfold Machine.exec execRemakePlate at ht
    refine h.taking (fun args u hu => ?_) hs ht
    exact checked hu (h.runRemakePlate hu _)
  | queryPlate =>
    unfold Machine.exec execQueryPlate at ht
    refine h.taking (fun args u hu => ?_) hs ht
    exact checked hu hu
  | lineConfig =>
    unfold Machine.exec execLineConfig at ht
    refine h.taking (fun args u hu => ?_) hs ht
    exact onLineCommand hu fun l => h.runLineConfig hu args l
  | lineStart =>
    unfold Machine.exec execLineStart at ht
    refine h.taking (fun args u hu => ?_) hs ht
    exact onLineCommand hu fun l => h.runLineStart hu l
  | linePause =>
    unfold Machine.exec execLinePause at ht
    refine h.taking (fun args u hu => ?_) hs ht
    exact onLineCommand hu fun l => h.runLinePause hu l
  | lineDrain =>
    unfold Machine.exec execLineDrain at ht
    refine h.taking (fun args u hu => ?_) hs ht
    exact onLineCommand hu fun l => h.runLineDrain hu l
  | lineReset =>
    unfold Machine.exec execLineReset at ht
    refine h.taking (fun args u hu => ?_) hs ht
    exact onLineCommand hu fun l => h.carryOut hu (.lineReset l)
  | lineClearFault =>
    unfold Machine.exec execLineClearFault at ht
    refine h.taking (fun args u hu => ?_) hs ht
    exact onLineCommand hu fun l => h.runLineClearFault hu l
  | queryLine =>
    unfold Machine.exec execQueryLine at ht
    refine h.taking (fun args u hu => ?_) hs ht
    exact onLineCommand hu fun _ => hu
  | loadProfile =>
    unfold Machine.exec execLoadProfile at ht
    refine h.taking (fun args u hu => ?_) hs ht
    exact checked hu (h.runLoadProfile hu _ _)
  | binOpen =>
    unfold Machine.exec execBinOpen at ht
    refine h.taking (fun args u hu => ?_) hs ht
    exact checked hu (h.carryOut hu (.binOpen _ _))
  | binClose =>
    unfold Machine.exec execBinClose at ht
    refine h.taking (fun args u hu => ?_) hs ht
    exact checked hu (h.carryOut hu (.binClose _ _))
  | bandWriteCompletion => exact h.execBandWriteCompletion hs ht
  | scanReadCompletion => exact h.execScanReadCompletion hs ht
  | beginTimeout l => exact h.execBeginTimeout hs ht
  | deadlineExpiry l p => exact h.execDeadlineExpiry hs ht
  | beginAccept l =>
    unfold Machine.exec execBeginAccept at ht
    refine h.onLine ?_ hs ht
    exact .beginAccept l
  | beginRefuse l cause =>
    unfold Machine.exec execBeginRefuse at ht
    refine h.onLine ?_ hs ht
    exact .beginRefuse l
  | beginRefuseLocal l =>
    unfold Machine.exec execBeginRefuseLocal at ht
    refine h.onLine ?_ hs ht
    exact .beginRefuseLocal l
  | lineRequest l =>
    unfold Machine.exec execLineRequest at ht
    refine h.onLine ?_ hs ht
    exact .lineRequest l
  | exposeEnd l cause =>
    unfold Machine.exec execExposeEnd at ht
    refine h.onLine ?_ hs ht
    exact .exposeEnd l cause
  | exposeEndFault l =>
    unfold Machine.exec execExposeEndFault at ht
    refine h.onLine ?_ hs ht
    exact .exposeEndFault l
  | unitStatusReport l ready stock unitLocal =>
    unfold Machine.exec execUnitStatusReport at ht
    refine h.onLine ?_ hs ht
    exact .unitStatus l ready stock unitLocal
  | pbArrival l mark =>
    unfold Machine.exec execPbArrival at ht
    refine h.onLine ?_ hs ht
    exact .pbArrival l mark
  | pbSetupDone l =>
    unfold Machine.exec execPbSetupDone at ht
    refine h.onLine ?_ hs ht
    exact .pbSetupDone l
  | pbDone l =>
    unfold Machine.exec execPbDone at ht
    refine h.onLine ?_ hs ht
    exact .pbDone l
  | pbFault l =>
    unfold Machine.exec execPbFault at ht
    refine h.onLine ?_ hs ht
    exact .pbFault l
  | soArrival l =>
    unfold Machine.exec execSoArrival at ht
    refine h.onLine ?_ hs ht
    exact .soArrival l
  | soStacked l bin =>
    unfold Machine.exec execSoStacked at ht
    refine h.onLine ?_ hs ht
    exact .soStacked l bin
  | soBinEmptied l bin =>
    unfold Machine.exec execSoBinEmptied at ht
    refine h.onLine ?_ hs ht
    exact .soBinEmptied l bin
  | soFault l =>
    unfold Machine.exec execSoFault at ht
    refine h.onLine ?_ hs ht
    exact .fault l _ _

end Preserved

/-! ### The versions of page entries -/

section
variable {s t u : State}

/-- From `s` to `t` no version of a page entry has decreased. -/
def NoOlder (s t : State) : Prop := ∀ k : PageIx, (s.page k).version ≤ (t.page k).version

theorem NoOlder.steady (h : NoOlder s t) (k : Steady t u) : NoOlder s u := fun j => (h j).trans (k.version j)

theorem Happens.noOlder (h : Happens s t) : NoOlder s t := by
  have c := Calm.refl s
  cases h with
  | bandArrives body => exact (c.toSteady.bandArrives body).version
  | bandWritten w => exact (Steady.refl (s.writeLands w).beginHanding).writeHanded.version
  | readCompletes r => exact (c.readCompletes r).version
  | beginTimeout l e _ =>
    exact (((((c.send l _).setLine l _).closeExposure l e).spoil _ _).faultLine l _ _).toSteady.wakeIntake.tell.version
  | beginAccept l => exact (c.takeAccept l).version
  | beginRefuse l =>
    unfold State.takeRefuse State.refuseBegin
    split
    · exact (c.clearAbort l).version
    · split
      · exact (c.clearAbort l).version
      · exact (((((c.undoBegin l _).setLine l _).refusedRecord l _).endPause l).drainTest l)
          |>.toSteady.wakeIntake.tell.version
  | beginRefuseLocal l =>
    unfold State.takeRefuseLocal State.refuseLocal
    split
    · exact (c.clearAbort l).version
    · rename_i e _
      split
      · exact (c.clearAbort l).version
      · have faulted := ((c.undoBegin l e).setLine l { (s.undoBegin l e).line l with
          unitLocal := true, unitReady := false }).faultLine l .unitLocal (some e.slot)
        refine (Steady.wakeIntake ?_).tell.version
        split
        · exact (faulted.withdrawRecord l _).toSteady
        · exact (faulted.returnToReady _).toSteady
  | lineRequest l => exact (c.takeLineRequest l).version
  | exposeEnd l cause =>
    unfold State.takeEnd State.endExposure
    split
    · exact (c.clearAbort l).version
    · split
      · refine NoOlder.steady (Steady.version ?_) ((Calm.refl _).startTest l).tell.toSteady
        exact (((((c.closeExposure l _).setPlate _ _).setLine l _).report _).afterEnd l _).toSteady.wakeIntake
      · exact c.version
  | exposeEndFault l =>
    unfold State.takeEndFault
    split
    · exact (c.clearAbort l).version
    · exact (((c.closeExposure l _).spoil _ _).faultLine l _ _).toSteady.wakeIntake.tell.version
  | unitStatus l ready stock unitLocal => exact (c.takeStatus l ready stock unitLocal).version
  | pbArrival l mark => exact (c.takeArrival l mark).version
  | pbSetupDone l => exact (c.takeSetupDone l).version
  | pbDone l => exact (c.takeDone l).version
  | pbFault l => exact (c.takePunchFault l).version
  | fault l cause p => exact (c.faultLine l cause p).version
  | soArrival l => exact (c.takeSorterArrival l).version
  | soStacked l bin =>
    unfold State.takeStacked
    split
    · exact c.version
    · split
      · exact (c.faultLine l _ _).version
      · split
        · exact c.version
        · split
          · refine NoOlder.steady (Steady.version ?_) (((Calm.refl _).fullTest l _).startTest l |>.routeWaiting l).toSteady
            exact ((c.setLine l _).fate l _ _).toSteady.wakeIntake
          · exact (c.misroute l _).version
  | soBinEmptied l bin => exact (c.takeEmptied l bin).version

theorem Carries.noOlder (h : Carries s t) : NoOlder s t := by
  have c := Calm.refl s
  cases h with
  | releasePage k => exact (c.releasePage k).version
  | loadFree p x => exact (c.loadFree p x).version
  | replacePlate p x => exact (c.replacePlate p x).version
  | dropPlate p => exact (c.dropPlate p).version
  | remakeDelivered p => exact ((c.offerDemand _ _).remake p).version
  | remake p => exact (c.remake p).version
  | lineConfig l config capacity => exact (c.configure l config capacity).version
  | lineStart l => exact ((c.setMode l _).startTest l).version
  | linePause l m => exact (c.setMode l m).version
  | lineDrain l => exact (((c.setMode l _).drainTest l).startTest l).version
  | lineReset l => exact (c.resetLine l).version
  | lineClearFault l => exact ((c.clearTransit l _).stopLine l).version
  | loadProfile f x => exact fun _ => le_refl _
  | binOpen l b => exact ((c.setLine l _).routeWaiting l).version
  | binClose l b => exact (c.setLine l _).version

/-- No effect but DISCARD_PAGE and the resets lets a version decrease below what it was. -/
theorem NoOlder.preserved (s : State) : Preserved (NoOlder s) where
  link h k := by
    obtain ⟨_, _, _, rfl⟩ := k
    exact h
  event h k := fun j => (h j).trans (k.noOlder j)
  carried h k := fun j => (h j).trans (k.noOlder j)
  wake h := h.steady (Steady.refl _).wakeIntake
  settle h := h.steady (Calm.refl _).settle.toSteady
  finish h := h.steady (Steady.refl _).finish

end

/-- Settles O18: every effect but DISCARD_PAGE and the resets lets no version decrease. -/
theorem versionsNeverDecrease : Obligations.VersionsNeverDecrease := by
  intro c s t hdiscard hpower hreset h
  exact (NoOlder.preserved s).exec c (fun e => absurd e hdiscard) (fun e => absurd e hpower)
    (fun e => absurd e hreset) (fun _ => le_refl _) h

end Sys2Proof.Machine
end

section
/-! SUPPORT. Version coherence, loosened: the invariant of O59 for states inside a command, in which a record may have been
taken out of its list, a record may not yet have been told of a supersession, and a head band may be about to leave. The
rules by which the state's operations keep it. -/

namespace Sys2Proof.Machine

set_option Elab.async false

/-! ### The lists a record can stand in (R59) -/

/-- The lists of a line: its queue, its exposure in flight and its transit list. -/
inductive Seat where
  | queue
  | unit
  | transit
deriving DecidableEq

/-- A list that holds records: the ready list, or a list of a line. -/
inductive Spot where
  | ready
  | on (l : LineId) (a : Seat)
deriving DecidableEq

/-- The slot of a line's exposure in flight, and whether its begin is answered. -/
def Line.begun (ln : Line) : Option (Slot × Bool) := ln.exposure.map fun c => (c.slot, c.answered)

/-- The slots in a list of a line. -/
def Line.listed (ln : Line) : Seat → List Slot
  | .queue => ln.queue
  | .unit => (ln.begun.map Prod.fst).toList
  | .transit => ln.transit.map TransitEntry.slot

/-- The slots in a list. -/
def State.listed (s : State) : Spot → List Slot
  | .ready => s.ready
  | .on l a => (s.line l).listed a

/-- The list that a record's state and line name. -/
def PlateRecord.spot (r : PlateRecord) : Option Spot :=
  match r.state with
  | .ready => some .ready
  | .queued => r.line.map fun l => .on l .queue
  | .exposing => r.line.map fun l => .on l .unit
  | .exposed => r.line.map fun l => .on l .transit
  | _ => none

/-! ### The loosened invariant -/

/-- What a state inside a command may still owe. `hand p = some ks`: the record of slot `p` is out of all lists, and the
demand counts are as if it demanded `ks`. `stale p`: the record may lag behind a version. `loose k`: the head band may be
in progress though entry `k` is no longer RECEIVING. -/
structure Slack where
  hand : Slot → Option (List PageIx) := fun _ => none
  stale : Slot → Prop := fun _ => False
  loose : PageIx → Prop := fun _ => False

/-- A record is taken in hand, with the keys it is counted for. -/
def Slack.take (x : Slack) (p : Slot) (ks : List PageIx) : Slack := { x with hand := Function.update x.hand p (some ks) }

/-- The keys that a record is counted for. -/
def State.claims (s : State) (x : Slack) (p : Slot) : List PageIx := (x.hand p).getD (s.plate p).demandKeys

/-- What version coherence asks of one record, by its state. -/
structure State.Fresh (s : State) (p : Slot) : Prop where
  complete : (s.plate p).state = .ready ∨ (s.plate p).state = .queued → s.pagesComplete p = true
  exposing : (s.plate p).state = .exposing → (s.plate p).withdraw = false → (s.plate p).doom = none → s.Current p
  exposed : (s.plate p).state = .exposed → (s.plate p).doom = none → s.Current p
  delivered : (s.plate p).state = .delivered → s.Current p

/-- Version coherence, but for what the slack allows. -/
structure Kept (x : Slack) (s : State) : Prop where
  spots : ∀ (p : Slot) (y : Spot), p ∈ s.listed y ↔ x.hand p = none ∧ (s.plate p).spot = some y
  once : ∀ y : Spot, (s.listed y).Nodup
  classes : s.ready.Pairwise fun p q => s.urgent q = true → s.urgent p = true
  onLine : ∀ p : Slot, x.hand p = none → ((s.plate p).line.isSome = true ↔ (s.plate p).state.inFlight = true)
  demand : ∀ k : PageIx, (s.page k).demand = ∑ p : Slot, (s.claims x p).count k
  head : s.intake.phase ≠ none → s.intake.buffer ≠ []
  writing : ∀ (b : Band) (rest : List Band), s.intake.buffer = b :: rest →
    s.intake.phase = some .writing ∨ s.intake.phase = some .waitingStrip → ¬ x.loose b.key →
    (s.page b.key).state = .receiving
  versions : ∀ k : PageIx, (s.page k).version = 0 ↔ (s.page k).state = .empty
  fresh : ∀ p : Slot, x.hand p = none → ¬ x.stale p → s.Fresh p
  answered : ∀ (l : LineId) (p : Slot), (s.line l).begun = some (p, true) → (s.plate p).withdraw = false
  unanswered : ∀ (l : LineId) (p : Slot), (s.line l).begun = some (p, false) → ¬ x.stale p →
    (s.plate p).withdraw = false → s.pagesComplete p = true

/-! ### The invariant and version coherence -/

/-- A list stands in the order of two classes exactly when no element of the first comes after one of the second. -/
theorem eq_filter_append_filter_iff {α : Type} (u : α → Bool) (as : List α) :
    as = as.filter u ++ as.filter (fun a => !u a) ↔ as.Pairwise fun a b => u b = true → u a = true := by
  constructor
  · intro h
    rw [h]
    refine List.pairwise_append.mpr ⟨?_, ?_, ?_⟩
    · exact List.pairwise_filter.mpr (List.pairwise_of_forall fun a b ha _ _ => ha)
    · exact List.pairwise_filter.mpr (List.pairwise_of_forall fun a b _ hb hu => by simp [hu] at hb)
    · exact fun a ha b _ _ => (List.mem_filter.mp ha).2
  · intro h
    induction as with
    | nil => rfl
    | cons a as ih =>
      obtain ⟨first, rest⟩ := List.pairwise_cons.mp h
      by_cases ha : u a = true
      · rw [List.filter_cons_of_pos ha, List.filter_cons_of_neg (by simp [ha]), List.cons_append, ← ih rest]
      · have none_urgent : as.filter u = [] := List.filter_eq_nil_iff.mpr fun b hb hu => ha (first b hb hu)
        rw [List.filter_cons_of_neg ha, List.filter_cons_of_pos (by simp [ha]), none_urgent, List.nil_append]
        have := ih rest
        rw [none_urgent, List.nil_append] at this
        rw [← this]

theorem Line.mem_listed_unit (ln : Line) (p : Slot) : p ∈ ln.listed .unit ↔ ln.exposure.map Exposure.slot = some p := by
  cases h : ln.exposure <;> simp [Line.listed, Line.begun, h, eq_comm]

theorem Line.begun_eq_some {ln : Line} {p : Slot} {a : Bool} :
    ln.begun = some (p, a) ↔ ∃ c, ln.exposure = some c ∧ c.slot = p ∧ c.answered = a := by
  simp [Line.begun]

/-- The sum of R37, over the slots. -/
theorem State.references_eq (s : State) (k : PageIx) : s.references k = ∑ p : Slot, (s.plate p).demandKeys.count k :=
  (Fin.sum_univ_def _).symm

/-- Whether a record names a list, by its state and line. -/
theorem PlateRecord.spot_eq_some {r : PlateRecord} {y : Spot} : r.spot = some y ↔
    match y with
    | .ready => r.state = .ready
    | .on l .queue => r.state = .queued ∧ r.line = some l
    | .on l .unit => r.state = .exposing ∧ r.line = some l
    | .on l .transit => r.state = .exposed ∧ r.line = some l := by
  unfold PlateRecord.spot
  rcases y with - | ⟨l, - | - | -⟩ <;> cases r.state <;> simp

theorem State.Coherent.kept {s : State} (h : s.Coherent) : Kept {} s where
  spots p y := by
    rw [PlateRecord.spot_eq_some]
    rcases y with - | ⟨l, - | - | -⟩
    · exact (h.placed.ready p).trans (and_iff_right rfl).symm
    · exact (h.placed.queued p l).trans (and_iff_right rfl).symm
    · exact (Line.mem_listed_unit _ p).trans ((h.placed.exposing p l).trans (and_iff_right rfl).symm)
    · exact (h.placed.exposed p l).trans (and_iff_right rfl).symm
  once y := by
    rcases y with - | ⟨l, - | - | -⟩
    · exact h.placed.readyOnce
    · exact h.placed.queuedOnce l
    · cases hb : (s.line l).begun <;> simp [State.listed, Line.listed, hb]
    · exact h.placed.exposedOnce l
  classes := (eq_filter_append_filter_iff _ _).mp h.placed.classes
  onLine p _ := h.placed.onLine p
  demand k := (h.demand k).trans (s.references_eq k)
  head := h.head
  writing b rest hb hp _ := h.writing b rest hb hp
  versions := h.versions
  fresh p _ _ := ⟨h.complete p, h.exposing p, h.exposed p, h.delivered p⟩
  answered l p hb := by
    obtain ⟨c, hc, rfl, ha⟩ := Line.begun_eq_some.mp hb
    exact h.answered l c hc ha
  unanswered l p hb _ hw := by
    obtain ⟨c, hc, rfl, ha⟩ := Line.begun_eq_some.mp hb
    exact h.unanswered l c hc ha hw

/-- With no record in hand a list holds the records whose state and line name it. -/
theorem Kept.mem_listed {s : State} (h : Kept {} s) (p : Slot) (y : Spot) : p ∈ s.listed y ↔
    match y with
    | .ready => (s.plate p).state = .ready
    | .on l .queue => (s.plate p).state = .queued ∧ (s.plate p).line = some l
    | .on l .unit => (s.plate p).state = .exposing ∧ (s.plate p).line = some l
    | .on l .transit => (s.plate p).state = .exposed ∧ (s.plate p).line = some l :=
  (h.spots p y).trans ((and_iff_right rfl).trans PlateRecord.spot_eq_some)

theorem Kept.coherent {s : State} (h : Kept {} s) : s.Coherent where
  placed :=
    { ready := fun p => h.mem_listed p .ready
      readyOnce := h.once .ready
      classes := (eq_filter_append_filter_iff _ _).mpr h.classes
      queued := fun p l => h.mem_listed p (.on l .queue)
      queuedOnce := fun l => h.once (.on l .queue)
      exposing := fun p l => (Line.mem_listed_unit _ p).symm.trans (h.mem_listed p (.on l .unit))
      exposed := fun p l => h.mem_listed p (.on l .transit)
      exposedOnce := fun l => h.once (.on l .transit)
      onLine := fun p => h.onLine p rfl }
  demand k := (h.demand k).trans (s.references_eq k).symm
  head := h.head
  writing b rest hb hp := h.writing b rest hb hp not_false
  versions := h.versions
  complete p := (h.fresh p rfl not_false).complete
  unanswered l c hc ha hw := h.unanswered l c.slot (Line.begun_eq_some.mpr ⟨c, hc, rfl, ha⟩) not_false hw
  answered l c hc ha := h.answered l c.slot (Line.begun_eq_some.mpr ⟨c, hc, rfl, ha⟩)
  exposing p := (h.fresh p rfl not_false).exposing
  exposed p := (h.fresh p rfl not_false).exposed
  delivered p := (h.fresh p rfl not_false).delivered

end Sys2Proof.Machine
end

section
/-! SUPPORT. The rules of the loosened invariant: changes that it does not look at, changes of page entries, a record taken
out of its list, a record put into one, and a record's marks. -/

namespace Sys2Proof.Machine

set_option Elab.async false

/-! ### What is asked of one record -/

theorem State.pagesComplete_iff {s : State} {p : Slot} :
    s.pagesComplete p = true ↔ ∀ k ∈ (s.plate p).load.keys, (s.page k).state = .complete := by
  simp [State.pagesComplete]

/-- A record's pages stay complete where each entry of its tiles does. -/
theorem State.pagesComplete_mono {s t : State} {p : Slot} (load : (t.plate p).load = (s.plate p).load)
    (complete : ∀ k ∈ (s.plate p).load.keys, (s.page k).state = .complete → (t.page k).state = .complete)
    (h : s.pagesComplete p = true) : t.pagesComplete p = true := by
  rw [State.pagesComplete_iff] at h ⊢
  rw [load]
  exact fun k hk => complete k hk (h k hk)

/-- A record bound to the current versions stays so where its bound versions and the entries' versions do. -/
theorem State.Current.mono {s t : State} {p : Slot} (load : (t.plate p).load = (s.plate p).load)
    (bound : (t.plate p).bound = (s.plate p).bound)
    (version : ∀ k ∈ (s.plate p).load.keys, (t.page k).version = (s.page k).version) (h : s.Current p) :
    t.Current p := by
  obtain ⟨hbound, hversion⟩ := h
  unfold State.Current
  rw [load, bound, hbound]
  refine ⟨congrArg some (List.map_congr_left fun k hk => (version k hk).symm), fun k hk => ?_⟩
  rw [version k hk]
  exact hversion k hk

theorem State.Fresh.frame {s t : State} {p : Slot} (h : s.Fresh p) (plates : t.plates = s.plates := by rfl)
    (pages : t.pages = s.pages := by rfl) : t.Fresh p := by
  have plate : t.plate p = s.plate p := by rw [State.plate, State.plate, plates]
  have page : ∀ k, t.page k = s.page k := fun k => by rw [State.page, State.page, pages]
  have current : s.Current p → t.Current p :=
    State.Current.mono (by rw [plate]) (by rw [plate]) fun k _ => by rw [page]
  have complete : s.pagesComplete p = true → t.pagesComplete p = true :=
    State.pagesComplete_mono (by rw [plate]) fun k _ hk => by rw [page]; exact hk
  constructor <;> rw [plate]
  · exact fun hstate => complete (h.complete hstate)
  · exact fun hstate hw hd => current (h.exposing hstate hw hd)
  · exact fun hstate hd => current (h.exposed hstate hd)
  · exact fun hstate => current (h.delivered hstate)

/-! ### The slack -/

theorem Slack.take_hand_self (x : Slack) (p : Slot) (ks : List PageIx) : (x.take p ks).hand p = some ks :=
  Function.update_self ..

theorem Slack.take_hand_of_ne (x : Slack) {p q : Slot} (ks : List PageIx) (h : q ≠ p) :
    (x.take p ks).hand q = x.hand q := Function.update_of_ne h _ _

/-- With a record in hand the others are those that were out of hand before, without it. -/
theorem Slack.take_hand_eq_none {x : Slack} {p q : Slot} {ks : List PageIx} (hp : x.hand p = none) :
    (x.take p ks).hand q = none ↔ x.hand q = none ∧ q ≠ p := by
  by_cases h : q = p
  · subst h
    simp [Slack.take_hand_self]
  · simp [Slack.take_hand_of_ne x ks h, h]

section
variable {x y : Slack} {s t : State} {p q : Slot} {l : LineId} {ks : List PageIx}

theorem State.claims_take_self : s.claims (x.take p ks) p = ks := by
  rw [State.claims, Slack.take_hand_self, Option.getD_some]

theorem State.claims_take_of_ne (h : q ≠ p) : s.claims (x.take p ks) q = s.claims x q := by
  rw [State.claims, State.claims, Slack.take_hand_of_ne x ks h]

/-- The count of a key over all claims: that of one record, and those of the others. -/
theorem sum_claims (s : State) (x : Slack) (p : Slot) (k : PageIx) : ∑ q : Slot, (s.claims x q).count k =
    (s.claims x p).count k + ∑ q ∈ Finset.univ.erase p, (s.claims x q).count k :=
  (Finset.add_sum_erase _ _ (Finset.mem_univ p)).symm

/-- The claims of the others are not changed by taking a record. -/
theorem sum_claims_others : ∑ q ∈ Finset.univ.erase p, (s.claims (x.take p ks) q).count k =
    ∑ q ∈ Finset.univ.erase p, (s.claims x q).count k :=
  Finset.sum_congr rfl fun _ hq => by rw [State.claims_take_of_ne (Finset.ne_of_mem_erase hq)]

/-! ### Changes that the invariant does not look at -/

/-- Records, lists and the head of Band Intake's buffer are as they were. -/
structure Alike (s t : State) : Prop where
  plates : t.plates = s.plates
  ready : t.ready = s.ready
  listed : ∀ (l : LineId) (a : Seat), (t.line l).listed a = (s.line l).listed a
  begun : ∀ l : LineId, (t.line l).begun = (s.line l).begun
  phase : t.intake.phase = s.intake.phase
  buffer : t.intake.buffer = s.intake.buffer

theorem Alike.plate (h : Alike s t) (p : Slot) : t.plate p = s.plate p := by rw [State.plate, State.plate, h.plates]

theorem Alike.lists (h : Alike s t) (y : Spot) : t.listed y = s.listed y := by
  rcases y with - | ⟨l, a⟩
  · exact h.ready
  · exact h.listed l a

/-- The record of an exposure in flight is EXPOSING, and not in hand. -/
theorem Kept.of_begun (h : Kept x s) {a : Bool} (hb : (s.line l).begun = some (p, a)) :
    x.hand p = none ∧ (s.plate p).state = .exposing ∧ (s.plate p).line = some l := by
  have mem : p ∈ s.listed (.on l .unit) := by simp [State.listed, Line.listed, hb]
  obtain ⟨hand, spot⟩ := (h.spots p _).mp mem
  exact ⟨hand, PlateRecord.spot_eq_some.mp spot⟩

/-- A record in hand stands in no list. -/
theorem Kept.absent (h : Kept (x.take p ks) s) (z : Spot) : p ∉ s.listed z := fun hp => by
  have hand := ((h.spots p z).mp hp).1
  rw [Slack.take_hand_self] at hand
  cases hand

/-- Page entries have changed, and nothing else that the invariant looks at. -/
theorem Kept.entries (h : Kept x s) (k : Alike s t) (hand : ∀ p, x.hand p = none ↔ y.hand p = none)
    (stale : ∀ p, x.stale p → y.stale p)
    (demand : ∀ k, (t.page k).demand = ∑ p : Slot, (t.claims y p).count k)
    (versions : ∀ k, (t.page k).version = 0 ↔ (t.page k).state = .empty)
    (receiving : ∀ k, ¬ y.loose k → ¬ x.loose k ∧ ((s.page k).state = .receiving → (t.page k).state = .receiving))
    (complete : ∀ p, x.hand p = none → ¬ y.stale p → (s.plate p).state.demands = true →
      s.pagesComplete p = true → t.pagesComplete p = true)
    (current : ∀ p, x.hand p = none → ¬ y.stale p → (s.plate p).state ≠ .free → s.Current p → t.Current p) :
    Kept y t where
  spots p y := by rw [k.lists, k.plate, ← hand]; exact h.spots p y
  once y := by rw [k.lists]; exact h.once y
  classes := by
    rw [k.ready]
    refine h.classes.imp fun hu => ?_
    simpa only [State.urgent, k.plate] using hu
  onLine p hp := by rw [k.plate]; exact h.onLine p ((hand p).mpr hp)
  demand := demand
  head := by rw [k.phase, k.buffer]; exact h.head
  writing b rest hb hp hl := by
    rw [k.buffer] at hb
    rw [k.phase] at hp
    obtain ⟨hx, hreceiving⟩ := receiving b.key hl
    exact hreceiving (h.writing b rest hb hp hx)
  versions := versions
  fresh p hp hs := by
    have hx := (hand p).mpr hp
    obtain ⟨hcomplete, hexposing, hexposed, hdelivered⟩ := h.fresh p hx fun hs' => hs (stale p hs')
    have state_ne : ∀ {g : PlateState}, (s.plate p).state = g → g ≠ .free → (s.plate p).state ≠ .free :=
      fun e hg => e ▸ hg
    constructor <;> rw [k.plate]
    · intro hstate
      refine complete p hx hs ?_ (hcomplete hstate)
      rcases hstate with e | e <;> rw [e] <;> rfl
    · exact fun hstate hw hd => current p hx hs (state_ne hstate (by decide)) (hexposing hstate hw hd)
    · exact fun hstate hd => current p hx hs (state_ne hstate (by decide)) (hexposed hstate hd)
    · exact fun hstate => current p hx hs (state_ne hstate (by decide)) (hdelivered hstate)
  answered l p hb := by
    rw [k.begun] at hb
    rw [k.plate]
    exact h.answered l p hb
  unanswered l p hb hs hw := by
    rw [k.begun] at hb
    rw [k.plate] at hw
    obtain ⟨hx, hstate, -⟩ := h.of_begun hb
    refine complete p hx hs ?_ (h.unanswered l p hb (fun hs' => hs (stale p hs')) hw)
    rw [hstate]
    rfl

/-- Nothing has changed that the invariant looks at. -/
theorem Kept.alike (h : Kept x s) (k : Alike s t) (page : ∀ k, (t.page k).state = (s.page k).state
    ∧ (t.page k).version = (s.page k).version ∧ (t.page k).demand = (s.page k).demand) : Kept x t := by
  have load : ∀ p, (t.plate p).load = (s.plate p).load := fun p => congrArg PlateRecord.load (k.plate p)
  refine h.entries k (fun _ => Iff.rfl) (fun _ => id) (fun j => ?_) (fun j => ?_) (fun j hl => ⟨hl, ?_⟩)
    (fun p _ _ _ => ?_) (fun p _ _ _ => ?_)
  · rw [(page j).2.2, h.demand j]
    simp only [State.claims, k.plate]
  · rw [(page j).1, (page j).2.1]
    exact h.versions j
  · rw [(page j).1]
    exact id
  · exact State.pagesComplete_mono (load p) fun j _ hj => (page j).1.trans hj
  · exact State.Current.mono (load p) (congrArg PlateRecord.bound (k.plate p)) fun j _ => (page j).2.1

/-- A change of other fields of the state. -/
theorem Kept.frame (h : Kept x s) (plates : t.plates = s.plates := by rfl) (ready : t.ready = s.ready := by rfl)
    (lines : t.lines = s.lines := by rfl) (pages : t.pages = s.pages := by rfl)
    (phase : t.intake.phase = s.intake.phase := by rfl) (buffer : t.intake.buffer = s.intake.buffer := by rfl) :
    Kept x t := by
  have line : ∀ l, t.line l = s.line l := fun l => by rw [State.line, State.line, lines]
  have page : ∀ k, t.page k = s.page k := fun k => by rw [State.page, State.page, pages]
  exact h.alike ⟨plates, ready, fun l a => by rw [line], fun l => by rw [line], phase, buffer⟩
    fun k => by rw [page]; exact ⟨rfl, rfl, rfl⟩

/-! ### Lines -/

/-- A line changed in what the invariant does not look at. -/
structure Line.Alike (a b : Line) : Prop where
  queue : b.queue = a.queue := by rfl
  begun : b.begun = a.begun := by rfl
  transit : b.transit.map TransitEntry.slot = a.transit.map TransitEntry.slot := by rfl

theorem Line.Alike.listed {a b : Line} (h : a.Alike b) (g : Seat) : b.listed g = a.listed g := by
  cases g
  · exact h.queue
  · exact congrArg (fun o => (Option.map Prod.fst o).toList) h.begun
  · exact h.transit

theorem Line.Alike.trans {a b c : Line} (h : a.Alike b) (k : b.Alike c) : a.Alike c :=
  ⟨k.queue.trans h.queue, k.begun.trans h.begun, k.transit.trans h.transit⟩

theorem Kept.alikeLine (h : Kept x s) (l : LineId) {ln : Line} (hl : (s.line l).Alike ln) :
    Kept x (s.setLine l ln) := by
  refine h.alike ⟨rfl, rfl, fun m a => ?_, fun m => ?_, rfl, rfl⟩ fun k => ⟨rfl, rfl, rfl⟩ <;> rw [State.line_setLine]
  · split
    · subst m
      exact hl.listed a
    · rfl
  · split
    · subst m
      exact hl.begun
    · rfl

/-! ### A record taken out of its list -/

/-- A record leaves the list it stands in, if any, and nothing else changes that the invariant looks at: it is in hand,
counted for the keys it demands. -/
theorem Kept.lift (h : Kept x s) (hand : x.hand p = none) (plates : t.plates = s.plates) (pages : t.pages = s.pages)
    (intake : t.intake = s.intake) (sub : ∀ y, (t.listed y).Sublist (s.listed y))
    (others : ∀ q y, q ≠ p → q ∈ s.listed y → q ∈ t.listed y)
    (gone : ∀ y, (s.plate p).spot = some y → p ∉ t.listed y)
    (begun : ∀ l q a, (t.line l).begun = some (q, a) → (s.line l).begun = some (q, a)) :
    Kept (x.take p (s.plate p).demandKeys) t := by
  have plate : ∀ q, t.plate q = s.plate q := fun q => by rw [State.plate, State.plate, plates]
  have page : ∀ k, t.page k = s.page k := fun k => by rw [State.page, State.page, pages]
  have complete : ∀ q, t.pagesComplete q = s.pagesComplete q := fun q => by
    simp only [State.pagesComplete, plate, page]
  have current : ∀ q, t.Current q ↔ s.Current q := fun q => by
    simp only [State.Current, plate, page]
  exact
    { spots := fun q y => by
        rw [Slack.take_hand_eq_none hand, plate]
        constructor
        · intro hq
          obtain ⟨hx, spot⟩ := (h.spots q y).mp ((sub y).subset hq)
          exact ⟨⟨hx, fun e => gone y (e ▸ spot) (e ▸ hq)⟩, spot⟩
        · rintro ⟨⟨hx, hne⟩, spot⟩
          exact others q y hne ((h.spots q y).mpr ⟨hx, spot⟩)
      once := fun y => (h.once y).sublist (sub y)
      classes := (h.classes.sublist (sub .ready)).imp fun hu => by simpa only [State.urgent, plate] using hu
      onLine := fun q hq => by
        rw [plate]
        exact h.onLine q ((Slack.take_hand_eq_none hand).mp hq).1
      demand := fun k => by
        rw [page, h.demand k, sum_claims s x p, sum_claims t _ p, State.claims_take_self, sum_claims_others]
        simp only [State.claims, hand, Option.getD_none, plate]
      head := by rw [intake]; exact h.head
      writing := by
        rw [intake]
        intro b rest hb hp hl
        rw [page]
        exact h.writing b rest hb hp hl
      versions := fun k => by rw [page]; exact h.versions k
      fresh := fun q hq hs => by
        obtain ⟨hx, -⟩ := (Slack.take_hand_eq_none hand).mp hq
        obtain ⟨hcomplete, hexposing, hexposed, hdelivered⟩ := h.fresh q hx hs
        constructor
        · rw [plate, complete]; exact hcomplete
        · rw [plate, current]; exact hexposing
        · rw [plate, current]; exact hexposed
        · rw [plate, current]; exact hdelivered
      answered := fun l q hb => by
        rw [plate]
        exact h.answered l q (begun l q _ hb)
      unanswered := fun l q hb hs => by
        rw [plate, complete]
        exact h.unanswered l q (begun l q _ hb) hs }

/-- A record that stands in no list is in hand as it is. -/
theorem Kept.lift_idle (h : Kept x s) (hand : x.hand p = none) (idle : (s.plate p).spot = none) :
    Kept (x.take p (s.plate p).demandKeys) s :=
  h.lift hand rfl rfl rfl (fun _ => List.Sublist.refl _) (fun _ _ _ => id)
    (fun y hy => by rw [idle] at hy; cases hy) (fun _ _ _ => id)

/-- A record in hand takes any fields. -/
theorem Kept.setPlate_hand (h : Kept x s) (hand : x.hand p = some ks) (r : PlateRecord) : Kept x (s.setPlate p r) := by
  have plate : ∀ q, x.hand q = none → (s.setPlate p r).plate q = s.plate q := fun q hq => by
    rw [State.plate_setPlate, if_neg]
    rintro rfl
    rw [hand] at hq
    cases hq
  have listed : ∀ y, (s.setPlate p r).listed y = s.listed y := fun y => by rcases y with - | ⟨l, a⟩ <;> rfl
  have current : ∀ q, x.hand q = none → s.Current q → (s.setPlate p r).Current q := fun q hq =>
    State.Current.mono (by rw [plate q hq]) (by rw [plate q hq]) fun _ _ => rfl
  have complete : ∀ q, x.hand q = none → s.pagesComplete q = true → (s.setPlate p r).pagesComplete q = true :=
    fun q hq => State.pagesComplete_mono (by rw [plate q hq]) fun _ _ => id
  exact
    { spots := fun q y => by
        rw [listed, h.spots q y]
        refine and_congr_right fun hq => ?_
        rw [plate q hq]
      once := fun y => by rw [listed]; exact h.once y
      classes := by
        refine h.classes.imp_of_mem fun {a b} ha hb hu => ?_
        have hand_of : ∀ {q}, q ∈ s.ready → x.hand q = none := fun hq => ((h.spots _ .ready).mp hq).1
        simpa only [State.urgent, plate _ (hand_of ha), plate _ (hand_of hb)] using hu
      onLine := fun q hq => by rw [plate q hq]; exact h.onLine q hq
      demand := fun k => by
        refine (h.demand k).trans (Finset.sum_congr rfl fun q _ => ?_)
        cases hq : x.hand q with
        | none => rw [State.claims, State.claims, hq, plate q hq]
        | some ks => rw [State.claims, State.claims, hq, Option.getD_some, Option.getD_some]
      head := h.head
      writing := h.writing
      versions := h.versions
      fresh := fun q hq hs => by
        obtain ⟨hcomplete, hexposing, hexposed, hdelivered⟩ := h.fresh q hq hs
        constructor <;> rw [plate q hq]
        · exact fun hstate => complete q hq (hcomplete hstate)
        · exact fun hstate hw hd => current q hq (hexposing hstate hw hd)
        · exact fun hstate hd => current q hq (hexposed hstate hd)
        · exact fun hstate => current q hq (hdelivered hstate)
      answered := fun l q hb => by
        rw [plate q (h.of_begun hb).1]
        exact h.answered l q hb
      unanswered := fun l q hb hs hw => by
        have hq := (h.of_begun hb).1
        rw [plate q hq] at hw
        exact complete q hq (h.unanswered l q hb hs hw) }

/-! ### A record put into a list -/

/-- A record in hand enters the list that its state and line name, or none when they name none. -/
theorem Kept.put (h : Kept (x.take p ks) s) (hand : x.hand p = none) (plates : t.plates = s.plates)
    (pages : t.pages = s.pages) (intake : t.intake = s.intake)
    (claims : ∀ k, ks.count k = (s.plate p).demandKeys.count k)
    (mem : ∀ q y, q ∈ t.listed y ↔ q ∈ s.listed y ∨ q = p ∧ (s.plate p).spot = some y)
    (once : ∀ y, (t.listed y).Nodup)
    (classes : t.ready.Pairwise fun p q => s.urgent q = true → s.urgent p = true)
    (onLine : (s.plate p).line.isSome = true ↔ (s.plate p).state.inFlight = true)
    (fresh : ¬ x.stale p → s.Fresh p)
    (begun : ∀ l q a, (t.line l).begun = some (q, a) → (s.line l).begun = some (q, a)
      ∨ q = p ∧ a = false ∧ ((s.plate p).withdraw = false → s.pagesComplete p = true)) : Kept x t := by
  have plate : ∀ q, t.plate q = s.plate q := fun q => by rw [State.plate, State.plate, plates]
  have page : ∀ k, t.page k = s.page k := fun k => by rw [State.page, State.page, pages]
  have complete : ∀ q, t.pagesComplete q = s.pagesComplete q := fun q => by
    simp only [State.pagesComplete, plate, page]
  have current : ∀ q, t.Current q ↔ s.Current q := fun q => by
    simp only [State.Current, plate, page]
  exact
    { spots := fun q y => by
        rw [mem, h.spots q y, Slack.take_hand_eq_none hand, plate]
        constructor
        · rintro (⟨⟨hx, -⟩, spot⟩ | ⟨rfl, spot⟩)
          · exact ⟨hx, spot⟩
          · exact ⟨hand, spot⟩
        · rintro ⟨hx, spot⟩
          by_cases hq : q = p
          · exact .inr ⟨hq, hq ▸ spot⟩
          · exact .inl ⟨⟨hx, hq⟩, spot⟩
      once := once
      classes := classes.imp fun hu => by simpa only [State.urgent, plate] using hu
      onLine := fun q hq => by
        rw [plate]
        by_cases e : q = p
        · rw [e]
          exact onLine
        · exact h.onLine q ((Slack.take_hand_eq_none hand).mpr ⟨hq, e⟩)
      demand := fun k => by
        rw [page, h.demand k, sum_claims t x p, sum_claims s _ p, State.claims_take_self, sum_claims_others, claims k]
        simp only [State.claims, hand, Option.getD_none, plate]
      head := by rw [intake]; exact h.head
      writing := by
        rw [intake]
        intro b rest hb hp hl
        rw [page]
        exact h.writing b rest hb hp hl
      versions := fun k => by rw [page]; exact h.versions k
      fresh := fun q hq hs => by
        have hfresh : s.Fresh q := by
          by_cases e : q = p
          · subst e
            exact fresh hs
          · exact h.fresh q ((Slack.take_hand_eq_none hand).mpr ⟨hq, e⟩) hs
        obtain ⟨hcomplete, hexposing, hexposed, hdelivered⟩ := hfresh
        constructor
        · rw [plate, complete]; exact hcomplete
        · rw [plate, current]; exact hexposing
        · rw [plate, current]; exact hexposed
        · rw [plate, current]; exact hdelivered
      answered := fun l q hb => by
        rw [plate]
        rcases begun l q _ hb with hb | ⟨-, ha, -⟩
        · exact h.answered l q hb
        · cases ha
      unanswered := fun l q hb hs => by
        rw [plate, complete]
        rcases begun l q _ hb with hb | ⟨rfl, -, hcomplete⟩
        · exact h.unanswered l q hb hs
        · exact hcomplete }

/-- A record in hand whose state names no list stays out of all. -/
theorem Kept.put_idle (h : Kept (x.take p ks) s) (hand : x.hand p = none)
    (claims : ∀ k, ks.count k = (s.plate p).demandKeys.count k) (idle : (s.plate p).spot = none)
    (line : (s.plate p).line = none) (flight : (s.plate p).state.inFlight = false) (fresh : ¬ x.stale p → s.Fresh p) :
    Kept x s :=
  h.put hand rfl rfl rfl claims (fun q y => by simp [idle]) h.once h.classes (by simp [line, flight]) fresh
    (fun _ _ _ => .inl)

/-! ### A record's marks -/

/-- A record changes in its fields other than state, line and loaded fields; by that it may catch up with the versions of
its pages, or come to lag behind them. -/
theorem Kept.mark (h : Kept x s) (hand : x.hand p = none) {r : PlateRecord} {stale : Slot → Prop}
    (state : r.state = (s.plate p).state) (line : r.line = (s.plate p).line) (load : r.load = (s.plate p).load)
    (others : ∀ q, q ≠ p → x.stale q → stale q) (fresh : ¬ stale p → (s.setPlate p r).Fresh p)
    (answered : ∀ l, (s.line l).begun = some (p, true) → r.withdraw = false)
    (unanswered : ∀ l, (s.line l).begun = some (p, false) → ¬ stale p → r.withdraw = false →
      s.pagesComplete p = true) : Kept { x with stale := stale } (s.setPlate p r) := by
  have plate : ∀ q, q ≠ p → (s.setPlate p r).plate q = s.plate q := fun q hq => by
    rw [State.plate_setPlate, if_neg hq]
  have same : ∀ q, ((s.setPlate p r).plate q).state = (s.plate q).state
      ∧ ((s.setPlate p r).plate q).line = (s.plate q).line ∧ ((s.setPlate p r).plate q).load = (s.plate q).load := by
    intro q
    by_cases hq : q = p
    · subst hq
      rw [State.plate_setPlate_self]
      exact ⟨state, line, load⟩
    · rw [plate q hq]
      exact ⟨rfl, rfl, rfl⟩
  have listed : ∀ y, (s.setPlate p r).listed y = s.listed y := fun y => by rcases y with - | ⟨l, a⟩ <;> rfl
  have complete : ∀ q, s.pagesComplete q = true → (s.setPlate p r).pagesComplete q = true :=
    fun q => State.pagesComplete_mono (same q).2.2 fun _ _ => id
  have current : ∀ q, q ≠ p → s.Current q → (s.setPlate p r).Current q := fun q hq =>
    State.Current.mono (same q).2.2 (by rw [plate q hq]) fun _ _ => rfl
  exact
    { spots := fun q y => by
        rw [listed, h.spots q y, PlateRecord.spot, PlateRecord.spot, (same q).1, (same q).2.1]
      once := fun y => by rw [listed]; exact h.once y
      classes := h.classes.imp fun hu => by simpa only [State.urgent, (same _).2.2] using hu
      onLine := fun q hq => by
        rw [(same q).1, (same q).2.1]
        exact h.onLine q hq
      demand := fun k => by
        refine (h.demand k).trans (Finset.sum_congr rfl fun q _ => ?_)
        rw [State.claims, State.claims, PlateRecord.demandKeys, PlateRecord.demandKeys, (same q).1, (same q).2.2]
      head := h.head
      writing := h.writing
      versions := h.versions
      fresh := fun q hq hs => by
        by_cases e : q = p
        · subst e
          exact fresh hs
        · obtain ⟨hcomplete, hexposing, hexposed, hdelivered⟩ := h.fresh q hq fun hs' => hs (others q e hs')
          constructor <;> rw [plate q e]
          · exact fun hstate => complete q (hcomplete hstate)
          · exact fun hstate hw hd => current q e (hexposing hstate hw hd)
          · exact fun hstate hd => current q e (hexposed hstate hd)
          · exact fun hstate => current q e (hdelivered hstate)
      answered := fun l q hb => by
        by_cases e : q = p
        · subst e
          rw [State.plate_setPlate_self]
          exact answered l hb
        · rw [plate q e]
          exact h.answered l q hb
      unanswered := fun l q hb hs hw => by
        by_cases e : q = p
        · subst e
          rw [State.plate_setPlate_self] at hw
          exact complete q (unanswered l hb hs hw)
        · rw [plate q e] at hw
          exact complete q (h.unanswered l q hb (fun hs' => hs (others q e hs')) hw) }

end

end Sys2Proof.Machine
end

section
/-! SUPPORT. What keeps version coherence without touching a record or a list: reports, what is sent, a line's state, its
Composer, the fields of its transit entries and its bins. -/

namespace Sys2Proof.Machine

set_option Elab.async false

section
variable {x : Slack} {s : State}

/-! ### The updates of the state -/

theorem Kept.report (h : Kept x s) (r : Report) : Kept x (s.report r) := h.frame
theorem Kept.send (h : Kept x s) (l : LineId) (m : StationMessage) : Kept x (s.send l m) := h.frame
theorem Kept.tell (h : Kept x s) : Kept x s.tell := h.frame
theorem Kept.onStore (h : Kept x s) (g : RasterStore → RasterStore) : Kept x (s.onStore g) := h.frame
theorem Kept.beginHanding (h : Kept x s) : Kept x s.beginHanding := h.frame
theorem Kept.endStall (h : Kept x s) : Kept x s.endStall := h.frame

theorem Kept.reportAll (h : Kept x s) (rs : List Report) : Kept x (s.reportAll rs) :=
  List.foldlRecOn (motive := Kept x) rs _ h fun _ hu r _ => hu.report r

theorem Kept.stallReport (h : Kept x s) (b : Band) : Kept x (s.stallReport b) := by
  unfold State.stallReport
  split
  · exact h
  · exact (h.frame (t := { s with intake := { s.intake with stall := true } })).report _

theorem Kept.endHanding (h : Kept x s) : Kept x s.endHanding := by
  unfold State.endHanding
  split
  · exact h.frame
  · exact h

theorem Kept.transmit (h : Kept x s) : Kept x s.transmit := by
  rw [State.transmit_eq]
  exact h.frame

/-! ### Transit entries and bins -/

theorem Line.alike_mapTransit (ln : Line) {f : TransitEntry → TransitEntry} (hf : ∀ e, (f e).slot = e.slot) :
    ln.Alike { ln with transit := ln.transit.map f } where
  transit := by
    rw [List.map_map]
    exact List.map_congr_left fun e _ => hf e

theorem Line.alike_mapEntry (ln : Line) (p : Slot) {f : TransitEntry → TransitEntry} (hf : ∀ e, (f e).slot = e.slot) :
    ln.Alike (ln.mapEntry p f) :=
  ln.alike_mapTransit fun e => by
    split
    · exact hf e
    · rfl

theorem Line.alike_enterStage (ln : Line) (p : Slot) (g : Stage) (deadline : Option Nat) :
    ln.Alike (ln.enterStage p g deadline) :=
  (ln.alike_mapEntry p (f := fun e => { e with stage := g, deadline := deadline, since := ln.stageClock })
    fun _ => rfl).trans {}

theorem Line.alike_stopDeadlines (ln : Line) : ln.Alike ln.stopDeadlines := ln.alike_mapTransit fun _ => rfl

theorem Line.alike_resumeDeadlines (ln : Line) : ln.Alike ln.resumeDeadlines := by
  unfold Line.resumeDeadlines
  split
  · exact {}
  · exact ln.alike_mapTransit fun e => by split <;> rfl

theorem Line.alike_holdDeadlines (ln : Line) : ln.Alike ln.holdDeadlines :=
  ln.alike_mapTransit fun e => by split <;> rfl

/-- The exposure in flight changed in its marks. -/
theorem Line.begun_of_exposure {a b : Line} {c d : Exposure} (ha : a.exposure = some c) (hb : b.exposure = some d)
    (slot : d.slot = c.slot := by rfl) (answered : d.answered = c.answered := by rfl) : b.begun = a.begun := by
  rw [Line.begun, Line.begun, ha, hb, Option.map_some, Option.map_some, slot, answered]

/-! ### A line's state -/

theorem Kept.setMode (h : Kept x s) (l : LineId) (m : LineMode) : Kept x (s.setMode l m) := by
  unfold State.setMode
  split
  · exact h
  · exact ((h.alikeLine l {}).report _).tell

theorem Kept.drainTest (h : Kept x s) (l : LineId) : Kept x (s.drainTest l) := by
  unfold State.drainTest
  split
  · exact h.setMode l _
  · exact h

theorem Kept.endPause (h : Kept x s) (l : LineId) : Kept x (s.endPause l) := by
  unfold State.endPause
  split
  · exact h.setMode l _
  · exact h

theorem Kept.holdTest (h : Kept x s) (l : LineId) : Kept x (s.holdTest l) := by
  unfold State.holdTest
  split
  case h_1 | h_3 => exact h.setMode l _
  case h_2 => exact (h.setMode l _).setMode l _
  all_goals exact h

theorem Kept.afterEnd (h : Kept x s) (l : LineId) (hold : Bool) : Kept x (s.afterEnd l hold) := by
  unfold State.afterEnd
  split
  · exact h.holdTest l
  · exact (h.endPause l).drainTest l

theorem Kept.stopLine (h : Kept x s) (l : LineId) : Kept x (s.stopLine l) := (h.alikeLine l {}).setMode l _

/-! ### Composing -/

theorem Kept.compose (h : Kept x s) (n : Nat) (l : LineId) : Kept x (State.compose n l s) := by
  induction n generalizing s with
  | zero => exact h
  | succ n ih =>
    unfold State.compose
    dsimp only
    split
    · split
      · split
        · exact h
        · exact h.onStore _
      · exact ih (h.alikeLine l {})
    · exact h

theorem Kept.goTest (h : Kept x s) (l : LineId) : Kept x (s.goTest l) := by
  unfold State.goTest
  split
  · exact h
  · rename_i hc
    split
    · exact (h.alikeLine l { begun := Line.begun_of_exposure hc rfl }).send l _
    · exact h

theorem Kept.feedLine (h : Kept x s) (l : LineId) : Kept x (s.feedLine l) := (h.compose _ l).goTest l

theorem Kept.abortExposure (h : Kept x s) (l : LineId) : Kept x (s.abortExposure l) := by
  unfold State.abortExposure
  split
  · exact h
  · rename_i hc
    split
    · exact h
    · exact (h.alikeLine l { begun := Line.begun_of_exposure hc rfl }).send l _

theorem Kept.serveLine (h : Kept x s) (l : LineId) {c : Exposure} (hc : (s.line l).exposure = some c) (row : List Byte)
    (rest : List (List Byte)) : Kept x (s.serveLine l c row rest) :=
  ((h.alikeLine l { begun := Line.begun_of_exposure hc rfl }).send l _).feedLine l

theorem Kept.readHanded (h : Kept x s) (l : LineId) (bytes : List Byte) : Kept x (s.readHanded l bytes) := by
  unfold State.readHanded
  split
  · exact h
  · split
    · exact h
    · exact (h.alikeLine l {}).feedLine l

theorem Kept.readCompletes (h : Kept x s) (r : ScanRead) : Kept x (s.readCompletes r) := by
  unfold State.readCompletes
  split
  · exact h.beginHanding.feedLine _
  · exact h.beginHanding.readHanded _ _

/-! ### Routing at the sorter -/

theorem Kept.routeEntry (h : Kept x s) (l : LineId) (p : Slot) (b : BinId) : Kept x (s.routeEntry l p b) :=
  (h.alikeLine l (Line.alike_enterStage _ _ _ _)).send l _

theorem Kept.routeIfRoom (h : Kept x s) (l : LineId) (e : TransitEntry) : Kept x (s.routeIfRoom l e) := by
  unfold State.routeIfRoom
  split
  · exact h.routeEntry l _ _
  · exact h

theorem Kept.routeWaiting (h : Kept x s) (l : LineId) : Kept x (s.routeWaiting l) := by
  unfold State.routeWaiting
  split
  · exact h
  · exact (List.foldlRecOn (motive := Kept x) _ _ h fun _ hu e _ => hu.routeIfRoom l e).alikeLine l
      (Line.alike_resumeDeadlines _)

theorem Kept.routeTurned (h : Kept x s) (turned : LineId → Bool) : Kept x (s.routeTurned turned) :=
  List.foldlRecOn (motive := Kept x) _ _ h fun _ hu l _ => hu.routeWaiting l

theorem Kept.arriveAtSorter (h : Kept x s) (l : LineId) (e : TransitEntry) : Kept x (s.arriveAtSorter l e) := by
  unfold State.arriveAtSorter
  split
  · exact h.routeEntry l _ _
  · exact (h.alikeLine l ((Line.alike_enterStage _ _ _ _).trans (Line.alike_holdDeadlines _))).send l _

theorem Kept.setClosed (h : Kept x s) (l : LineId) (b : BinId) (closed : Bool) : Kept x (s.setClosed l b closed) :=
  h.alikeLine l {}

theorem Kept.takeEmptied (h : Kept x s) (l : LineId) (bin : Nat) : Kept x (s.takeEmptied l bin) := by
  unfold State.takeEmptied
  split
  · exact ((h.alikeLine l {}).report _).routeWaiting l
  · exact h

theorem Kept.fullTest (h : Kept x s) (l : LineId) (b : BinId) : Kept x (s.fullTest l b) := by
  unfold State.fullTest
  split
  · exact h.report _
  · exact h

theorem Kept.configure (h : Kept x s) (l : LineId) (c : LineConfig) (capacity : BinId → Nat) :
    Kept x (s.configure l c capacity) := ((h.alikeLine l {}).reportAll _).routeWaiting l

/-! ### At the punch-bender -/

theorem Kept.sendGo (h : Kept x s) (l : LineId) (p : Slot) : Kept x (s.sendGo l p) :=
  (h.alikeLine l (Line.alike_enterStage _ _ _ _)).send l _

theorem Kept.deliverAtPunch (h : Kept x s) (l : LineId) (e : TransitEntry) : Kept x (s.deliverAtPunch l e) := by
  unfold State.deliverAtPunch
  split
  · exact h.sendGo l _
  · split
    · exact (h.alikeLine l ((Line.alike_enterStage _ _ _ _).trans {})).send l _
    · exact h.alikeLine l (Line.alike_enterStage _ _ _ _)

theorem Kept.acceptArrival (h : Kept x s) (l : LineId) (e : TransitEntry) : Kept x (s.acceptArrival l e) := by
  unfold State.acceptArrival
  split
  · exact h.deliverAtPunch l e
  · exact (h.alikeLine l (Line.alike_enterStage _ _ _ _)).send l _

theorem Kept.serveSetups (h : Kept x s) (n : Nat) (l : LineId) : Kept x (State.serveSetups n l s) := by
  induction n generalizing s with
  | zero => exact h
  | succ n ih =>
    unfold State.serveSetups
    split
    · exact ih (h.deliverAtPunch l _)
    · exact h

theorem Kept.takeSetupDone (h : Kept x s) (l : LineId) : Kept x (s.takeSetupDone l) := by
  unfold State.takeSetupDone
  split
  · exact h
  · split
    · exact h
    · exact ((h.alikeLine l {}).sendGo l _).serveSetups _ l

theorem Kept.takeDone (h : Kept x s) (l : LineId) : Kept x (s.takeDone l) := by
  unfold State.takeDone
  split
  · exact h
  · split
    · exact h
    · exact h.alikeLine l (Line.alike_enterStage _ _ _ _)

/-- The lines set up to a profile that is loaded forget it (R147). -/
theorem Kept.loadProfile (h : Kept x s) (f : ProfileId) (p : Profile) : Kept x (s.loadProfile f p) := by
  have line : ∀ l, (s.line l).Alike ((s.loadProfile f p).line l) := fun l => by
    simp only [State.line, State.loadProfile, Vector.getElem_map]
    split <;> exact {}
  exact h.alike ⟨rfl, rfl, fun l a => (line l).listed a, fun l => (line l).begun, rfl, rfl⟩ fun _ => ⟨rfl, rfl, rfl⟩

end

end Sys2Proof.Machine
end

section
/-! SUPPORT. How records move between the lists and the states that stand in none: the ready list, readiness, remaking and
spoiling, and the ways out of a line's lists. -/

namespace Sys2Proof.Machine

set_option Elab.async false

/-! ### States of no list -/

/-- The states of a record that stands in no list and that owes no version, DELIVERED excepted (R59). -/
def PlateState.idle : PlateState → Bool
  | .free => true
  | .planned => true
  | .obsolete => true
  | .spoiled => true
  | _ => false

theorem PlateState.inFlight_of_idle {g : PlateState} (h : g.idle = true) : g.inFlight = false := by
  revert h
  cases g <;> decide

theorem PlateRecord.spot_of_idle {r : PlateRecord} (h : r.state.idle = true) : r.spot = none := by
  unfold PlateRecord.spot
  cases hr : r.state <;> simp_all [PlateState.idle]

section
variable {x : Slack} {s : State} {p : Slot} {l : LineId} {ks : List PageIx}

theorem State.Fresh.of_idle (h : (s.plate p).state.idle = true) : s.Fresh p := by
  constructor <;> intro hstate
  · rcases hstate with e | e <;> rw [e] at h <;> cases h
  all_goals rw [hstate] at h; cases h

theorem PlateRecord.demandKeys_of_demands {r : PlateRecord} (h : r.state.demands = true) : r.demandKeys = r.load.keys :=
  if_pos h

theorem PlateState.demands_of_inFlight {g : PlateState} (h : g.inFlight = true) : g.demands = true := by
  revert h
  cases g <;> decide

/-- A record in hand whose state stands in no list stays out of all. -/
theorem Kept.stay (h : Kept (x.take p ks) s) (hand : x.hand p = none)
    (claims : ∀ k, ks.count k = (s.plate p).demandKeys.count k) (idle : (s.plate p).state.idle = true)
    (line : (s.plate p).line = none) : Kept x s :=
  h.put_idle hand claims (PlateRecord.spot_of_idle idle) line (PlateState.inFlight_of_idle idle) fun _ => .of_idle idle

/-- A record in hand takes a state that stands in no list. -/
theorem Kept.rest (h : Kept (x.take p ks) s) (hand : x.hand p = none) {r : PlateRecord}
    (claims : ∀ k, ks.count k = r.demandKeys.count k) (idle : r.state.idle = true) (line : r.line = none) :
    Kept x (s.setPlate p r) := by
  have plate : (s.setPlate p r).plate p = r := State.plate_setPlate_self s p r
  refine (h.setPlate_hand (x.take_hand_self p ks) r).stay hand ?_ ?_ ?_ <;> rw [plate]
  · exact claims
  · exact idle
  · exact line

/-! ### The ready list (R97) -/

/-- Behind the URGENT records that begin a ready list in the order of the classes there is none. -/
theorem urgent_dropWhile {u : Slot → Bool} {ps : List Slot} (h : ps.Pairwise fun p q => u q = true → u p = true) :
    ∀ q ∈ ps.dropWhile u, u q = false := by
  induction ps with
  | nil => simp
  | cons p ps ih =>
    obtain ⟨first, rest⟩ := List.pairwise_cons.mp h
    by_cases hp : u p = true
    · rw [List.dropWhile_cons_of_pos hp]
      exact ih rest
    · rw [List.dropWhile_cons_of_neg hp]
      intro q hq
      rcases List.mem_cons.mp hq with rfl | hq
      · exact Bool.eq_false_iff.mpr hp
      · exact Bool.eq_false_iff.mpr fun hu => hp (first q hq hu)

/-- A READY record in hand enters the ready list, at a place that keeps the order of the classes. -/
theorem Kept.joinAt (h : Kept (x.take p ks) s) (hand : x.hand p = none)
    (claims : ∀ k, ks.count k = (s.plate p).load.keys.count k) (state : (s.plate p).state = .ready)
    (line : (s.plate p).line = none) (complete : ¬ x.stale p → s.pagesComplete p = true) {as bs : List Slot}
    (split : s.ready = as ++ bs) (before : s.urgent p = true → ∀ q ∈ as, s.urgent q = true)
    (behind : s.urgent p = false → ∀ q ∈ bs, s.urgent q = false) : Kept x { s with ready := as ++ p :: bs } := by
  have spot : (s.plate p).spot = some .ready := PlateRecord.spot_eq_some.mpr state
  have demanding : (s.plate p).state.demands = true := by rw [state]; rfl
  refine h.put hand rfl rfl rfl ?_ ?_ ?_ ?_ ?_ ?_ fun _ _ _ => .inl
  · rw [PlateRecord.demandKeys_of_demands demanding]
    exact claims
  · intro q y
    rw [spot]
    rcases y with - | ⟨l, a⟩
    · show q ∈ as ++ p :: bs ↔ q ∈ s.ready ∨ _
      rw [split]
      simp only [List.mem_append, List.mem_cons]
      tauto
    · exact (or_iff_left fun hq => by simp at hq).symm
  · intro y
    rcases y with - | ⟨l, a⟩
    · refine List.nodup_middle.mpr (List.nodup_cons.mpr ?_)
      rw [← split]
      exact ⟨h.absent .ready, h.once .ready⟩
    · exact h.once (.on l a)
  · have sorted := h.classes
    rw [split] at sorted
    obtain ⟨hfirst, hrest, hcross⟩ := List.pairwise_append.mp sorted
    refine List.pairwise_append.mpr ⟨hfirst, List.pairwise_cons.mpr ⟨fun q hq hu => ?_, hrest⟩, fun q hq r hr => ?_⟩
    · by_contra hp
      rw [behind (Bool.eq_false_iff.mpr hp) q hq] at hu
      cases hu
    · rcases List.mem_cons.mp hr with rfl | hr
      · exact fun hu => before hu q hq
      · exact hcross q hq r hr
  · rw [line, state]
    simp [PlateState.inFlight]
  · refine fun hs => ⟨fun _ => complete hs, ?_, ?_, ?_⟩ <;> intro hstate <;> rw [state] at hstate <;> cases hstate

theorem Kept.joinBetween (h : Kept (x.take p ks) s) (hand : x.hand p = none)
    (claims : ∀ k, ks.count k = (s.plate p).load.keys.count k) (state : (s.plate p).state = .ready)
    (line : (s.plate p).line = none) (complete : ¬ x.stale p → s.pagesComplete p = true) : Kept x (s.joinBetween p) :=
  h.joinAt hand claims state line complete List.takeWhile_append_dropWhile.symm
    (fun _ _ => List.mem_takeWhile_imp) (fun _ => urgent_dropWhile h.classes)

theorem Kept.joinBack (h : Kept (x.take p ks) s) (hand : x.hand p = none)
    (claims : ∀ k, ks.count k = (s.plate p).load.keys.count k) (state : (s.plate p).state = .ready)
    (line : (s.plate p).line = none) (complete : ¬ x.stale p → s.pagesComplete p = true) : Kept x (s.joinBack p) := by
  unfold State.joinBack
  split
  · exact h.joinBetween hand claims state line complete
  · rename_i normal
    exact h.joinAt hand claims state line complete (List.append_nil _).symm (fun hu => absurd hu normal)
      fun _ _ hq => absurd hq List.not_mem_nil

theorem Kept.joinFront (h : Kept (x.take p ks) s) (hand : x.hand p = none)
    (claims : ∀ k, ks.count k = (s.plate p).load.keys.count k) (state : (s.plate p).state = .ready)
    (line : (s.plate p).line = none) (complete : ¬ x.stale p → s.pagesComplete p = true) : Kept x (s.joinFront p) := by
  unfold State.joinFront
  split
  · rename_i urgent
    exact h.joinAt hand claims state line complete (as := []) rfl (fun _ _ hq => absurd hq List.not_mem_nil)
      fun hn => absurd urgent (by simp [hn])
  · exact h.joinBetween hand claims state line complete

/-- A record in hand is returned to the ready list (R98). -/
theorem Kept.returnToReady (h : Kept (x.take p ks) s) (hand : x.hand p = none)
    (claims : ∀ k, ks.count k = (s.plate p).load.keys.count k) (complete : ¬ x.stale p → s.pagesComplete p = true) :
    Kept x (s.returnToReady p) := by
  have plate := State.plate_setPlate_self s p { s.plate p with state := .ready, line := none }
  refine (h.setPlate_hand (x.take_hand_self p ks) _).joinFront hand ?_ ?_ ?_ fun hs => ?_
  · rw [plate]; exact claims
  · rw [plate]
  · rw [plate]
  · exact State.pagesComplete_mono (s := s) (by rw [plate]) (fun _ _ => id) (complete hs)

/-! ### Readiness, remaking and spoiling (R64, R69, R70) -/

/-- A record that is not in flight has no line. -/
theorem Kept.line_eq_none (h : Kept x s) (hand : x.hand p = none) (flight : (s.plate p).state.inFlight = false) :
    (s.plate p).line = none := by
  rw [← Option.not_isSome_iff_eq_none, h.onLine p hand, flight]
  decide

theorem Kept.evaluate (h : Kept x s) (hand : x.hand p = none) : Kept x (s.evaluate p) := by
  unfold State.evaluate
  split
  · rename_i hp
    obtain ⟨planned, complete⟩ := hp
    have plate := State.plate_setPlate_self s p { s.plate p with state := .ready }
    have lifted := h.lift_idle hand (PlateRecord.spot_of_idle (by rw [planned]; rfl))
    rw [PlateRecord.demandKeys_of_demands (by rw [planned]; rfl)] at lifted
    refine ((lifted.setPlate_hand (x.take_hand_self p _) _).joinBack hand ?_ ?_ ?_ fun _ => ?_).tell
    · rw [plate]; exact fun _ => rfl
    · rw [plate]
    · rw [plate]; exact h.line_eq_none hand (by rw [planned]; rfl)
    · exact State.pagesComplete_mono (s := s) (by rw [plate]) (fun _ _ => id) complete
  · exact h

theorem Kept.evaluateOn (h : Kept x s) (hand : ∀ p, x.hand p = none) (k : PageIx) : Kept x (s.evaluateOn k) :=
  List.foldlRecOn (motive := Kept x) _ _ h fun _ hu p _ => hu.evaluate (hand p)

/-- A record in hand is remade. -/
theorem Kept.remake (h : Kept (x.take p ks) s) (hand : x.hand p = none)
    (claims : ∀ k, ks.count k = (s.plate p).load.keys.count k) : Kept x (s.remake p) := by
  refine (h.rest hand (fun k => ?_) rfl rfl).evaluate hand
  exact claims k

/-- A record in hand, OBSOLETE or SPOILED, is remade when AUTO and otherwise stays so. -/
theorem Kept.autoRemake (h : Kept (x.take p ks) s) (hand : x.hand p = none)
    (claims : ∀ k, ks.count k = (s.plate p).load.keys.count k)
    (state : (s.plate p).state = .obsolete ∨ (s.plate p).state = .spoiled) (line : (s.plate p).line = none) :
    Kept x (s.autoRemake p) := by
  unfold State.autoRemake
  split
  · exact h.remake hand claims
  · refine h.stay hand ?_ ?_ line
    · rw [PlateRecord.demandKeys_of_demands (by rcases state with e | e <;> rw [e] <;> rfl)]
      exact claims
    · rcases state with e | e <;> rw [e] <;> rfl

/-- A record in hand is spoiled. -/
theorem Kept.spoil (h : Kept (x.take p ks) s) (hand : x.hand p = none)
    (claims : ∀ k, ks.count k = (s.plate p).load.keys.count k) (c : Cause) : Kept x (s.spoil p c) := by
  refine (h.setPlate_hand (x.take_hand_self p ks) _).autoRemake hand ?_ (.inr ?_) ?_ <;>
    rw [State.plate_setPlate_self]
  exact claims

/-! ### Out of the lists -/

/-- A record that is not in flight stands in the ready list or in none. -/
theorem PlateRecord.spot_of_not_inFlight {r : PlateRecord} {y : Spot} (flight : r.state.inFlight = false)
    (h : r.spot = some y) : y = .ready := by
  have named := PlateRecord.spot_eq_some.mp h
  rcases y with - | ⟨l, - | - | -⟩
  · rfl
  all_goals
    rw [named.1] at flight
    cases flight

theorem Kept.leaveReady (h : Kept x s) (hand : x.hand p = none) (flight : (s.plate p).state.inFlight = false) :
    Kept (x.take p (s.plate p).demandKeys) (s.leaveReady p) := by
  refine h.lift hand rfl rfl rfl (fun y => ?_) (fun q y hne hq => ?_) (fun y hy => ?_) fun _ _ _ => id
  · rcases y with - | ⟨l, a⟩
    · exact List.filter_sublist
    · exact List.Sublist.refl _
  · rcases y with - | ⟨l, a⟩
    · exact List.mem_filter.mpr ⟨hq, decide_eq_true hne⟩
    · exact hq
  · rw [PlateRecord.spot_of_not_inFlight flight hy]
    simp [State.listed, State.leaveReady]

/-- A record leaves the list of a line in which it stands. -/
theorem Kept.leaveLine (h : Kept x s) {a : Seat} (mem : p ∈ (s.line l).listed a) {ln : Line}
    (sub : ∀ b, (ln.listed b).Sublist ((s.line l).listed b))
    (others : ∀ q b, q ≠ p → q ∈ (s.line l).listed b → q ∈ ln.listed b) (gone : p ∉ ln.listed a)
    (begun : ∀ q b, ln.begun = some (q, b) → (s.line l).begun = some (q, b)) :
    Kept (x.take p (s.plate p).load.keys) (s.setLine l ln) := by
  obtain ⟨hand, spot⟩ := (h.spots p (.on l a)).mp mem
  have demanding : (s.plate p).state.demands = true := by
    have := PlateRecord.spot_eq_some.mp spot
    rcases a <;> rw [this.1] <;> rfl
  rw [← PlateRecord.demandKeys_of_demands demanding]
  refine h.lift hand rfl rfl rfl (fun y => ?_) (fun q y hne hq => ?_) (fun y hy => ?_) (fun m q b hb => ?_)
  · rcases y with - | ⟨m, b⟩
    · exact List.Sublist.refl _
    · show (((s.setLine l ln).line m).listed b).Sublist _
      rw [State.line_setLine]
      split
      · subst m
        exact sub b
      · exact List.Sublist.refl _
  · rcases y with - | ⟨m, b⟩
    · exact hq
    · show q ∈ ((s.setLine l ln).line m).listed b
      rw [State.line_setLine]
      split
      · subst m
        exact others q b hne hq
      · exact hq
  · rw [spot] at hy
    cases hy
    show p ∉ ((s.setLine l ln).line l).listed a
    rw [State.line_setLine_self]
    exact gone
  · rw [State.line_setLine] at hb
    split at hb
    · subst m
      exact begun q b hb
    · exact hb

/-- A record leaves its line's queue. -/
theorem Kept.unqueue (h : Kept x s) (mem : p ∈ (s.line l).queue) : Kept (x.take p (s.plate p).load.keys)
    (s.setLine l { s.line l with queue := (s.line l).queue.filter fun q => decide (q ≠ p) }) := by
  refine h.leaveLine (a := .queue) mem (fun b => ?_) (fun q b hne hq => ?_) ?_ fun _ _ => id
  · cases b
    · exact List.filter_sublist
    all_goals exact List.Sublist.refl _
  · cases b
    · exact List.mem_filter.mpr ⟨hq, decide_eq_true hne⟩
    all_goals exact hq
  · simp [Line.listed]

theorem Kept.leaveQueue (h : Kept x s) (mem : p ∈ (s.line l).queue) :
    Kept (x.take p (s.plate p).load.keys) (s.leaveQueue l p) := (h.unqueue mem).tell

/-- A record leaves its line's transit list. -/
theorem Kept.dropEntry (h : Kept x s) (mem : p ∈ (s.line l).transit.map TransitEntry.slot) {ln : Line}
    (hln : ((s.line l).dropEntry p).Alike ln) :
    Kept (x.take p (s.plate p).load.keys) (s.setLine l ln) := by
  have gone : p ∉ ((s.line l).dropEntry p).listed .transit := by simp [Line.listed, Line.dropEntry]
  refine h.leaveLine (a := .transit) mem (fun b => ?_) (fun q b hne hq => ?_) ?_ fun q b hb => ?_
  · rw [hln.listed]
    cases b
    case transit => exact List.filter_sublist.map _
    all_goals exact List.Sublist.refl _
  · rw [hln.listed]
    cases b
    case transit =>
      obtain ⟨e, he, rfl⟩ := List.mem_map.mp hq
      exact List.mem_map_of_mem (List.mem_filter.mpr ⟨he, decide_eq_true hne⟩)
    all_goals exact hq
  · rw [hln.listed]
    exact gone
  · rw [hln.begun] at hb
    exact hb

/-- The end of an exposure takes its record from the line. -/
theorem Kept.closeExposure (h : Kept x s) {c : Exposure} (hc : (s.line l).exposure = some c) :
    Kept (x.take c.slot (s.plate c.slot).load.keys) (s.closeExposure l c) := by
  have stored := h.onStore fun st => c.holds.foldl RasterStore.dropHold (st.withdrawRead l)
  refine stored.leaveLine (a := .unit) (p := c.slot) ?_ (fun b => ?_) (fun q b hne hq => ?_) ?_ fun q b hb => ?_
  · exact (Line.mem_listed_unit _ _).mpr (congrArg (Option.map Exposure.slot) hc)
  · cases b
    case unit => exact List.nil_sublist _
    all_goals exact List.Sublist.refl _
  · cases b
    case unit =>
      have := (Line.mem_listed_unit _ _).mp hq
      have held : some c.slot = some q := (congrArg (Option.map Exposure.slot) hc).symm.trans this
      exact absurd (Option.some.inj held).symm hne
    all_goals exact hq
  · exact List.not_mem_nil
  · cases hb

end

end Sys2Proof.Machine
end

section
/-! SUPPORT. Version coherence through an offer of demand, the return of a queue, the Dispatcher's walk and the starts. -/

namespace Sys2Proof.Machine

set_option Elab.async false

section
variable {x y : Slack} {s t : State} {p : Slot} {l : LineId} {ks : List PageIx}

/-! ### Demand and release (R37, R38) -/

/-- An entry keeps its version, and its state unless it is released without demand. -/
def PageEntry.Fades (e f : PageEntry) : Prop :=
  f.version = e.version ∧ (f.state = e.state ∨ e.state = .complete ∧ f.state = .released ∧ f.demand = 0)

theorem PageEntry.netted_demand (e : PageEntry) (removed added : Nat) :
    (e.netted removed added).demand = e.demand + added - removed := by
  unfold PageEntry.netted
  split
  · rename_i h
    exact h.2.1.symm
  · rfl

theorem PageEntry.netted_fades (e : PageEntry) (removed added : Nat) : e.Fades (e.netted removed added) := by
  unfold PageEntry.netted
  split
  · rename_i h
    exact ⟨rfl, .inr ⟨h.2.2, rfl, rfl⟩⟩
  · exact ⟨rfl, .inl rfl⟩

/-- Entries have changed in their demand, and those without demand may have been released. -/
theorem Kept.fade (h : Kept x s) (k : Alike s t) (hand : ∀ p, x.hand p = none ↔ y.hand p = none)
    (stale : y.stale = x.stale) (loose : y.loose = x.loose)
    (demand : ∀ k, (t.page k).demand = ∑ p : Slot, (t.claims y p).count k)
    (page : ∀ k, (s.page k).Fades (t.page k)) : Kept y t := by
  have version : ∀ k, (t.page k).version = (s.page k).version := fun k => (page k).1
  have load : ∀ p, (t.plate p).load = (s.plate p).load := fun p => congrArg PlateRecord.load (k.plate p)
  refine h.entries k hand (fun p hp => stale ▸ hp) demand (fun j => ?_) (fun j hl => ⟨loose ▸ hl, fun hr => ?_⟩)
    (fun p hp _ hdemands => State.pagesComplete_mono (load p) fun j hj hcomplete => ?_)
    (fun p _ _ _ => State.Current.mono (load p) (congrArg PlateRecord.bound (k.plate p)) fun j _ => version j)
  · rw [version, h.versions]
    rcases (page j).2 with e | ⟨e, e', -⟩
    · rw [e]
    · rw [e, e']
      exact ⟨(nomatch ·), (nomatch ·)⟩
  · rcases (page j).2 with e | ⟨e, -, -⟩
    · rw [e, hr]
    · rw [e] at hr
      cases hr
  · rcases (page j).2 with e | ⟨-, -, e⟩
    · rw [e, hcomplete]
    · have claim : t.claims y p = (s.plate p).load.keys := by
        rw [State.claims, (hand p).mp hp, Option.getD_none, k.plate, PlateRecord.demandKeys_of_demands hdemands]
      have none_left := demand j
      rw [e] at none_left
      have := Finset.sum_eq_zero_iff.mp none_left.symm p (Finset.mem_univ p)
      rw [claim] at this
      exact absurd hj (List.count_eq_zero.mp this)

/-- The claim of a record in hand is changed by an offer of demand. -/
theorem Kept.offerDemand {removed : List PageIx} (h : Kept (x.take p removed) s) (hand : x.hand p = none)
    (added : List PageIx) : Kept (x.take p added) (s.offerDemand removed added) := by
  have page := s.offerDemand_page removed added
  obtain ⟨pages, store, reports, e, -⟩ := s.offerDemand_only removed added
  have alike : Alike s (s.offerDemand removed added) := by
    rw [e]
    exact ⟨rfl, rfl, fun _ _ => rfl, fun _ => rfl, rfl, rfl⟩
  refine h.fade alike (fun q => ?_) rfl rfl (fun k => ?_) fun k => ?_
  · rw [Slack.take_hand_eq_none hand, Slack.take_hand_eq_none hand]
  · have same : ∀ q, (s.offerDemand removed added).claims x q = s.claims x q := fun q => by
      rw [State.claims, State.claims, alike.plate]
    rw [page, PageEntry.netted_demand, h.demand k, sum_claims s _ p, sum_claims _ _ p, State.claims_take_self,
      State.claims_take_self, sum_claims_others, sum_claims_others]
    simp only [same]
    omega
  · rw [page]
    exact PageEntry.netted_fades _ _ _

/-- A page without demand is released. -/
theorem Kept.releasePage (h : Kept x s) {k : PageIx} (complete : (s.page k).state = .complete)
    (demand : (s.page k).demand = 0) : Kept x (s.releasePage k) := by
  have page := s.releasePage_page k
  obtain ⟨pages, store, reports, e, -⟩ := s.releasePage_only k
  have alike : Alike s (s.releasePage k) := by
    rw [e]
    exact ⟨rfl, rfl, fun _ _ => rfl, fun _ => rfl, rfl, rfl⟩
  have same : ∀ q, (s.releasePage k).claims x q = s.claims x q := fun q => by
    rw [State.claims, State.claims, alike.plate]
  refine h.fade alike (fun _ => Iff.rfl) rfl rfl (fun j => ?_) fun j => ?_
  · simp only [same]
    rw [← h.demand j, page]
    split
    · rename_i hj
      rw [hj]
    · rfl
  · rw [page]
    split
    · rename_i hj
      rw [hj]
      exact ⟨rfl, .inr ⟨complete, rfl, demand⟩⟩
    · exact ⟨rfl, .inl rfl⟩

/-! ### Into a line's list -/

/-- A record in hand enters a list of a line. -/
theorem Kept.enterLine (h : Kept (x.take p ks) s) (hand : x.hand p = none)
    (claims : ∀ k, ks.count k = (s.plate p).load.keys.count k) {a : Seat} (spot : (s.plate p).spot = some (.on l a))
    {ln : Line} (enters : (ln.listed a).Perm (p :: (s.line l).listed a))
    (others : ∀ b, b ≠ a → ln.listed b = (s.line l).listed b) (fresh : ¬ x.stale p → s.Fresh p)
    (begun : ∀ q b, ln.begun = some (q, b) → (s.line l).begun = some (q, b)
      ∨ q = p ∧ b = false ∧ ((s.plate p).withdraw = false → s.pagesComplete p = true)) :
    Kept x (s.setLine l ln) := by
  have flight : (s.plate p).state.inFlight = true ∧ (s.plate p).line = some l := by
    have := PlateRecord.spot_eq_some.mp spot
    rcases a <;> exact ⟨this.1 ▸ rfl, this.2⟩
  have absent : p ∉ (s.line l).listed a := h.absent (.on l a)
  refine h.put hand rfl rfl rfl ?_ (fun q y => ?_) (fun y => ?_) h.classes ?_ fresh fun m q b hb => ?_
  · rw [PlateRecord.demandKeys_of_demands (PlateState.demands_of_inFlight flight.1)]
    exact claims
  · rw [spot, Option.some.injEq]
    rcases y with - | ⟨m, b⟩
    · exact (or_iff_left fun hq => nomatch hq.2).symm
    · show q ∈ ((s.setLine l ln).line m).listed b ↔ q ∈ (s.line m).listed b ∨ _
      rw [State.line_setLine, Spot.on.injEq]
      split
      · subst m
        by_cases hb : b = a
        · subst hb
          rw [enters.mem_iff, List.mem_cons]
          tauto
        · rw [others b hb]
          exact (or_iff_left fun hq => hb hq.2.2.symm).symm
      · rename_i hm
        exact (or_iff_left fun hq => hm hq.2.1.symm).symm
  · rcases y with - | ⟨m, b⟩
    · exact h.once .ready
    · show (((s.setLine l ln).line m).listed b).Nodup
      rw [State.line_setLine]
      split
      · by_cases hb : b = a
        · subst hb
          exact enters.nodup_iff.mpr (List.nodup_cons.mpr ⟨absent, h.once (.on l b)⟩)
        · rw [others b hb]
          exact h.once (.on l b)
      · exact h.once (.on m b)
  · rw [flight.1, flight.2]
    simp
  · rw [State.line_setLine] at hb
    split at hb
    · subst m
      exact begun q b hb
    · exact .inl hb

/-! ### Returns from a line (R98, R110) -/

theorem State.returnToReady_lines (s : State) (p : Slot) : (s.returnToReady p).lines = s.lines := by
  unfold State.returnToReady State.joinFront
  split <;> rfl

theorem State.returnToReady_pages (s : State) (p : Slot) : (s.returnToReady p).pages = s.pages := by
  unfold State.returnToReady State.joinFront
  split <;> rfl

theorem State.returnToReady_plate (s : State) {p q : Slot} (h : q ≠ p) : (s.returnToReady p).plate q = s.plate q := by
  have other : ∀ r, (s.setPlate p r).plate q = s.plate q := fun r => by rw [State.plate_setPlate, if_neg h]
  unfold State.returnToReady State.joinFront
  split <;> exact other _

/-- The returns of several records: the lines, the entries and the other records stay. -/
theorem State.foldr_returnToReady_only (ps : List Slot) (s : State) :
    (ps.foldr (fun p u => u.returnToReady p) s).lines = s.lines
    ∧ (ps.foldr (fun p u => u.returnToReady p) s).pages = s.pages
    ∧ ∀ q ∉ ps, (ps.foldr (fun p u => u.returnToReady p) s).plate q = s.plate q := by
  induction ps with
  | nil => exact ⟨rfl, rfl, fun _ _ => rfl⟩
  | cons p ps ih =>
    obtain ⟨hlines, hpages, hplate⟩ := ih
    refine ⟨(State.returnToReady_lines _ _).trans hlines, (State.returnToReady_pages _ _).trans hpages, fun q hq => ?_⟩
    rw [List.mem_cons, not_or] at hq
    rw [List.foldr_cons, State.returnToReady_plate _ hq.1, hplate q hq.2]

theorem State.returnEntries_only (s : State) (l : LineId) (ps : List Slot) :
    (s.returnEntries l ps).pages = s.pages ∧ ∀ q ∉ ps, (s.returnEntries l ps).plate q = s.plate q := by
  unfold State.returnEntries
  split
  · exact ⟨rfl, fun _ _ => rfl⟩
  · dsimp only
    rw [State.reportAll_eq]
    obtain ⟨-, pages, plates⟩ := State.foldr_returnToReady_only ps
      (s.setLine l { s.line l with queue := (s.line l).queue.filter fun q => decide (q ∉ ps) })
    exact ⟨pages, plates⟩

/-- What is left of a line's queue after a return. -/
theorem State.returnEntries_queue (s : State) (l : LineId) (ps : List Slot) :
    ((s.returnEntries l ps).line l).queue = (s.line l).queue.filter fun q => decide (q ∉ ps) := by
  unfold State.returnEntries
  split
  · rename_i hps
    subst hps
    simp
  · dsimp only
    rw [State.reportAll_eq]
    simp only [State.line, State.tell_lines, (State.foldr_returnToReady_only ps _).1]
    exact congrArg Line.queue (s.line_setLine_self l _)

/-- QUEUED records with no version owed have their pages COMPLETE. -/
theorem Kept.complete_of_queue (h : Kept x s) (mem : p ∈ (s.line l).queue) (hs : ¬ x.stale p) :
    s.pagesComplete p = true := by
  obtain ⟨hand, spot⟩ := (h.spots p (.on l .queue)).mp mem
  exact (h.fresh p hand hs).complete (.inr (PlateRecord.spot_eq_some.mp spot).1)

/-- Records leave a line's queue together and join the ready list one by one, the last first (R98). -/
theorem Kept.foldr_returnToReady {ps : List Slot} (h : Kept x s) (once : ps.Nodup)
    (queued : ∀ p ∈ ps, p ∈ (s.line l).queue) :
    Kept x (ps.foldr (fun p u => u.returnToReady p)
      (s.setLine l { s.line l with queue := (s.line l).queue.filter fun q => decide (q ∉ ps) })) := by
  induction ps generalizing x s with
  | nil => exact h.alikeLine l { queue := by simp }
  | cons p ps ih =>
    obtain ⟨hp, hps⟩ := List.nodup_cons.mp once
    have mem := queued p List.mem_cons_self
    have hand := ((h.spots p (.on l .queue)).mp mem).1
    have lifted := ih (h.unqueue mem) hps fun q hq => by
      rw [State.line_setLine_self]
      exact List.mem_filter.mpr ⟨queued q (List.mem_cons_of_mem p hq), decide_eq_true fun e => hp (e ▸ hq)⟩
    have left : (s.line l).queue.filter (fun q => decide (q ∉ p :: ps)) =
        ((s.line l).queue.filter fun q => decide (q ≠ p)).filter fun q => decide (q ∉ ps) := by
      rw [List.filter_filter]
      refine List.filter_congr fun q _ => ?_
      simp [Bool.and_comm]
    simp only [State.line_setLine_self, State.setLine_setLine, ← left] at lifted
    obtain ⟨-, pages, plates⟩ := State.foldr_returnToReady_only ps
      (s.setLine l { s.line l with queue := (s.line l).queue.filter fun q => decide (q ∉ p :: ps) })
    have plate := plates p hp
    refine lifted.returnToReady hand (fun k => ?_) fun hs => ?_
    · rw [plate]
      rfl
    · refine State.pagesComplete_mono (congrArg PlateRecord.load plate) (fun k _ hk => ?_) (h.complete_of_queue mem hs)
      rw [State.page, pages]
      exact hk

theorem Kept.returnEntries {ps : List Slot} (h : Kept x s) (once : ps.Nodup)
    (queued : ∀ p ∈ ps, p ∈ (s.line l).queue) : Kept x (s.returnEntries l ps) := by
  unfold State.returnEntries
  split
  · exact h
  · exact ((h.foldr_returnToReady once queued).reportAll _).tell

/-- A line's whole queue is returned. -/
theorem Kept.returnQueue (h : Kept x s) (l : LineId) : Kept x (s.returnEntries l (s.line l).queue) :=
  h.returnEntries (h.once (.on l .queue)) fun _ => id

theorem Kept.faultLine (h : Kept x s) (l : LineId) (c : Cause) (p : Option Slot) : Kept x (s.faultLine l c p) := by
  unfold State.faultLine
  split
  · exact h.report _
  · exact (((h.alikeLine l ((Line.alike_stopDeadlines _).trans {})).report _).report _).returnQueue l |>.tell

/-! ### The walk (R101, R102) -/

theorem insertUrgent_perm (urgent : Slot → Bool) (qs : List Slot) (p : Slot) :
    (insertUrgent urgent qs p).Perm (p :: qs) := by
  induction qs with
  | nil => exact List.Perm.refl _
  | cons q qs ih =>
    unfold insertUrgent
    split
    · exact (ih.cons q).trans (List.Perm.swap p q qs)
    · exact List.Perm.refl _

theorem State.enqueue_perm (s : State) (l : LineId) (p : Slot) : (s.enqueue l p).Perm (p :: (s.line l).queue) := by
  unfold State.enqueue
  split
  · exact insertUrgent_perm _ _ _
  · exact List.perm_append_singleton _ _

/-- A record in hand whose pages are COMPLETE enters a line's queue. -/
theorem Kept.enqueue (h : Kept (x.take p ks) s) (hand : x.hand p = none)
    (claims : ∀ k, ks.count k = (s.plate p).load.keys.count k) (state : (s.plate p).state = .queued)
    (line : (s.plate p).line = some l) (complete : ¬ x.stale p → s.pagesComplete p = true) {queue : List Slot}
    (enters : queue.Perm (p :: (s.line l).queue)) : Kept x (s.setLine l { s.line l with queue := queue }) := by
  refine h.enterLine (a := .queue) hand claims ?_ enters (fun b hb => ?_) (fun hs => ?_) fun _ _ => .inl
  · exact PlateRecord.spot_eq_some.mpr ⟨state, line⟩
  · cases b
    case queue => exact absurd rfl hb
    all_goals rfl
  · refine ⟨fun _ => complete hs, ?_, ?_, ?_⟩ <;> intro hstate <;> rw [state] at hstate <;> cases hstate

theorem Kept.place (h : Kept x s) (ready : p ∈ s.ready) (l : LineId) : Kept x (s.place p l) := by
  obtain ⟨hand, spot⟩ := (h.spots p .ready).mp ready
  have state := PlateRecord.spot_eq_some.mp spot
  have lifted := h.leaveReady hand (by rw [state]; rfl)
  rw [PlateRecord.demandKeys_of_demands (by rw [state]; rfl)] at lifted
  have plate := State.plate_setPlate_self (s.leaveReady p) p { s.plate p with state := .queued, line := some l }
  refine ((lifted.setPlate_hand (x.take_hand_self p _) _).enqueue hand ?_ ?_ ?_ (fun hs => ?_)
    (State.enqueue_perm _ l p)).report _
  · rw [State.leaveReady_plate, plate]
    exact fun _ => rfl
  · rw [State.leaveReady_plate, plate]
  · rw [State.leaveReady_plate, plate]
  · exact State.pagesComplete_mono (s := s) (by rw [State.leaveReady_plate, plate]) (fun _ _ => id)
      ((h.fresh p hand hs).complete (.inl state))

theorem Kept.walkOne (h : Kept x s) (ready : p ∈ s.ready) : Kept x (s.walkOne p) := by
  unfold State.walkOne
  split
  · exact h
  · exact h.place ready _

theorem State.mem_walkOne_ready {q : Slot} (hq : q ∈ s.ready) (hne : q ≠ p) : q ∈ (s.walkOne p).ready := by
  unfold State.walkOne
  split
  · exact hq
  · exact List.mem_filter.mpr ⟨hq, decide_eq_true hne⟩

theorem Kept.foldl_walkOne {ps : List Slot} (h : Kept x s) (once : ps.Nodup) (ready : ∀ p ∈ ps, p ∈ s.ready) :
    Kept x (ps.foldl State.walkOne s) := by
  induction ps generalizing s with
  | nil => exact h
  | cons p ps ih =>
    obtain ⟨hp, hps⟩ := List.nodup_cons.mp once
    exact ih (h.walkOne (ready p List.mem_cons_self)) hps fun q hq =>
      State.mem_walkOne_ready (ready q (List.mem_cons_of_mem p hq)) fun e => hp (e ▸ hq)

theorem Kept.walk (h : Kept x s) : Kept x s.walk := h.foldl_walkOne (h.once .ready) fun _ => id

/-! ### The starts (R108, R131) -/

/-- Records bound to the present versions of COMPLETE pages are current. -/
theorem Kept.current_of_complete (h : Kept x s) (complete : s.pagesComplete p = true)
    (bound : (s.plate p).bound = some ((s.plate p).load.keys.map fun k => (s.page k).version)) : s.Current p := by
  refine ⟨bound, fun k hk hv => ?_⟩
  have := State.pagesComplete_iff.mp complete k hk
  rw [(h.versions k).mp hv] at this
  cases this

theorem State.setLine_setPlate (s : State) (l : LineId) (ln : Line) (p : Slot) (r : PlateRecord) :
    (s.setPlate p r).setLine l ln = (s.setLine l ln).setPlate p r := rfl

/-- The record of a slot as its exposure begins (R131). -/
def State.seized (s : State) (p : Slot) : PlateRecord :=
  { s.plate p with state := .exposing, bound := some ((s.plate p).load.keys.map fun k => (s.page k).version) }

/-- The record at the head of a line's queue becomes its exposure in flight, bound to the versions of its pages. -/
theorem Kept.enterUnit (h : Kept {} s) {rest : List Slot} (hqueue : (s.line l).queue = p :: rest)
    (free : (s.line l).exposure = none) (c : Exposure) (composer : Composer) (slot : c.slot = p)
    (answered : c.answered = false) :
    Kept {} ((s.setLine l { s.line l with queue := rest, exposure := some c, composer := composer }).setPlate p
      (s.seized p)) := by
  have mem : p ∈ (s.line l).queue := hqueue ▸ List.mem_cons_self
  have absent : p ∉ rest := (List.nodup_cons.mp (hqueue ▸ h.once (.on l .queue) : (p :: rest).Nodup)).1
  have complete := h.complete_of_queue mem not_false
  obtain ⟨-, spot⟩ := (h.spots p (.on l .queue)).mp mem
  obtain ⟨-, line⟩ := PlateRecord.spot_eq_some.mp spot
  have lifted : Kept (({} : Slack).take p (s.plate p).load.keys) (s.setLine l { s.line l with queue := rest }) := by
    refine h.leaveLine (a := .queue) mem (fun b => ?_) (fun q b hne hq => ?_) absent fun _ _ => id
    · cases b
      case queue =>
        show rest.Sublist (s.line l).queue
        rw [hqueue]
        exact List.sublist_cons_self p rest
      all_goals exact List.Sublist.refl _
    · cases b
      case queue => exact (List.mem_cons.mp (hqueue ▸ hq : q ∈ p :: rest)).resolve_left hne
      all_goals exact hq
  have plate := State.plate_setPlate_self (s.setLine l { s.line l with queue := rest }) p (s.seized p)
  have still : ((s.setLine l { s.line l with queue := rest }).setPlate p (s.seized p)).pagesComplete p = true :=
    State.pagesComplete_mono (s := s) (by rw [plate]; rfl) (fun _ _ => id) complete
  have changed := lifted.setPlate_hand (({} : Slack).take_hand_self p _) (s.seized p)
  have entered := changed.enterLine (l := l) (a := .unit) (ln := { s.line l with
    queue := rest, exposure := some c, composer := composer }) rfl ?_ ?_ ?_ (fun b hb => ?_) (fun _ => ?_)
    (fun q b hb => ?_)
  · rw [State.setLine_setPlate, State.setLine_setLine] at entered
    exact entered
  · rw [plate]
    exact fun _ => rfl
  · rw [plate]
    exact PlateRecord.spot_eq_some.mpr ⟨rfl, line⟩
  · rw [State.setPlate_line, State.line_setLine_self]
    simp [Line.listed, Line.begun, free, slot]
  · rw [State.setPlate_line, State.line_setLine_self]
    cases b
    case unit => exact absurd rfl hb
    all_goals rfl
  · refine ⟨fun _ => still, fun _ _ _ => changed.current_of_complete still (by rw [plate]; rfl), ?_, ?_⟩
    all_goals intro hstate; rw [plate] at hstate; cases hstate
  · obtain ⟨e, he, rfl, rfl⟩ := Line.begun_eq_some.mp hb
    cases he
    exact .inr ⟨slot, answered, fun _ => still⟩

theorem Kept.beginExposure (h : Kept {} s) (l : LineId) (free : (s.line l).exposure = none) :
    Kept {} (s.beginExposure l) := by
  unfold State.beginExposure
  split
  · exact h
  · rename_i hqueue
    exact (((((h.enterUnit hqueue free _ _ rfl rfl).onStore _).reportAll _).send l _).tell).feedLine l

theorem Kept.startTest (h : Kept {} s) (l : LineId) : Kept {} (s.startTest l) := by
  unfold State.startTest
  split
  · exact h.beginExposure l (Line.transit_of_startReady _ ‹_›).1
  · exact h

theorem Kept.startLines (h : Kept {} s) : Kept {} s.startLines :=
  List.foldlRecOn (motive := Kept {}) _ _ h fun _ hu l _ => hu.startTest l

theorem Kept.walks (h : Kept {} s) (n : Nat) : Kept {} (State.walks n s) := by
  induction n generalizing s with
  | zero => exact h
  | succ n ih =>
    have walked : Kept {} ({ s with told := false }.walk).startLines :=
      (h.frame (t := { s with told := false })).walk.startLines
    unfold State.walks
    dsimp only
    split
    · exact ih walked
    · exact walked

theorem Kept.settle (h : Kept {} s) : Kept {} s.settle := by
  unfold State.settle
  split
  · exact h.walks 5
  · exact h

theorem Kept.finish (h : Kept {} s) : Kept {} s.finish := h.settle.endHanding.transmit

end

end Sys2Proof.Machine
end

section
/-! SUPPORT. Version coherence through the events of the exposure unit, the punch-bender and the sorter, up to the waking of
Band Intake. -/

namespace Sys2Proof.Machine

set_option Elab.async false

section
variable {x : Slack} {s : State} {p : Slot} {l : LineId} {ks : List PageIx} {c : Exposure}

/-! ### An exposure in flight and its record -/

theorem Line.begun_of_some {ln : Line} (hc : ln.exposure = some c) : ln.begun = some (c.slot, c.answered) :=
  congrArg (Option.map fun c : Exposure => (c.slot, c.answered)) hc

/-- The record of an exposure in flight is EXPOSING on its line, and not in hand. -/
theorem Kept.of_exposure (h : Kept x s) (hc : (s.line l).exposure = some c) :
    x.hand c.slot = none ∧ (s.plate c.slot).state = .exposing ∧ (s.plate c.slot).line = some l :=
  h.of_begun (Line.begun_of_some hc)

/-- A record is the exposure in flight of one line at most. -/
theorem Kept.begun_unique (h : Kept x s) {m : LineId} {a b : Bool} (hl : (s.line l).begun = some (p, a))
    (hm : (s.line m).begun = some (p, b)) : b = a := by
  obtain ⟨-, -, line⟩ := h.of_begun hl
  obtain ⟨-, -, line'⟩ := h.of_begun hm
  rw [line] at line'
  cases line'
  rw [hl] at hm
  cases hm
  rfl

/-- More may be owed. -/
theorem Kept.loosen (h : Kept x s) {stale : Slot → Prop} {loose : PageIx → Prop} (hs : ∀ q, x.stale q → stale q)
    (hl : ∀ k, x.loose k → loose k) : Kept { x with stale := stale, loose := loose } s :=
  h.entries ⟨rfl, rfl, fun _ _ => rfl, fun _ => rfl, rfl, rfl⟩ (fun _ => Iff.rfl) hs h.demand h.versions
    (fun k hk => ⟨fun hx => hk (hl k hx), id⟩) (fun _ _ _ _ => id) fun _ _ _ _ => id

/-- A record changed in its marks, and not relieved of a withdraw mark or a doom, owes no more than before. -/
theorem State.Fresh.setPlate (h : s.Fresh p) {r : PlateRecord} (state : r.state = (s.plate p).state)
    (load : r.load = (s.plate p).load) (bound : r.bound = (s.plate p).bound)
    (doom : r.doom = none → (s.plate p).doom = none) (withdraw : r.withdraw = false → (s.plate p).withdraw = false) : (s.setPlate p r).Fresh p := by
  obtain ⟨hcomplete, hexposing, hexposed, hdelivered⟩ := h
  have plate := State.plate_setPlate_self s p r
  have current : s.Current p → (s.setPlate p r).Current p :=
    State.Current.mono (by rw [plate, load]) (by rw [plate, bound]) fun _ _ => rfl
  constructor <;> rw [plate, state]
  · exact fun hstate => State.pagesComplete_mono (s := s) (by rw [plate, load]) (fun _ _ => id) (hcomplete hstate)
  · exact fun hstate hw hd => current (hexposing hstate (withdraw hw) (doom hd))
  · exact fun hstate hd => current (hexposed hstate (doom hd))
  · exact fun hstate => current (hdelivered hstate)

/-- A doomed record owes no version. It must not be one whose begin is unanswered and that lags behind. -/
theorem Kept.doom (h : Kept x s) (hand : x.hand p = none)
    (state : (s.plate p).state = .exposing ∨ (s.plate p).state = .exposed) (d : Doom)
    (pending : x.stale p → ∀ m, (s.line m).begun ≠ some (p, false)) :
    Kept { x with stale := fun q => x.stale q ∧ q ≠ p } (s.setPlate p ((s.plate p).withDoom d)) := by
  refine h.mark hand rfl rfl rfl (fun q hne hs => ⟨hs, hne⟩) (fun _ => ?_) (fun m hm => h.answered m p hm)
    fun m hm _ hw => h.unanswered m p hm (fun hs => pending hs m hm) hw
  have plate := State.plate_setPlate_self s p ((s.plate p).withDoom d)
  constructor <;> rw [plate]
  · intro hstate
    rcases state with e | e <;> simp [PlateRecord.withDoom, e] at hstate
  · exact fun _ _ hd => nomatch hd
  · exact fun _ hd => nomatch hd
  · intro hstate
    rcases state with e | e <;> simp [PlateRecord.withDoom, e] at hstate

theorem Kept.applyAction (h : Kept x s) (hand : x.hand p = none) (state : (s.plate p).state = .exposing)
    (pending : x.stale p → ∀ m, (s.line m).begun ≠ some (p, false)) :
    Kept { x with stale := fun q => x.stale q ∧ q ≠ p } (s.applyAction p l) := by
  have doomed := h.doom hand (.inl state) .obsolete pending
  unfold State.applyAction
  dsimp only
  split
  · exact doomed.abortExposure l
  · exact doomed

/-! ### BEGIN_ACCEPT (R133) -/

/-- The begin of an exposure in flight is answered, when its record bears no withdraw mark. -/
theorem Kept.answer (h : Kept x s) (hc : (s.line l).exposure = some c) (withdraw : (s.plate c.slot).withdraw = false)
    {d : Exposure} (slot : d.slot = c.slot) (answered : d.answered = true) :
    Kept x (s.setLine l { s.line l with exposure := some d }) := by
  have line : ∀ m b, ((s.setLine l { s.line l with exposure := some d }).line m).listed b = (s.line m).listed b := by
    intro m b
    rw [State.line_setLine]
    split
    · subst m
      cases b
      case unit => simp [Line.listed, Line.begun, hc, slot]
      all_goals rfl
    · rfl
  have listed : ∀ y, (s.setLine l { s.line l with exposure := some d }).listed y = s.listed y := fun y => by
    rcases y with - | ⟨m, b⟩
    · rfl
    · exact line m b
  have begun : ∀ m q a, ((s.setLine l { s.line l with exposure := some d }).line m).begun = some (q, a) →
      (s.line m).begun = some (q, a) ∨ q = c.slot ∧ a = true := by
    intro m q a hm
    rw [State.line_setLine] at hm
    split at hm
    · obtain ⟨e, he, rfl, rfl⟩ := Line.begun_eq_some.mp hm
      cases he
      exact .inr ⟨slot, answered⟩
    · exact .inl hm
  exact
    { spots := fun q y => by rw [listed]; exact h.spots q y
      once := fun y => by rw [listed]; exact h.once y
      classes := h.classes
      onLine := h.onLine
      demand := h.demand
      head := h.head
      writing := h.writing
      versions := h.versions
      fresh := fun q hq hs => (h.fresh q hq hs).frame
      answered := fun m q hm => by
        rcases begun m q true hm with hm | ⟨rfl, -⟩
        · exact h.answered m q hm
        · exact withdraw
      unanswered := fun m q hm => by
        rcases begun m q false hm with hm | ⟨-, ha⟩
        · exact h.unanswered m q hm
        · cases ha }

theorem Kept.acceptBegin (h : Kept {} s) (hc : (s.line l).exposure = some c) : Kept {} (s.acceptBegin l c) := by
  obtain ⟨hand, state, -⟩ := h.of_exposure hc
  have plate := State.plate_setPlate_self s c.slot { s.plate c.slot with pass := c.pass, withdraw := false }
  have marked : Kept { ({} : Slack) with stale := fun q => q = c.slot ∧ (s.plate c.slot).withdraw = true }
      (s.setPlate c.slot { s.plate c.slot with pass := c.pass, withdraw := false }) := by
    refine h.mark hand rfl rfl rfl (fun _ _ hs => hs.elim) (fun hs => ?_) (fun _ _ => rfl) fun m hm hs _ => ?_
    all_goals have bare : (s.plate c.slot).withdraw = false := Bool.eq_false_iff.mpr fun hw => hs ⟨rfl, hw⟩
    · exact (h.fresh c.slot hand not_false).setPlate rfl rfl rfl id fun _ => bare
    · exact h.unanswered m c.slot hm not_false bare
  have answered := (marked.answer (l := l) hc (congrArg PlateRecord.withdraw plate) (d := c.accepted) rfl rfl).report
    { kind := .exposureStarted, slot := some c.slot, line := some l, pass := some c.pass }
  unfold State.acceptBegin
  refine Kept.goTest ?_ l
  dsimp only
  split
  · have exposing : ((s.setPlate c.slot { s.plate c.slot with pass := c.pass, withdraw := false }).plate
        c.slot).state = .exposing := by rw [plate]; exact state
    have acted := answered.applyAction (l := l) hand exposing fun _ m hm => by
      have own : (((s.setLine l { s.line l with exposure := some c.accepted }).line l)).begun = some (c.slot, true) := by
        rw [State.line_setLine_self]
        rfl
      have := answered.begun_unique (l := l) own hm
      cases this
    exact acted.loosen (fun q hq => hq.2 hq.1.1) fun _ => id
  · rename_i bare
    exact answered.loosen (fun q hq => bare hq.2) fun _ => id

theorem Kept.takeAccept (h : Kept {} s) (l : LineId) : Kept {} (s.takeAccept l) := by
  unfold State.takeAccept
  split
  · exact h
  · rename_i hc
    split
    · exact h
    · exact h.acceptBegin hc

/-! ### A begin undone (R134, R135) -/

/-- What a refusal asks of a record that bears no withdraw mark. -/
theorem Kept.complete_of_unanswered (h : Kept {} s) (hc : (s.line l).exposure = some c) (ha : c.answered = false)
    (withdraw : (s.plate c.slot).withdraw = false) : s.pagesComplete c.slot = true := by
  refine h.unanswered l c.slot ?_ not_false withdraw
  rw [Line.begun_of_some hc, ha]

theorem State.undoBegin_plate (s : State) (l : LineId) (c : Exposure) :
    (s.undoBegin l c).plate c.slot = { s.plate c.slot with bound := none } := State.plate_setPlate_self _ _ _

theorem Kept.undoBegin (h : Kept {} s) (hc : (s.line l).exposure = some c) :
    Kept (({} : Slack).take c.slot (s.plate c.slot).load.keys) (s.undoBegin l c) :=
  (h.closeExposure hc).setPlate_hand (({} : Slack).take_hand_self _ _) _

theorem Kept.withdrawRecord (h : Kept (x.take p ks) s) (hand : x.hand p = none)
    (claims : ∀ k, ks.count k = (s.plate p).load.keys.count k) : Kept x (s.withdrawRecord l p) := by
  refine ((h.rest hand (fun k => ?_) rfl rfl).report _).evaluate hand
  exact claims k

/-- A record in hand re-enters the queue of its line. -/
theorem Kept.requeue (h : Kept (x.take p ks) s) (hand : x.hand p = none)
    (claims : ∀ k, ks.count k = (s.plate p).load.keys.count k) (line : (s.plate p).line = some l)
    (complete : ¬ x.stale p → s.pagesComplete p = true) : Kept x (s.requeue l p) := by
  have plate := State.plate_setPlate_self s p { s.plate p with state := .queued }
  have entered : Kept x ((s.setLine l { s.line l with queue := p :: (s.line l).queue }).setPlate p
      { s.plate p with state := .queued }) := by
    refine (h.setPlate_hand (x.take_hand_self p ks) _).enqueue hand ?_ ?_ ?_ (fun hs => ?_) (List.Perm.refl _)
    · rw [plate]; exact claims
    · rw [plate]
    · rw [plate]; exact line
    · exact State.pagesComplete_mono (s := s) (by rw [plate]) (fun _ _ => id) (complete hs)
  unfold State.requeue
  dsimp only
  split
  · refine entered.returnEntries ?_ fun q hq => ?_
    · cases (Line.queue _).getLast? <;> simp
    · exact List.mem_of_getLast? (by simpa using hq)
  · exact entered

/-- The record that re-enters a queue at its front is not the one that gives way at its back. -/
theorem State.mem_requeue_queue (s : State) (l : LineId) (p : Slot) (absent : p ∉ (s.line l).queue) :
    p ∈ ((s.requeue l p).line l).queue := by
  have queue : (((s.setLine l { s.line l with queue := p :: (s.line l).queue }).setPlate p
      { s.plate p with state := .queued }).line l).queue = p :: (s.line l).queue := by
    rw [State.setPlate_line, State.line_setLine_self]
  unfold State.requeue
  dsimp only
  split
  · rename_i full
    rw [queue] at full
    rw [State.returnEntries_queue, queue]
    refine List.mem_filter.mpr ⟨List.mem_cons_self, decide_eq_true fun last => ?_⟩
    rw [Option.mem_toList] at last
    cases hq : (s.line l).queue with
    | nil => simp [hq, Config.queueSlots] at full
    | cons q qs =>
      rw [hq, List.getLast?_cons_cons] at last
      exact absent (hq ▸ List.mem_of_getLast? last)
  · rw [queue]
    exact List.mem_cons_self

theorem Kept.returnMismatch (h : Kept x s) (mem : p ∈ (s.line l).queue) : Kept x (s.returnMismatch l p) := by
  unfold State.returnMismatch
  split
  · exact h
  · exact h.returnEntries (List.nodup_singleton p) fun q hq => List.mem_singleton.mp hq ▸ mem

theorem Kept.refusedRecord (h : Kept (x.take p ks) s) (hand : x.hand p = none)
    (claims : ∀ k, ks.count k = (s.plate p).load.keys.count k) (line : (s.plate p).line = some l)
    (complete : (s.plate p).withdraw = false → s.pagesComplete p = true) : Kept x (s.refusedRecord l p) := by
  have absent : p ∉ (s.line l).queue := h.absent (.on l .queue)
  unfold State.refusedRecord
  split
  · exact h.withdrawRecord hand claims
  · rename_i bare
    have still := complete (Bool.eq_false_iff.mpr bare)
    split
    · exact (h.returnToReady hand claims fun _ => still).tell
    · exact (h.requeue hand claims line fun _ => still).returnMismatch (s.mem_requeue_queue l p absent)

/-! ### What a fault leaves -/

/-- A fault returns the queue: it leaves the entries and the records that are not in the queue. -/
theorem State.faultLine_only (s : State) (l : LineId) (cause : Cause) (o : Option Slot) :
    (s.faultLine l cause o).pages = s.pages
    ∧ ∀ q ∉ (s.line l).queue, (s.faultLine l cause o).plate q = s.plate q := by
  unfold State.faultLine
  split
  · exact ⟨rfl, fun _ _ => rfl⟩
  · dsimp only
    rw [State.report_line, State.report_line, State.line_setLine_self]
    exact State.returnEntries_only _ l (s.line l).queue

end

end Sys2Proof.Machine
end

section
/-! SUPPORT. Version coherence through a supersession: the records on the key lag behind its new version until the Plate Plan
reaches them, one after another (R77 to R89). -/

namespace Sys2Proof.Machine

set_option Elab.async false

section
variable {x : Slack} {s : State} {p : Slot} {l : LineId} {ks : List PageIx}

/-- The slack without the debt of one record. -/
def Slack.clear (x : Slack) (p : Slot) : Slack := { x with stale := fun q => x.stale q ∧ q ≠ p }

/-- While a record is in hand it owes nothing. -/
theorem Kept.clearHand (h : Kept (x.take p ks) s) : Kept ((x.clear p).take p ks) s := by
  have owes : ∀ q, (x.take p ks).hand q = none → ¬ (x.clear p).stale q → ¬ (x.take p ks).stale q := fun q hq hs hx =>
    hs ⟨hx, by
      rintro rfl
      rw [Slack.take_hand_self] at hq
      cases hq⟩
  exact { h with
    fresh := fun q hq hs => h.fresh q hq (owes q hq hs)
    unanswered := fun m q hm hs => h.unanswered m q hm (owes q (h.of_begun hm).1 hs) }

/-- A record that stands in no list, DELIVERED excepted, owes nothing. -/
theorem Kept.clearIdle (h : Kept x s) (hand : x.hand p = none) (idle : (s.plate p).state.idle = true) :
    Kept (x.clear p) s :=
  (h.lift_idle hand (PlateRecord.spot_of_idle idle)).clearHand.stay hand (fun _ => rfl) idle
    (h.line_eq_none hand (PlateState.inFlight_of_idle idle))

theorem State.offerDemand_plate (s : State) (removed added : List PageIx) (p : Slot) :
    (s.offerDemand removed added).plate p = s.plate p := by
  obtain ⟨_, _, _, e, -⟩ := s.offerDemand_only removed added
  rw [e]
  rfl

/-! ### One record, by its state -/

theorem Kept.supersedeReady (h : Kept x s) (hand : x.hand p = none) (state : (s.plate p).state = .ready) :
    Kept (x.clear p) (((s.leaveReady p).setPlate p { s.plate p with state := .planned }).tell) := by
  have lifted := h.leaveReady hand (by rw [state]; rfl)
  refine (lifted.clearHand.rest hand (fun k => ?_) rfl ?_).tell
  · rw [PlateRecord.demandKeys_of_demands (by rw [state]; rfl)]
    rfl
  · exact h.line_eq_none hand (by rw [state]; rfl)

theorem Kept.supersedeQueued (h : Kept x s) (mem : p ∈ (s.line l).queue) : Kept (x.clear p) (s.supersedeQueued p l) := by
  have hand := ((h.spots p (.on l .queue)).mp mem).1
  refine (((h.leaveQueue mem).clearHand.rest hand (fun k => ?_) rfl rfl).report _).drainTest l
  rfl

theorem Kept.supersedeExposing (h : Kept x s) (mem : p ∈ (s.line l).listed .unit) :
    Kept (x.clear p) (s.supersedeExposing p l) := by
  unfold State.supersedeExposing
  split
  · rename_i hc
    rw [Line.mem_listed_unit, hc] at mem
    cases mem
  · rename_i c hc
    rw [Line.mem_listed_unit, hc] at mem
    cases mem
    obtain ⟨hand, state, -⟩ := h.of_exposure hc
    have own := Line.begun_of_some hc
    split
    · rename_i answered
      rw [answered] at own
      exact h.applyAction hand state fun _ m hm => nomatch h.begun_unique own hm
    · rename_i unanswered
      rw [Bool.eq_false_iff.mpr unanswered] at own
      have plate := State.plate_setPlate_self s c.slot { s.plate c.slot with withdraw := true }
      refine h.mark hand rfl rfl rfl (fun q hne hs => ⟨hs, hne⟩) (fun _ => ?_)
        (fun m hm => nomatch h.begun_unique own hm) fun m _ _ hw => nomatch hw
      constructor <;> rw [plate] <;> intro hstate
      · rcases hstate with e | e <;> exact nomatch state.symm.trans e
      · exact fun hw => nomatch hw
      · exact nomatch state.symm.trans hstate
      · exact nomatch state.symm.trans hstate

theorem Kept.supersedeExposed (h : Kept x s) (mem : p ∈ (s.line l).transit.map TransitEntry.slot) :
    Kept (x.clear p) (s.supersedeExposed p l) := by
  obtain ⟨hand, spot⟩ := (h.spots p (.on l .transit)).mp mem
  obtain ⟨state, -⟩ := PlateRecord.spot_eq_some.mp spot
  have doomed := h.doom hand (.inr state) .obsolete fun _ m hm => by
    have := (h.of_begun hm).2.1
    rw [state] at this
    cases this
  unfold State.supersedeExposed
  split
  · rename_i missing
    obtain ⟨e, he, rfl⟩ := List.mem_map.mp mem
    have := List.find?_eq_none.mp missing e he
    simp at this
  · dsimp only
    split
    · exact doomed
    · exact doomed.alikeLine l (Line.alike_mapEntry _ _ fun _ => rfl)

theorem Kept.supersedeDelivered (h : Kept x s) (hand : x.hand p = none) (state : (s.plate p).state = .delivered)
    (k : PageIx) (w : Nat) : Kept (x.clear p) (s.supersedeDelivered k w p) := by
  have lifted := h.lift_idle hand (by rw [PlateRecord.spot, state])
  rw [show (s.plate p).demandKeys = [] by rw [PlateRecord.demandKeys, state]; rfl] at lifted
  have obsolete := ((lifted.setPlate_hand (x.take_hand_self p _)
    { s.plate p with state := .obsolete, lastCause := some .obsolete }).report
      { kind := .plateObsolete, slot := some p, key := some (keyBytes k), version := some w,
        line := (s.plate p).place.map Prod.fst, bin := (s.plate p).place.map Prod.snd }).offerDemand hand
          (s.plate p).load.keys
  have line := h.line_eq_none hand (by rw [state]; rfl)
  refine obsolete.clearHand.autoRemake hand ?_ (.inl ?_) ?_ <;>
    rw [State.offerDemand_plate, State.report_plate, State.plate_setPlate_self]
  · exact fun _ => rfl
  · exact line

/-- A supersession that has reached a record has cleared its debt, whatever its state. -/
theorem Kept.supersedeOne (h : Kept x s) (hand : x.hand p = none) (k : PageIx) (w : Nat) :
    Kept (x.clear p) (State.supersedeOne k w s p) := by
  have lineless : (s.plate p).line = none → (s.plate p).state.inFlight = true → False := fun hl hf => by
    rw [← h.onLine p hand, hl] at hf
    cases hf
  unfold State.supersedeOne
  split
  case h_1 state => exact h.supersedeReady hand state
  case h_2 state =>
    split
    case h_1 l line =>
      exact h.supersedeQueued ((h.spots p (.on l .queue)).mpr ⟨hand, PlateRecord.spot_eq_some.mpr ⟨state, line⟩⟩)
    case h_2 line => exact (lineless line (by rw [state]; rfl)).elim
  case h_3 state =>
    split
    case h_1 l line =>
      exact h.supersedeExposing ((h.spots p (.on l .unit)).mpr ⟨hand, PlateRecord.spot_eq_some.mpr ⟨state, line⟩⟩)
    case h_2 line => exact (lineless line (by rw [state]; rfl)).elim
  case h_4 state =>
    split
    case h_1 l line =>
      exact h.supersedeExposed ((h.spots p (.on l .transit)).mpr ⟨hand, PlateRecord.spot_eq_some.mpr ⟨state, line⟩⟩)
    case h_2 line => exact (lineless line (by rw [state]; rfl)).elim
  case h_5 state => exact h.supersedeDelivered hand state k w
  all_goals
    rename_i state
    exact h.clearIdle hand (by rw [state]; rfl)

/-! ### Receptions in progress -/

theorem State.setMode_pages (s : State) (l : LineId) (m : LineMode) : (s.setMode l m).pages = s.pages := by
  unfold State.setMode
  split <;> rfl

theorem State.drainTest_pages (s : State) (l : LineId) : (s.drainTest l).pages = s.pages := by
  unfold State.drainTest
  split
  · exact s.setMode_pages l _
  · rfl

theorem State.evaluate_pages (s : State) (p : Slot) : (s.evaluate p).pages = s.pages := by
  unfold State.evaluate State.joinBack
  split
  · split <;> rfl
  · rfl

theorem State.autoRemake_pages (s : State) (p : Slot) : (s.autoRemake p).pages = s.pages := by
  unfold State.autoRemake
  split
  · exact State.evaluate_pages _ p
  · rfl

theorem State.supersedeExposing_pages (s : State) (p : Slot) (l : LineId) : (s.supersedeExposing p l).pages = s.pages := by
  unfold State.supersedeExposing State.applyAction State.abortExposure
  split
  · rfl
  · split
    · dsimp only
      split
      · split
        · rfl
        · split <;> rfl
      · rfl
    · rfl

theorem State.supersedeExposed_pages (s : State) (p : Slot) (l : LineId) : (s.supersedeExposed p l).pages = s.pages := by
  unfold State.supersedeExposed
  split
  · rfl
  · dsimp only
    split <;> rfl

/-- Of the page entries a supersession changes the demand alone, which a RECEIVING entry outlasts. -/
theorem State.supersedeOne_receiving {j : PageIx} (h : (s.page j).state = .receiving) (k : PageIx) (w : Nat) (p : Slot) :
    ((State.supersedeOne k w s p).page j).state = .receiving := by
  have same : ∀ {t : State}, t.pages = s.pages → (t.page j).state = .receiving := fun e => by
    rw [State.page, e]
    exact h
  unfold State.supersedeOne
  split
  case h_2 =>
    split
    · exact same (State.drainTest_pages _ _)
    · exact h
  case h_3 =>
    split
    · exact same (s.supersedeExposing_pages p _)
    · exact h
  case h_4 =>
    split
    · exact same (s.supersedeExposed_pages p _)
    · exact h
  case h_5 =>
    unfold State.supersedeDelivered
    dsimp only
    rw [State.page, State.autoRemake_pages]
    refine Eq.trans (congrArg PageEntry.state (State.offerDemand_page _ _ _ j)) ?_
    rcases (PageEntry.netted_fades (s.page j) (([] : List PageIx).count j) ((s.plate p).load.keys.count j)).2 with e | e
    · exact e.trans h
    · exact nomatch e.1.symm.trans h
  all_goals exact h

theorem RoutesOnly.page {t : State} (h : RoutesOnly s t) (j : PageIx) : t.page j = s.page j := by
  obtain ⟨_, _, rfl⟩ := h
  rfl

theorem State.supersede_receiving {j : PageIx} (h : (s.page j).state = .receiving) (k : PageIx) (w : Nat) :
    ((s.supersede k w).page j).state = .receiving := by
  have folded : (((s.slotsOn k).foldl (State.supersedeOne k w) s).page j).state = .receiving :=
    List.foldlRecOn (motive := fun u : State => (u.page j).state = .receiving) _ _ h
      fun _ hu p _ => State.supersedeOne_receiving hu k w p
  rw [State.supersede, (State.routeTurned_only _ _).page]
  exact folded

/-! ### All records on the key -/

theorem Kept.foldl_supersedeOne {ps : List Slot} (h : Kept x s) (hand : ∀ q, x.hand q = none)
    (owing : ∀ q, x.stale q → q ∈ ps) (k : PageIx) (w : Nat) :
    Kept { x with stale := fun _ => False } (ps.foldl (State.supersedeOne k w) s) := by
  induction ps generalizing x s with
  | nil => exact h.loosen (fun q hq => absurd (owing q hq) List.not_mem_nil) fun _ => id
  | cons p ps ih =>
    exact ih (x := x.clear p) (h.supersedeOne (hand p) k w) hand fun q hq =>
      (List.mem_cons.mp (owing q hq.1)).resolve_left hq.2

/-- Only records on the key lag behind: after the supersession none does. -/
theorem Kept.supersede (h : Kept x s) (hand : ∀ q, x.hand q = none) (k : PageIx)
    (owing : ∀ q, x.stale q → k ∈ (s.plate q).load.keys) (w : Nat) :
    Kept { x with stale := fun _ => False } (s.supersede k w) := by
  refine (h.foldl_supersedeOne hand (fun q hq => ?_) k w).routeTurned _
  exact List.mem_filter.mpr ⟨List.mem_finRange q, decide_eq_true (owing q hq)⟩

end

end Sys2Proof.Machine
end

section
/-! SUPPORT. Version coherence through Band Intake: the judgement, the checks, the rows of the head band, what breaks and
completes a page, and the waking of a band that waits. -/

namespace Sys2Proof.Machine

set_option Elab.async false

section
variable {x : Slack} {s t : State} {b : Band} {k : PageIx}

/-! ### The state of Band Intake -/

/-- Band Intake has changed: what is asked of it is proved anew. -/
theorem Kept.intake (h : Kept x s) {loose : PageIx → Prop} (plates : t.plates = s.plates := by rfl)
    (ready : t.ready = s.ready := by rfl) (lines : t.lines = s.lines := by rfl) (pages : t.pages = s.pages := by rfl)
    (head : t.intake.phase ≠ none → t.intake.buffer ≠ [])
    (writing : ∀ (b : Band) (rest : List Band), t.intake.buffer = b :: rest →
      t.intake.phase = some .writing ∨ t.intake.phase = some .waitingStrip → ¬ loose b.key →
      (s.page b.key).state = .receiving) : Kept { x with loose := loose } t := by
  have keep : Kept x { t with intake := s.intake } := h.frame plates ready lines pages
  exact { keep with
    head := head
    writing := fun b rest hb hp hl => by
      rw [State.page, pages]
      exact writing b rest hb hp hl
    fresh := fun p hp hs => (keep.fresh p hp hs).frame }

/-- The head band leaves: no entry need be RECEIVING. -/
theorem Kept.popHead (h : Kept x s) {loose : PageIx → Prop} : Kept { x with loose := loose } s.popHead :=
  h.intake (head := fun hp => absurd rfl hp) (writing := fun _ _ _ hp => by rcases hp with hp | hp <;> cases hp)

/-- A head band of a key is abandoned: its entry need not be RECEIVING. -/
theorem Kept.abandonHead (h : Kept x s) (k : PageIx) {loose : PageIx → Prop}
    (hl : ∀ j, x.loose j → j = k ∨ loose j) : Kept { x with loose := loose } (s.abandonHead k) := by
  have other : ∀ b rest, s.intake.buffer = b :: rest → b.key ≠ k → s.intake.phase = some .writing
      ∨ s.intake.phase = some .waitingStrip → ¬ loose b.key → (s.page b.key).state = .receiving :=
    fun b rest hb hk hp hj => h.writing b rest hb hp fun hx => (hl _ hx).elim hk hj
  have keep : ∀ b rest, s.intake.buffer = b :: rest → b.key ≠ k → Kept { x with loose := loose } s :=
    fun b rest hb hk => h.intake (head := h.head) (writing := fun c rest' hc hp => by
      cases hb.symm.trans hc
      exact other b rest hb hk hp)
  unfold State.abandonHead
  split
  · rename_i b rest hp hb
    split
    · exact h.intake (head := fun _ => hb ▸ List.cons_ne_nil _ _)
        (writing := fun _ _ _ hp => by rcases hp with hp | hp <;> cases hp)
    · exact keep b rest hb ‹_›
  · rename_i b rest hp hb
    split
    · exact h.intake (head := fun _ => hb ▸ List.cons_ne_nil _ _)
        (writing := fun _ _ _ hp => by rcases hp with hp | hp <;> cases hp)
    · exact keep b rest hb ‹_›
  · rename_i hwriting hwaiting
    refine h.intake (head := h.head) (writing := fun b rest hb hp => ?_)
    rcases hp with hp | hp
    · exact (hwriting b rest hp hb).elim
    · exact (hwaiting b rest hp hb).elim

/-! ### Page entries -/

theorem DirectoryOnly.alike (h : DirectoryOnly s t) : Alike s t := by
  obtain ⟨_, _, _, rfl, -⟩ := h
  exact ⟨rfl, rfl, fun _ _ => rfl, fun _ => rfl, rfl, rfl⟩

/-- One entry has changed, its demand kept. A record with a tile on it owes nothing that the change could break. -/
theorem Kept.entry (h : Kept x s) (only : DirectoryOnly s t) {e : PageEntry}
    (page : ∀ j, t.page j = if j = k then e else s.page j) {stale : Slot → Prop} {loose : PageIx → Prop}
    (hs : ∀ p, x.stale p → stale p) (hl : ∀ j, x.loose j → loose j) (demand : e.demand = (s.page k).demand)
    (versions : e.version = 0 ↔ e.state = .empty)
    (receiving : ¬ loose k → (s.page k).state = .receiving → e.state = .receiving)
    (complete : ∀ p, x.hand p = none → ¬ stale p → k ∈ (s.plate p).load.keys → (s.plate p).state ≠ .free →
      (s.page k).state = .complete → e.state = .complete)
    (current : ∀ p, x.hand p = none → ¬ stale p → k ∈ (s.plate p).load.keys → (s.plate p).state ≠ .free →
      (s.page k).version ≠ 0 → e.version = (s.page k).version) :
    Kept { x with stale := stale, loose := loose } t := by
  have same := only.alike
  have load : ∀ p, (t.plate p).load = (s.plate p).load := fun p => congrArg PlateRecord.load (same.plate p)
  refine h.entries same (fun _ => Iff.rfl) hs (fun j => ?_) (fun j => ?_) (fun j hj => ⟨fun hx => hj (hl j hx), ?_⟩)
    (fun p hp hst hdemands => State.pagesComplete_mono (load p) fun j hj hc => ?_)
    (fun p hp hst hfree hcur => State.Current.mono (load p) (congrArg PlateRecord.bound (same.plate p))
      (fun j hj => ?_) hcur)
  · have claims : ∀ p, t.claims { x with stale := stale, loose := loose } p = s.claims x p := fun p => by
      rw [State.claims, State.claims, same.plate]
    simp only [claims]
    rw [page, ← h.demand j]
    split
    · rename_i hj
      rw [demand, hj]
    · rfl
  · rw [page]
    split
    · exact versions
    · exact h.versions j
  · rw [page]
    split
    · rename_i e
      subst e
      exact receiving hj
    · exact id
  · rw [page]
    split
    · rename_i e
      subst e
      refine complete p hp hst hj (fun hfree => ?_) hc
      rw [hfree] at hdemands
      cases hdemands
    · exact hc
  · rw [page]
    split
    · rename_i e
      subst e
      exact current p hp hst hj hfree (hcur.2 j hj)
    · rfl

theorem Kept.receiving_version (h : Kept x s) (receiving : (s.page k).state = .receiving) : (s.page k).version ≠ 0 :=
  fun hv => by
    rw [(h.versions k).mp hv] at receiving
    cases receiving

theorem Kept.breakPage (h : Kept x s) (receiving : (s.page k).state = .receiving) (c : Cause) :
    Kept { x with loose := fun j => x.loose j ∨ j = k } (s.breakPage k c) := by
  refine h.entry (s.breakPage_only k c) (fun j => State.breakPage_page s k j c) (fun _ => id) (fun _ => .inl) rfl ?_
    (fun hl => absurd (.inr rfl) hl) (fun _ _ _ _ _ hc => ?_) fun _ _ _ _ _ _ => rfl
  · exact iff_of_false (h.receiving_version receiving) (fun e => by cases e)
  · rw [receiving] at hc
    cases hc

theorem Kept.completePage (h : Kept x s) (hand : ∀ p, x.hand p = none) (receiving : (s.page k).state = .receiving) :
    Kept { x with loose := fun j => x.loose j ∨ j = k } (s.completePage k) := by
  have completed : Kept { x with loose := fun j => x.loose j ∨ j = k }
      (s.setPage k { s.page k with state := .complete }) := by
    refine h.entry ⟨_, _, _, rfl, rfl⟩ (s.page_setPage k · _) (fun _ => id) (fun _ => .inl) rfl ?_
      (fun hl => absurd (.inr rfl) hl) (fun _ _ _ _ _ _ => rfl) fun _ _ _ _ _ _ => rfl
    exact iff_of_false (h.receiving_version receiving) (fun e => by cases e)
  unfold State.completePage
  dsimp only
  split
  · exact ((completed.onStore _).report _).evaluateOn hand k
  · exact (completed.report _).evaluateOn hand k

/-- An entry changed in none of its state, version and demand. -/
theorem Kept.recount (h : Kept x s) (k : PageIx) {e : PageEntry} (state : e.state = (s.page k).state := by rfl)
    (version : e.version = (s.page k).version := by rfl) (demand : e.demand = (s.page k).demand := by rfl) :
    Kept x (s.setPage k e) :=
  h.entry ⟨_, _, _, rfl, rfl⟩ (s.page_setPage k · e) (fun _ => id) (fun _ => id) demand
    (by rw [state, version]; exact h.versions k) (fun _ => state.trans) (fun _ _ _ _ _ => state.trans)
    fun _ _ _ _ _ _ => version

/-! ### The judgement -/

theorem Kept.restartReception (h : Kept x s) (b : Band) : Kept x (s.restartReception b) := by
  unfold State.restartReception
  dsimp only
  split
  · exact h
  · exact (h.onStore _).recount b.key

/-- A reception that takes up the entry's version again. -/
theorem Kept.receivedAgain (h : Kept x s) (d : DescId) (positive : 0 < b.version)
    (same : b.version = (s.page b.key).version)
    (ended : (s.page b.key).state = .broken ∨ (s.page b.key).state = .released) :
    Kept x ((s.onStore fun st => st.takeDesc d b.key b.version b.width b.height).setPage b.key
      ((s.page b.key).receive b d)) := by
  refine (h.onStore _).entry ⟨_, _, _, rfl, rfl⟩ (State.page_setPage _ b.key · _) (fun _ => id) (fun _ => id) rfl
    (iff_of_false (Nat.pos_iff_ne_zero.mp positive) (fun e => by cases e)) (fun _ _ => rfl) (fun _ _ _ _ _ hc => ?_)
    fun _ _ _ _ _ _ => same
  rcases ended with e | e <;> exact nomatch e.symm.trans hc

/-- A reception of a new version: the records on the key lag behind, unless the entry had no version. -/
theorem Kept.received (h : Kept x s) (d : DescId) (positive : 0 < b.version)
    (stale : ∀ p, x.stale p → False) :
    Kept { x with stale := fun p => (s.page b.key).version ≠ 0 ∧ b.key ∈ (s.plate p).load.keys } (s.received b d) := by
  refine h.entry (State.received_only s b d) (State.received_page s b d) (fun p hp => (stale p hp).elim) (fun _ => id) rfl
    (iff_of_false (Nat.pos_iff_ne_zero.mp positive) (fun e => by cases e)) (fun _ _ => rfl) (fun p _ hs hk _ hc => ?_)
    fun p _ hs hk _ hv => absurd ⟨hv, hk⟩ hs
  refine absurd ⟨fun hv => ?_, hk⟩ hs
  exact nomatch ((h.versions b.key).mp hv).symm.trans hc

theorem Kept.newReception (h : Kept {} s) {d : DescId} (free : s.store.firstFree = some d) (positive : 0 < b.version) :
    Kept {} (s.newReception b).1 ∧ ((s.newReception b).1.page b.key).state = .receiving := by
  have begun := h.received d positive fun _ => False.elim
  have page : ((s.received b d).page b.key).state = .receiving := by
    rw [State.received_page, if_pos rfl]
    rfl
  rw [State.newReception_takes free]
  split
  · rename_i none_before
    exact ⟨begun.loosen (fun p hp => hp.1 none_before) fun _ => id, page⟩
  · have plates := (s.received_only b d).alike.plate
    have superseding := begun.report (supersededReport b (s.page b.key).version)
    refine ⟨superseding.supersede (fun _ => rfl) b.key (fun p hp => ?_) b.version,
      State.supersede_receiving (s := (s.received b d).report (supersededReport b (s.page b.key).version)) page _ _⟩
    rw [State.report_plate, plates]
    exact hp.2

/-- What the judgement of a band makes of the state, by its verdict. -/
theorem Kept.judge (h : Kept {} s) (b : Band) :
    match (s.judge b).2 with
    | .waits => (s.judge b).1 = s
    | .disposed => ∃ loose, Kept { loose := loose } (s.judge b).1
    | .accepted => Kept {} (s.judge b).1 ∧ ((s.judge b).1.page b.key).state = .receiving := by
  rcases s.judge_cases b with ⟨c, e⟩ | ⟨receiving, e⟩ | ⟨receiving, e | e⟩ | ⟨positive, same, ended, e⟩
    | ⟨positive, -, e⟩ <;> rw [e]
  · exact ⟨_, h.report _⟩
  · exact ⟨_, h.breakPage receiving _⟩
  · exact ⟨h, receiving⟩
  · refine ⟨h.restartReception b, ?_⟩
    rcases State.restartReception_page (s := s) b b.key with e | ⟨-, e⟩ <;> rw [e] <;> exact receiving
  · cases free : s.store.firstFree with
    | none =>
      rw [State.receiveAgain_waits free]
    | some d =>
      rw [State.receiveAgain_takes free]
      refine ⟨h.receivedAgain d positive same ended, ?_⟩
      dsimp only
      rw [State.page_setPage_self]
      rfl
  · cases free : s.store.firstFree with
    | none =>
      rw [State.newReception_waits free]
    | some d =>
      have taken : (s.newReception b).2 = .accepted := by
        rw [State.newReception_takes free]
        split <;> rfl
      rw [taken]
      exact h.newReception free positive

/-! ### Rows and checks -/

/-- The next row of a head band whose entry is RECEIVING. -/
theorem Kept.startRow (h : Kept x s) {rest : List Band} (buffer : s.intake.buffer = b :: rest)
    (receiving : (s.page b.key).state = .receiving) : Kept x (s.startRow b) := by
  obtain ⟨_, _, _, _, e, -, -⟩ := s.startRow_only b
  rw [e]
  refine h.intake (head := fun _ => buffer ▸ List.cons_ne_nil _ _) (writing := fun c _ hc _ _ => ?_)
  cases buffer.symm.trans hc
  exact receiving

theorem Kept.lastBandDecision (h : Kept x s) (hand : ∀ p, x.hand p = none)
    (receiving : (s.page b.key).state = .receiving) :
    Kept { x with loose := fun j => x.loose j ∨ j = b.key } (s.lastBandDecision b) := by
  unfold State.lastBandDecision
  dsimp only
  split
  · split
    · exact h.completePage hand receiving
    · exact h.breakPage receiving _
  · exact h.breakPage receiving _

/-- An accepted band is written, its entry RECEIVING, or is to leave its slot. -/
theorem Kept.acceptBand (h : Kept {} s) {rest : List Band} (buffer : s.intake.buffer = b :: rest)
    (receiving : (s.page b.key).state = .receiving) :
    if (s.acceptBand b).2 then ∃ loose, Kept { loose := loose } (s.acceptBand b).1 else Kept {} (s.acceptBand b).1 := by
  cases failure : s.acceptanceFailure b with
  | some c =>
    rw [State.acceptBand_of_failure failure]
    exact ⟨_, h.breakPage receiving c⟩
  | none =>
    have accepted : Kept {} (s.acceptInto b) := h.recount b.key
    have still : ((s.acceptInto b).page b.key).state = .receiving := by
      rw [State.acceptInto, State.page_setPage_self]
      exact receiving
    rw [State.acceptBand_of_pass failure]
    split
    · exact ⟨_, accepted.lastBandDecision (fun _ => rfl) still⟩
    · refine Kept.startRow (rest := rest) ?_ buffer still
      refine accepted.intake (head := fun _ => buffer ▸ List.cons_ne_nil _ _) (writing := fun c _ hc _ _ => ?_)
      cases buffer.symm.trans hc
      exact still

/-! ### The head of the buffer -/

theorem Kept.takeHeads (h : Kept {} s) (n : Nat) : Kept {} (s.takeHeads n) := by
  induction n generalizing s with
  | zero => exact h
  | succ n ih =>
    by_cases phase : s.intake.phase = none
    · cases buffer : s.intake.buffer with
      | nil =>
        rw [State.takeHeads_idle (.inr buffer)]
        exact h
      | cons b rest =>
        rw [State.takeHeads_head phase buffer]
        have judged := h.judge b
        have judgedBuffer := (s.judge_endStall_buffer b).trans buffer
        split
        · refine Kept.stallReport ?_ b
          exact h.intake (head := fun _ => buffer ▸ List.cons_ne_nil _ _)
            (writing := fun _ _ _ hp => by rcases hp with hp | hp <;> cases hp)
        · rename_i disposed
          rw [disposed] at judged
          obtain ⟨_, kept⟩ := judged
          exact ih kept.endStall.popHead
        · rename_i accepted
          rw [accepted] at judged
          obtain ⟨kept, receiving⟩ := judged
          have checked := kept.endStall.acceptBand judgedBuffer receiving
          split
          · rename_i leaves
            rw [if_pos leaves] at checked
            obtain ⟨_, kept⟩ := checked
            exact ih kept.popHead
          · rename_i stays
            rw [if_neg stays] at checked
            exact checked
    · rw [State.takeHeads_idle (.inl phase)]
      exact h

theorem Kept.runIntake (h : Kept {} s) : Kept {} s.runIntake := h.takeHeads _

theorem Kept.wakeIntake (h : Kept {} s) : Kept {} s.wakeIntake := by
  unfold State.wakeIntake
  split
  · rename_i b rest phase buffer
    split
    · exact h
    · have receiving := h.writing b rest buffer (.inr phase) not_false
      refine Kept.startRow (rest := rest) ?_ buffer receiving
      refine h.intake (head := fun _ => buffer ▸ List.cons_ne_nil _ _) (writing := fun c _ hc _ _ => ?_)
      cases buffer.symm.trans hc
      exact receiving
  · split
    · exact h
    · refine Kept.runIntake ?_
      exact h.intake (head := fun hp => absurd rfl hp)
        (writing := fun _ _ _ hp => by rcases hp with hp | hp <;> cases hp)
  · exact h

theorem Kept.disposeAbandoned (h : Kept {} s) : Kept {} s.disposeAbandoned := by
  unfold State.disposeAbandoned
  split
  · exact Kept.runIntake h.popHead
  · exact h

/-! ### Arrival, completions and the page commands -/

theorem Kept.overrunBand (h : Kept {} s) (b : Band) : Kept {} (s.overrunBand b) := by
  unfold State.overrunBand
  dsimp only
  split
  · rename_i broken
    have abandoned : Kept {} _ := ((h.report (droppedReport b .overrun)).breakPage broken.1 .overrun).abandonHead b.key
      (loose := fun _ => False) fun j hj => .inl (hj.resolve_left id)
    exact abandoned.wakeIntake.disposeAbandoned
  · exact h.report _

theorem Kept.offerBand (h : Kept {} s) (b : Band) : Kept {} (s.offerBand b) := by
  unfold State.offerBand
  split
  · refine Kept.runIntake ?_
    refine h.intake (head := fun _ => by simp) (writing := fun c rest hc hp _ => ?_)
    have taken : s.intake.phase ≠ none := fun e => by
      rcases hp with hp | hp <;> cases e.symm.trans hp
    cases buffer : s.intake.buffer with
    | nil => exact absurd buffer (h.head taken)
    | cons c' rest' =>
      simp only [buffer, List.cons_append, List.cons.injEq] at hc
      rw [← hc.1]
      exact h.writing c' rest' buffer hp not_false
  · exact h.overrunBand b

theorem Kept.bandArrives (h : Kept {} s) (body : List Byte) : Kept {} (s.bandArrives body) := by
  unfold State.bandArrives
  split
  · exact h.report _
  · exact h.offerBand _

theorem Kept.rowWritten (h : Kept {} s) {rest : List Band} (buffer : s.intake.buffer = b :: rest)
    (phase : s.intake.phase = some .writing) : Kept {} (s.rowWritten b) := by
  have receiving := h.writing b rest buffer (.inl phase) not_false
  have counted : Kept {} (s.setPage b.key { s.page b.key with rows := (s.page b.key).rows + 1 }) := h.recount b.key
  have still : ((s.setPage b.key { s.page b.key with rows := (s.page b.key).rows + 1 }).page b.key).state = .receiving := by
    rw [State.page_setPage_self]
    exact receiving
  have advanced : Kept {} { s.setPage b.key { s.page b.key with rows := (s.page b.key).rows + 1 } with
      intake := { s.intake with nextRow := s.intake.nextRow + 1 } } := counted.frame
  unfold State.rowWritten
  dsimp only
  split
  · exact advanced.startRow buffer still
  · split
    · exact Kept.runIntake (advanced.lastBandDecision (fun _ => rfl) still).popHead
    · exact Kept.runIntake advanced.popHead

theorem Kept.writeHanded (h : Kept {} s) : Kept {} s.writeHanded := by
  unfold State.writeHanded
  split
  · exact h.rowWritten ‹_› ‹_›
  · exact Kept.runIntake h.popHead
  · exact h

theorem State.abandonHead_setPage (s : State) (k : PageIx) (e : PageEntry) :
    (s.abandonHead k).setPage k e = (s.setPage k e).abandonHead k := by
  unfold State.abandonHead
  simp only [State.setPage_intake]
  split
  · split <;> rfl
  · split <;> rfl
  · rfl

/-- An entry that no loaded record has a tile on takes its reset values. -/
theorem Kept.discardPage (h : Kept {} s) (k : PageIx) (unreferenced : s.referenced k = false) :
    Kept {} (s.discardPage k) := by
  have free : ∀ p, k ∈ (s.plate p).load.keys → (s.plate p).state = .free := fun p hk => by
    by_contra hp
    have : s.referenced k = true := State.referenced_iff.mpr ⟨p, hp, hk⟩
    rw [unreferenced] at this
    cases this
  have erase : ∀ {u : State}, Kept {} u → u.plates = s.plates → u.pages = s.pages →
      Kept {} (((u.abandonHead k).setPage k { demand := (s.page k).demand }).disposeAbandoned) := by
    intro u hu plates pages
    have page : u.page k = s.page k := by rw [State.page, State.page, pages]
    have plate : ∀ p, u.plate p = s.plate p := fun p => by rw [State.plate, State.plate, plates]
    rw [State.abandonHead_setPage]
    refine Kept.disposeAbandoned ?_
    have erased : Kept { ({} : Slack) with loose := fun j => j = k } (u.setPage k { demand := (s.page k).demand }) := by
      refine hu.entry ⟨_, _, _, rfl, rfl⟩ (u.page_setPage k · _) (fun _ => id) (fun _ => False.elim) ?_ ?_
        (fun hl => absurd rfl hl) (fun p _ _ hk hp _ => ?_) fun p _ _ hk hp _ => ?_
      · rw [page]
      · exact iff_of_true rfl rfl
      all_goals
        rw [plate] at hk hp
        exact absurd (free p hk) hp
    exact erased.abandonHead k fun j hj => .inl hj
  unfold State.discardPage
  dsimp only
  split
  · exact erase (h.onStore _) rfl rfl
  · exact erase h rfl rfl

end

end Sys2Proof.Machine
end

section
/-! SUPPORT. Version coherence through the effect of every event and of every control command that is carried out. -/

namespace Sys2Proof.Machine

set_option Elab.async false

section
variable {s t : State} {p : Slot} {l : LineId} {c : Exposure}

/-! ### Events of the exposure unit -/

theorem Kept.clearAbort (h : Kept {} s) (l : LineId) : Kept {} (s.clearAbort l) := by
  unfold State.clearAbort
  split
  · exact (h.alikeLine l {}).startTest l
  · exact h

theorem Kept.refuseBegin (h : Kept {} s) (hc : (s.line l).exposure = some c) (unanswered : c.answered = false) :
    Kept {} (s.refuseBegin l c) := by
  have undone := (h.undoBegin hc).alikeLine l (ln := { (s.undoBegin l c).line l with unitReady := false }) {}
  refine Kept.tell (Kept.wakeIntake (Kept.drainTest (Kept.endPause ?_ l) l))
  have plate := s.undoBegin_plate l c
  refine undone.refusedRecord rfl ?_ ?_ ?_ <;> rw [State.setLine_plate, plate]
  · exact fun _ => rfl
  · exact (h.of_exposure hc).2.2
  · exact fun bare => State.pagesComplete_mono (s := s) (by rw [State.setLine_plate, plate]) (fun _ _ => id)
      (h.complete_of_unanswered hc unanswered bare)

theorem Kept.takeRefuse (h : Kept {} s) (l : LineId) : Kept {} (s.takeRefuse l) := by
  unfold State.takeRefuse
  split
  · exact h.clearAbort l
  · split
    · exact h.clearAbort l
    · rename_i hc unanswered
      exact h.refuseBegin hc (Bool.eq_false_iff.mpr unanswered)

theorem Kept.refuseLocal (h : Kept {} s) (hc : (s.line l).exposure = some c) (unanswered : c.answered = false) :
    Kept {} (s.refuseLocal l c) := by
  have undone := (h.undoBegin hc).alikeLine l
    (ln := { (s.undoBegin l c).line l with unitLocal := true, unitReady := false }) {}
  have faulted := undone.faultLine l .unitLocal (some c.slot)
  obtain ⟨pages, plates⟩ := ((s.undoBegin l c).setLine l { (s.undoBegin l c).line l with
    unitLocal := true, unitReady := false }).faultLine_only l .unitLocal (some c.slot)
  have plate := (plates c.slot (undone.absent (.on l .queue))).trans (s.undoBegin_plate l c)
  refine Kept.tell (Kept.wakeIntake ?_)
  dsimp only
  split
  · refine faulted.withdrawRecord rfl ?_
    rw [plate]
    exact fun _ => rfl
  · rename_i bare
    rw [plate] at bare
    refine faulted.returnToReady rfl ?_ fun _ => ?_
    · rw [plate]
      exact fun _ => rfl
    · refine State.pagesComplete_mono (s := s) (by rw [plate]) (fun k _ hk => ?_)
        (h.complete_of_unanswered hc unanswered (Bool.eq_false_iff.mpr bare))
      rw [State.page, pages]
      exact hk

theorem Kept.takeRefuseLocal (h : Kept {} s) (l : LineId) : Kept {} (s.takeRefuseLocal l) := by
  unfold State.takeRefuseLocal
  split
  · exact h.clearAbort l
  · split
    · exact h.clearAbort l
    · rename_i hc unanswered
      exact h.refuseLocal hc (Bool.eq_false_iff.mpr unanswered)

theorem Kept.timeoutBegin (h : Kept {} s) (hc : (s.line l).exposure = some c) : Kept {} (s.timeoutBegin l c) := by
  have flagged : Kept {} ((s.send l .exposeAbort).setLine l { s.line l with resetAbort := true }) :=
    (h.send l _).alikeLine l {}
  have closed := flagged.closeExposure (c := c) (l := l) (by rw [State.line_setLine_self]; exact hc)
  exact (((closed.spoil rfl (fun _ => rfl) .unitSilent).faultLine l _ _).wakeIntake).tell

theorem Kept.takeLineRequest (h : Kept {} s) (l : LineId) : Kept {} (s.takeLineRequest l) := by
  unfold State.takeLineRequest
  split
  · exact h
  · rename_i c hc
    split
    · split
      · obtain ⟨hand, state, -⟩ := h.of_exposure hc
        have doomed := (h.doom hand (.inl state) .underrun fun hs => hs.elim).abortExposure l
        exact doomed.loosen (fun _ hq => hq.1) fun _ => id
      · exact h.serveLine l hc _ _
    · exact h

/-- A record in hand enters transit. -/
theorem Kept.enterTransit {x : Slack} {ks : List PageIx} (h : Kept (x.take p ks) s) (hand : x.hand p = none)
    {r : PlateRecord} (claims : ∀ k, ks.count k = r.load.keys.count k) (state : r.state = .exposed)
    (line : r.line = some l) (current : r.doom = none → (s.setPlate p r).Current p) (mark : Nat) (route : Route)
    (f : ProfileId) : Kept x ((s.setPlate p r).setLine l ((s.line l).appendEntry p mark route f)) := by
  have plate := State.plate_setPlate_self s p r
  refine (h.setPlate_hand (x.take_hand_self p ks) r).enterLine (a := .transit) hand ?_ ?_ ?_ (fun b hb => ?_)
    (fun _ => ?_) fun _ _ => .inl
  · rw [plate]
    exact claims
  · rw [plate]
    exact PlateRecord.spot_eq_some.mpr ⟨state, line⟩
  · simp only [Line.listed, Line.appendEntry, List.map_append, List.map_cons, List.map_nil]
    exact List.perm_append_singleton p _
  · cases b
    case transit => exact absurd rfl hb
    all_goals rfl
  · constructor <;> rw [plate, state]
    · exact fun e => by rcases e with e | e <;> cases e
    · exact fun e => by cases e
    · exact fun _ hd => current hd
    · exact fun e => by cases e

/-- What the end of an exposure leaves of its record: a doom, if the end was not a normal one (R140). -/
def PlateRecord.ended (r : PlateRecord) (normal : Bool) : PlateRecord :=
  { (if normal then r else r.withDoom .aborted) with state := .exposed }

theorem PlateRecord.ended_eq (r : PlateRecord) (normal : Bool) :
    (r.ended normal).load = r.load ∧ (r.ended normal).bound = r.bound ∧ (r.ended normal).line = r.line
    ∧ ((r.ended normal).doom = none → r.doom = none) := by
  cases normal <;> simp [PlateRecord.ended, PlateRecord.withDoom]

/-- A plate that has been imaged enters transit. -/
theorem Kept.endExposure (h : Kept {} s) (hc : (s.line l).exposure = some c) (answered : c.answered = true)
    (cause : EndCause) : Kept {} (s.endExposure l c cause) := by
  obtain ⟨hand, state, line⟩ := h.of_exposure hc
  have bare : (s.plate c.slot).withdraw = false := by
    refine h.answered l c.slot ?_
    rw [Line.begun_of_some hc, answered]
  obtain ⟨load', bound', line', doom'⟩ :=
    (s.plate c.slot).ended_eq (c.endsNormal cause (s.plate c.slot).load.height)
  have plate : ∀ r, ((s.closeExposure l c).setPlate c.slot r).plate c.slot = r := State.plate_setPlate_self _ _
  refine Kept.tell (Kept.startTest (Kept.wakeIntake (Kept.afterEnd (Kept.report ?_ _) l _)) l)
  refine (h.closeExposure hc).enterTransit
    (r := (s.plate c.slot).ended (c.endsNormal cause (s.plate c.slot).load.height)) rfl (fun k => ?_) rfl
    (line'.trans line) (fun hd => ?_) _ _ _
  · rw [load']
  · exact State.Current.mono (s := s) (by rw [plate, load']) (by rw [plate, bound']) (fun _ _ => rfl)
      ((h.fresh c.slot hand not_false).exposing state bare (doom' hd))

theorem Kept.takeEnd (h : Kept {} s) (l : LineId) (cause : EndCause) : Kept {} (s.takeEnd l cause) := by
  unfold State.takeEnd
  split
  · exact h.clearAbort l
  · split
    · exact h.endExposure ‹_› ‹_› cause
    · exact h

theorem Kept.takeEndFault (h : Kept {} s) (l : LineId) : Kept {} (s.takeEndFault l) := by
  unfold State.takeEndFault
  split
  · exact h.clearAbort l
  · rename_i c hc
    exact ((((h.closeExposure hc).spoil rfl (fun _ => rfl) .unitFault).faultLine l _ _).wakeIntake).tell

theorem Kept.changeStock (h : Kept {} s) (l : LineId) (stock : Option Nat) : Kept {} (s.changeStock l stock) := by
  unfold State.changeStock
  split
  · exact h
  · have changed : Kept {} (s.setLine l { s.line l with stock := stock }) := h.alikeLine l {}
    exact (changed.returnEntries ((changed.once (.on l .queue)).filter _) fun _ hp => (List.mem_filter.mp hp).1).drainTest l

theorem Kept.takeStatus (h : Kept {} s) (l : LineId) (ready : Bool) (stock : Option Nat) (unitLocal : Bool) :
    Kept {} (s.takeStatus l ready stock unitLocal) := (((h.alikeLine l {}).changeStock l stock).startTest l).tell

/-! ### Events in transit -/

theorem Kept.takeArrival (h : Kept {} s) (l : LineId) (mark : Option Nat) : Kept {} (s.takeArrival l mark) := by
  unfold State.takeArrival State.matchArrival
  split
  · exact h.faultLine l _ _
  · split
    · exact h.faultLine l _ _
    · split
      · split
        · exact (h.report _).acceptArrival l _
        · split
          · exact h.acceptArrival l _
          · exact h.faultLine l _ _
      · exact h.acceptArrival l _

theorem Kept.takePunchFault (h : Kept {} s) (l : LineId) : Kept {} (s.takePunchFault l) := by
  unfold State.takePunchFault
  dsimp only
  split
  · exact h.faultLine l _ _
  · exact (h.alikeLine l {}).faultLine l _ _

theorem Kept.takeSorterArrival (h : Kept {} s) (l : LineId) : Kept {} (s.takeSorterArrival l) := by
  unfold State.takeSorterArrival
  split
  · exact h.faultLine l _ _
  · split
    · exact h.faultLine l _ _
    · exact h.arriveAtSorter l _

/-! ### Stacking (R90, R164, R165) -/

theorem earliest_mem {qualifies : TransitEntry → Bool} {es : List TransitEntry} {e : TransitEntry}
    (h : earliest qualifies es = some e) : e ∈ es := by
  have best : ∀ o, earliest qualifies es = some o → o ∈ es := by
    refine List.foldlRecOn (motive := fun b => ∀ o, b = some o → o ∈ es) _ _ (fun _ ho => nomatch ho)
      fun b hb f hf o ho => ?_
    have mem := (List.mem_filter.mp hf).1
    split at ho
    · exact Option.some.inj ho ▸ mem
    · split at ho
      · exact Option.some.inj ho ▸ mem
      · exact hb o ho
  exact best e h

/-- A record in hand that is bound to the current versions is delivered. -/
theorem Kept.deliver (h : Kept (({} : Slack).take p (s.plate p).load.keys) s) (current : s.Current p) (l : LineId)
    (b : BinId) : Kept {} (s.deliver l b p) := by
  have landed : Kept (({} : Slack).take p []) (s.deliver l b p) :=
    ((h.setPlate_hand (({} : Slack).take_hand_self p _) _).report _).offerDemand rfl []
  have plate : (s.deliver l b p).plate p = (s.plate p).landed .delivered (some (l, b)) :=
    (State.offerDemand_plate _ _ _ p).trans (State.plate_setPlate_self _ _ _)
  have version : ∀ k, ((s.deliver l b p).page k).version = (s.page k).version := fun k =>
    (congrArg PageEntry.version (State.offerDemand_page _ _ _ k)).trans (PageEntry.netted_version _ _ _)
  refine landed.put_idle rfl ?_ ?_ ?_ ?_ fun _ => ?_
  · rw [plate]
    exact fun _ => rfl
  · rw [plate]
    rfl
  · rw [plate]
    rfl
  · rw [plate]
    rfl
  · constructor
    · rw [plate]
      exact fun e => by rcases e with e | e <;> cases e
    · rw [plate]
      exact fun e => by cases e
    · rw [plate]
      exact fun e => by cases e
    · exact fun _ => State.Current.mono (by rw [plate]; rfl) (by rw [plate]; rfl) (fun k _ => version k) current

theorem Kept.obsoleteInBin (h : Kept (({} : Slack).take p (s.plate p).load.keys) s) (l : LineId) (b : BinId) :
    Kept {} (s.obsoleteInBin l b p) := by
  refine ((h.setPlate_hand (({} : Slack).take_hand_self p _) _).report _).autoRemake rfl ?_ (.inl ?_) ?_ <;>
    rw [State.report_plate, State.plate_setPlate_self]
  · exact fun _ => rfl
  · rfl
  · rfl

theorem Kept.rejected (h : Kept (({} : Slack).take p (s.plate p).load.keys) s) (l : LineId) (b : BinId) (cause : Cause) :
    Kept {} (s.rejected l b p cause) := by
  refine ((h.setPlate_hand (({} : Slack).take_hand_self p _) _).report _).autoRemake rfl ?_ ?_ ?_ <;>
    rw [State.report_plate, State.plate_setPlate_self]
  · exact fun _ => rfl
  · by_cases obsolete : cause = .obsolete
    · exact .inl (if_pos obsolete)
    · exact .inr (if_neg obsolete)
  · rfl

theorem Kept.fate {e : TransitEntry} (h : Kept (({} : Slack).take e.slot (s.plate e.slot).load.keys) s)
    (current : (s.plate e.slot).doom = none → s.Current e.slot) (l : LineId) (b : BinId) : Kept {} (s.fate l b e) := by
  unfold State.fate
  split
  · exact h.deliver (current ‹_›) l b
  · exact h.obsoleteInBin l b
  · exact h.rejected l b _
  · exact h.rejected l b _

theorem Kept.stack (h : Kept {} s) {e : TransitEntry} (he : e ∈ (s.line l).transit) (b : BinId) :
    Kept {} (s.stack l b e) := by
  have mem : e.slot ∈ s.listed (.on l .transit) := List.mem_map_of_mem he
  obtain ⟨hand, spot⟩ := (h.spots e.slot _).mp mem
  have current := (h.fresh e.slot hand not_false).exposed (PlateRecord.spot_eq_some.mp spot).1
  have stacked := Kept.fate (s := s.setLine l ((s.line l).stacked b e.slot)) (h.dropEntry mem {}) current l b
  exact ((stacked.wakeIntake.fullTest l b).startTest l).routeWaiting l

/-- A plate is lost from transit. -/
theorem Kept.spoilEntry (h : Kept {} s) (mem : p ∈ (s.line l).transit.map TransitEntry.slot) (cause : Cause) :
    Kept {} ((s.setLine l ((s.line l).dropEntry p)).spoil p cause) :=
  (h.dropEntry mem {}).spoil rfl (fun _ => rfl) cause

theorem Kept.takeStacked (h : Kept {} s) (l : LineId) (bin : Nat) : Kept {} (s.takeStacked l bin) := by
  unfold State.takeStacked
  split
  · exact h
  · split
    · exact h.faultLine l _ _
    · rename_i e oldest
      have he := earliest_mem oldest
      split
      · exact h
      · split
        · exact h.stack he _
        · exact (h.spoilEntry (List.mem_map_of_mem he) .misroute).faultLine l _ _

/-! ### The line commands -/

theorem State.spoil_lines (s : State) (p : Slot) (cause : Cause) : (s.spoil p cause).lines = s.lines := by
  unfold State.spoil State.autoRemake State.remake State.evaluate State.joinBack
  split
  · split
    · split <;> rfl
    · rfl
  · rfl

theorem Kept.foldl_clearEntry {es : List TransitEntry} (h : Kept {} s) (once : (es.map TransitEntry.slot).Nodup)
    (on : ∀ e ∈ es, e.slot ∈ (s.line l).transit.map TransitEntry.slot) (cause : Cause) :
    Kept {} (es.foldl (State.clearEntry l cause) s) := by
  induction es generalizing s with
  | nil => exact h
  | cons e es ih =>
    obtain ⟨he, hes⟩ := List.nodup_cons.mp once
    refine ih (h.spoilEntry (on e List.mem_cons_self) cause) hes fun f hf => ?_
    have line : (State.clearEntry l cause s e).line l = (s.line l).dropEntry e.slot := by
      rw [State.line, State.clearEntry, State.spoil_lines]
      exact s.line_setLine_self l _
    rw [line]
    obtain ⟨g, hg, slot⟩ := List.mem_map.mp (on f (List.mem_cons_of_mem e hf))
    refine List.mem_map.mpr ⟨g, List.mem_filter.mpr ⟨hg, decide_eq_true fun same => he ?_⟩, slot⟩
    rw [← same, slot]
    exact List.mem_map_of_mem hf

theorem Kept.clearTransit (h : Kept {} s) (l : LineId) (cause : Cause) : Kept {} (s.clearTransit l cause) :=
  h.foldl_clearEntry (h.once (.on l .transit)) (fun _ he => List.mem_map_of_mem he) cause

theorem Kept.abandonExposure (h : Kept {} s) (l : LineId) : Kept {} (s.abandonExposure l) := by
  unfold State.abandonExposure
  split
  · exact h
  · rename_i c hc
    exact (((h.send l .exposeAbort).closeExposure hc).spoil rfl (fun _ => rfl) .lineReset).alikeLine l {}

theorem Kept.resetLine (h : Kept {} s) (l : LineId) : Kept {} (s.resetLine l) :=
  (((((h.abandonExposure l).clearTransit l _).returnQueue l).alikeLine l {}).stopLine l).tell

/-! ### The plate commands -/

theorem Kept.loadFree (h : Kept {} s) (free : (s.plate p).state = .free) (x : PlateLoad) : Kept {} (s.loadFree p x) := by
  have lifted := h.lift_idle (p := p) rfl (PlateRecord.spot_of_idle (by rw [free]; rfl))
  rw [show (s.plate p).demandKeys = [] by rw [PlateRecord.demandKeys, free]; rfl] at lifted
  have loaded := (lifted.setPlate_hand (({} : Slack).take_hand_self p _) ((s.plate p).loaded x)).offerDemand rfl x.keys
  refine (loaded.stay rfl ?_ ?_ ?_).evaluate rfl <;> rw [State.offerDemand_plate, State.plate_setPlate_self]
  · exact fun _ => rfl
  · rfl
  · rfl

theorem Kept.replacePlate (h : Kept {} s) (flight : (s.plate p).state.inFlight = false) (x : PlateLoad) :
    Kept {} (s.replacePlate p x) := by
  refine (((h.leaveReady rfl flight).offerDemand rfl x.keys).rest rfl (fun _ => ?_) rfl rfl).evaluate rfl
  rfl

theorem Kept.takeOut (h : Kept {} s) (exposing : (s.plate p).state ≠ .exposing)
    (exposed : (s.plate p).state ≠ .exposed) : Kept (({} : Slack).take p (s.plate p).demandKeys) (s.takeOut p) := by
  unfold State.takeOut
  split
  · rename_i state
    exact h.leaveReady rfl (by rw [state]; rfl)
  · rename_i l state line
    have mem : p ∈ (s.line l).queue :=
      (h.spots p (.on l .queue)).mpr ⟨rfl, PlateRecord.spot_eq_some.mpr ⟨state, line⟩⟩
    rw [PlateRecord.demandKeys_of_demands (by rw [state]; rfl)]
    exact (h.leaveQueue mem).drainTest l
  · rename_i ready queued
    refine h.lift_idle rfl (Option.eq_none_iff_forall_ne_some.mpr fun y hy => ?_)
    have named := PlateRecord.spot_eq_some.mp hy
    rcases y with - | ⟨l, - | - | -⟩
    · exact ready named
    · exact queued l named.1 named.2
    · exact exposing named.1
    · exact exposed named.1

theorem Kept.dropPlate (h : Kept {} s) (exposing : (s.plate p).state ≠ .exposing)
    (exposed : (s.plate p).state ≠ .exposed) : Kept {} (s.dropPlate p) :=
  ((h.takeOut exposing exposed).offerDemand rfl []).rest rfl (fun _ => rfl) rfl rfl

theorem Kept.remakeDelivered (h : Kept {} s) (state : (s.plate p).state = .delivered) :
    Kept {} ((s.offerDemand [] (s.plate p).load.keys).remake p) := by
  have lifted := h.lift_idle (p := p) rfl (by rw [PlateRecord.spot, state])
  rw [show (s.plate p).demandKeys = [] by rw [PlateRecord.demandKeys, state]; rfl] at lifted
  refine (lifted.offerDemand rfl (s.plate p).load.keys).remake rfl ?_
  rw [State.offerDemand_plate]
  exact fun _ => rfl

theorem Kept.remakeIdle (h : Kept {} s) (state : (s.plate p).state = .obsolete ∨ (s.plate p).state = .spoiled) :
    Kept {} (s.remake p) := by
  have lifted := h.lift_idle (p := p) rfl (PlateRecord.spot_of_idle (by rcases state with e | e <;> rw [e] <;> rfl))
  rw [PlateRecord.demandKeys_of_demands (by rcases state with e | e <;> rw [e] <;> rfl)] at lifted
  exact lifted.remake rfl fun _ => rfl

/-! ### Every effect -/

theorem Kept.happens (h : Kept {} s) (k : Happens s t) : Kept {} t := by
  cases k with
  | bandArrives body => exact h.bandArrives body
  | bandWritten w => exact (h.onStore _).beginHanding.writeHanded
  | readCompletes r => exact h.readCompletes r
  | beginTimeout l c hc => exact h.timeoutBegin hc
  | beginAccept l => exact h.takeAccept l
  | beginRefuse l => exact h.takeRefuse l
  | beginRefuseLocal l => exact h.takeRefuseLocal l
  | lineRequest l => exact h.takeLineRequest l
  | exposeEnd l cause => exact h.takeEnd l cause
  | exposeEndFault l => exact h.takeEndFault l
  | unitStatus l ready stock unitLocal => exact h.takeStatus l ready stock unitLocal
  | pbArrival l mark => exact h.takeArrival l mark
  | pbSetupDone l => exact h.takeSetupDone l
  | pbDone l => exact h.takeDone l
  | pbFault l => exact h.takePunchFault l
  | fault l cause p => exact h.faultLine l cause p
  | soArrival l => exact h.takeSorterArrival l
  | soStacked l bin => exact h.takeStacked l bin
  | soBinEmptied l bin => exact h.takeEmptied l bin

theorem Kept.carries (h : Kept {} s) (k : Carries s t) : Kept {} t := by
  cases k with
  | releasePage k complete demand => exact h.releasePage complete demand
  | loadFree p x free => exact h.loadFree free x
  | replacePlate p x flight => exact h.replacePlate flight x
  | dropPlate p exposing exposed => exact h.dropPlate exposing exposed
  | remakeDelivered p state => exact h.remakeDelivered state
  | remake p state => exact h.remakeIdle state
  | lineConfig l config capacity => exact h.configure l config capacity
  | lineStart l => exact (h.setMode l _).startTest l
  | linePause l m => exact h.setMode l m
  | lineDrain l => exact ((h.setMode l _).drainTest l).startTest l
  | lineReset l => exact h.resetLine l
  | lineClearFault l => exact (h.clearTransit l _).stopLine l
  | loadProfile f x => exact h.loadProfile f x
  | binOpen l b => exact (h.setClosed l b false).routeWaiting l
  | binClose l b => exact h.setClosed l b true

theorem Kept.preserved : Preserved (Kept {}) where
  link h k := by
    obtain ⟨_, _, _, rfl⟩ := k
    exact h.frame
  event h k := h.happens k
  carried h k := h.carries k
  wake h := h.wakeIntake
  settle h := h.settle
  finish h := h.finish

/-! ### The resets (R14) -/

/-- A reset leaves the records, the entries and the lists as they are after reset. -/
theorem Kept.of_reset (plates : t.plates = State.reset.plates) (ready : t.ready = []) (pages : t.pages = State.reset.pages)
    (intake : t.intake = {}) (queue : ∀ l, (t.line l).queue = []) (exposure : ∀ l, (t.line l).exposure = none)
    (transit : ∀ l, (t.line l).transit = []) : Kept {} t := by
  have line : ∀ l, (State.reset.line l).Alike (t.line l) := fun l =>
    { queue := by rw [queue, State.reset_line]
      begun := by rw [Line.begun, Line.begun, exposure, State.reset_line]
      transit := by rw [transit, State.reset_line] }
  refine State.reset_coherent.kept.alike
    ⟨plates, ready, fun l => (line l).listed, fun l => (line l).begun, ?_, ?_⟩ fun k => ?_
  · rw [intake]
    rfl
  · rw [intake]
    rfl
  · rw [State.page, State.page, pages]
    exact ⟨rfl, rfl, rfl⟩

theorem Kept.resetBlocks (s : State) : Kept {} { s.resetBlocks with powerCycle := s.powerCycle + 1 } := by
  have line : ∀ l, ({ s.resetBlocks with powerCycle := s.powerCycle + 1 } : State).line l =
      { fitted := (s.line l).fitted } :=
    fun l => by simp [State.line, State.resetBlocks]
  exact .of_reset rfl rfl rfl rfl (fun l => by rw [line]) (fun l => by rw [line]) fun l => by rw [line]

theorem Kept.engineReset (s : State) : Kept {} s.engineReset := by
  have line : ∀ l, s.engineReset.line l = { fitted := (s.line l).fitted, resetAbort := (s.line l).exposure.isSome } :=
    fun l => by simp [State.line, State.engineReset]
  exact .of_reset rfl rfl rfl rfl (fun l => by rw [line]) (fun l => by rw [line]) fun l => by rw [line]

end

/-- Settles O59: the invariant, loosened for the states inside a command, is kept by every effect and by both resets. -/
theorem coherenceIsKept : Obligations.CoherenceIsKept := by
  intro s t hs h
  unfold step at h
  split at h
  · exact Host.Outcome.next.inj h ▸ hs
  · rename_i c rest _
    have kept : Kept {} { s with pending := rest } := hs.kept.frame
    exact (Kept.preserved.exec c (fun _ _ k hu free => hu.discardPage k free) (fun _ => Kept.resetBlocks _)
      (fun _ => Kept.engineReset _) kept h).coherent

end Sys2Proof.Machine
end

section
/-! SUPPORT. The end of an exposure (R49, R50, R54, R129), the completion of a scan-source read (R127) and the memory access
arbiter (R52, R53). -/

namespace Sys2Proof.Machine

set_option Elab.async false

/-! ### Holds and reads given up -/

theorem RasterStore.dropHold_last {st : RasterStore} {d : DescId} (h : (st.desc d).expHolds ≤ 1)
    (unnamed : (st.desc d).dirHold = false) : st.dropHold d = st.freeDesc d := if_pos ⟨h, unnamed⟩

theorem RasterStore.dropHold_more {st : RasterStore} {d : DescId}
    (h : 1 < (st.desc d).expHolds ∨ (st.desc d).dirHold = true) :
    st.dropHold d = st.setDesc d { st.desc d with expHolds := (st.desc d).expHolds - 1 } := by
  refine if_neg fun hd => ?_
  rcases h with h | h
  · exact absurd hd.1 (Nat.not_le.mpr h)
  · exact Bool.noConfusion (hd.2.symm.trans h)

/-- A read of the line in service is marked for discard, as the mark is set or not (R54). -/
theorem RasterStore.withdrawRead_eq (st : RasterStore) (l : LineId) : st.withdrawRead l = { st with
    waitingReads := st.waitingReads.set l.val none
    inService := match st.inService with
      | some (.read r) => some (.read (if r.line = l then { r with discard := true } else r))
      | q => q } := by
  obtain ⟨free, table, mem, inService, waitingWrite, waitingReads, handing⟩ := st
  rcases inService with - | - | r
  · rfl
  · rfl
  · simp only [RasterStore.withdrawRead]
    split <;> rfl

/-- Settles O38: the closing written out, and the two outcomes of a hold's release. -/
theorem exposuresAreClosed : Obligations.ExposuresAreClosed := by
  intro s l c
  dsimp only
  refine ⟨?_, ?_, fun st d => ⟨RasterStore.dropHold_last, RasterStore.dropHold_more⟩⟩
  · rw [State.closeExposure, State.onStore, RasterStore.withdrawRead_eq]
    rfl
  · exact RasterStore.closing_mem _ l c.holds

/-! ### The completion of a read (R54, R127, R139) -/

theorem execScanReadCompletion_of_read {s : State} {r : ScanRead} (h : s.store.inService = some (.read r)) :
    exec .scanReadCompletion s = .next (s.readCompletes r).finish := by
  show execScanReadCompletion s = _
  unfold execScanReadCompletion
  rw [h]
  rfl

theorem State.readCompletes_discarded {s : State} {r : ScanRead} (h : r.discard = true) :
    s.readCompletes r = s.beginHanding.feedLine r.line := if_pos h

theorem State.readCompletes_kept {s : State} {r : ScanRead} (h : r.discard = false) :
    s.readCompletes r = s.beginHanding.readHanded r.line (s.readBytes r.addr r.count) := if_neg (by simp [h])

theorem State.readHanded_idle {s : State} {l : LineId} (bytes : List Byte) (h : (s.line l).exposure = none) :
    s.readHanded l bytes = s := by
  unfold State.readHanded
  rw [h]

theorem State.readHanded_aborted {s : State} {l : LineId} {c : Exposure} (bytes : List Byte)
    (hc : (s.line l).exposure = some c) (h : c.abortSent = true) : s.readHanded l bytes = s := by
  unfold State.readHanded
  rw [hc]
  exact if_pos h

theorem State.readHanded_composing {s : State} {l : LineId} {c : Exposure} (bytes : List Byte)
    (hc : (s.line l).exposure = some c) (h : c.abortSent = false) : s.readHanded l bytes =
      (s.setLine l { s.line l with
        composer := { (s.line l).composer with gathered := (s.line l).composer.gathered ++ [bytes] } }).feedLine l := by
  unfold State.readHanded
  rw [hc]
  exact if_neg (by simp [h])

/-! ### The arbiter (R52, R53) -/

theorem RasterStore.request_granted {st : RasterStore} (q : Request) (idle : st.inService = none)
    (handing : st.handing = false) : st.request q = { st with inService := some q } := if_pos ⟨idle, handing⟩

/-- A request that is not granted at its arrival waits in its maker's place. -/
theorem RasterStore.request_waits {st : RasterStore} (h : st.inService ≠ none ∨ st.handing = true) (q : Request) :
    st.request q = match q with
      | .write w => { st with waitingWrite := some w }
      | .read r => { st with waitingReads := st.waitingReads.set r.line.val (some r) } := by
  refine if_neg fun k => ?_
  rcases h with h | h
  · exact h k.1
  · exact Bool.noConfusion (k.2.symm.trans h)

/-- The line of the waiting read that is granted (R53). -/
theorem leastLine_eq {q : LineId → Bool} {f : LineId → Nat} {l : LineId} (hl : q l = true)
    (least : ∀ l', q l' = true → f l < f l' ∨ f l = f l' ∧ l ≤ l') : leastLine q f = some l := by
  cases h : leastLine q f with
  | none => exact nomatch hl.symm.trans (leastLine_none q f h l)
  | some b =>
    obtain ⟨hb, first⟩ := leastLine_some q f b h
    rcases least b hb, first l hl with ⟨above | ⟨same, above⟩, below | ⟨same', below⟩⟩
    · omega
    · omega
    · omega
    · rw [le_antisymm below above]

theorem RasterStore.grant_read {st : RasterStore} {level : LineId → Nat} {l : LineId} {r : ScanRead}
    (hl : st.waitingReads[l.val] = some r)
    (least : ∀ l' : LineId, st.waitingReads[l'.val] ≠ none → level l < level l' ∨ level l = level l' ∧ l ≤ l') :
    st.grant level = { st with inService := some (.read r), waitingReads := st.waitingReads.set l.val none } := by
  have chosen : leastLine (fun l => st.waitingReads[l.val].isSome) level = some l :=
    leastLine_eq (by rw [hl]; rfl) fun l' h => least l' (Option.isSome_iff_ne_none.mp h)
  unfold RasterStore.grant
  rw [chosen]
  dsimp only
  rw [hl]
  rfl

theorem RasterStore.grant_write {st : RasterStore} {level : LineId → Nat}
    (idle : ∀ l : LineId, st.waitingReads[l.val] = none) :
    st.grant level = { st with inService := st.waitingWrite.map Request.write, waitingWrite := none } := by
  cases chosen : leastLine (fun l => st.waitingReads[l.val].isSome) level with
  | some l =>
    have := (leastLine_some _ _ l chosen).1
    rw [idle] at this
    cases this
  | none =>
    unfold RasterStore.grant
    rw [chosen]

/-- Settles O39: the completion by the mark, the exposure in flight and its abort; the arbiter by its rules. -/
theorem scanReadsComplete : Obligations.ScanReadsComplete := by
  refine ⟨fun s r hr => ?_, fun st q => ⟨st.request_granted q, fun h => ⟨?_, ?_⟩⟩,
    fun st level => ⟨fun l r => RasterStore.grant_read, RasterStore.grant_write⟩,
    fun s => ⟨rfl, s.endHanding_idle, fun h => if_pos h⟩⟩
  · dsimp only
    rw [execScanReadCompletion_of_read hr]
    refine ⟨fun hd => ?_, fun c hd hc ha => ?_, fun c hd hc ha => ?_, fun hd hc => ?_, fun t ht => ?_⟩
    · rw [State.readCompletes_discarded hd]
      rfl
    · rw [State.readCompletes_kept hd, State.readHanded_composing (s := s.beginHanding) _ hc ha]
      rfl
    · rw [State.readCompletes_kept hd, State.readHanded_aborted (s := s.beginHanding) _ hc ha]
      rfl
    · rw [State.readCompletes_kept hd, State.readHanded_idle (s := s.beginHanding) _ hc]
      rfl
    · obtain rfl := Host.Outcome.next.inj ht
      exact (Steady.finish ((Calm.refl s).readCompletes r).toSteady).mem
  · rintro w rfl
    exact st.request_waits h _
  · rintro r rfl
    exact st.request_waits h _

end Sys2Proof.Machine
end

section
/-! SUPPORT. The rules of the invariants of O58: what the change of one descriptor, of one page entry, and of nothing that
they look at does to the strips, the rasters of the page entries, and the holds of exposures. -/

namespace Sys2Proof.Machine

set_option Elab.async false

/-! ### Strips (R43) -/

/-- An element of a list replaced: what its image gains and loses is what the whole list's image does. -/
theorem flatMap_set_perm {α β : Type} (f : α → List β) (as : List α) {i : Nat} (h : i < as.length) (a : α) :
    (f as[i] ++ (as.set i a).flatMap f).Perm (f a ++ as.flatMap f) := by
  induction as generalizing i with
  | nil => cases h
  | cons b bs ih =>
    cases i with
    | zero => exact List.perm_append_comm_assoc _ _ _
    | succ i =>
      have rest := (ih (Nat.lt_of_succ_lt_succ h)).append_left (f b)
      exact ((List.perm_append_comm_assoc _ _ _).trans rest).trans (List.perm_append_comm_assoc _ _ _)

/-- A descriptor after a write of one. -/
theorem RasterStore.desc_of_table {st st' : RasterStore} {d : DescId} {x : Descriptor}
    (table : st'.table = st.table.set d.val x) (j : DescId) : st'.desc j = if j = d then x else st.desc j := by
  rw [RasterStore.desc, table]
  exact RasterStore.desc_setDesc st d j x

/-- The strips that the free list gains are those that one descriptor loses. -/
theorem RasterStore.StripsConserved.swap {st st' : RasterStore} (h : st.StripsConserved) {d : DescId} {x : Descriptor}
    (table : st'.table = st.table.set d.val x)
    (strips : (st'.free ++ x.strips).Perm (st.free ++ (st.desc d).strips)) : st'.StripsConserved := by
  have moved := flatMap_set_perm Descriptor.strips st.table.toList (i := d.val) (by simp) x
  have own : st.table.toList[d.val]'(by simp) = st.desc d := by simp [RasterStore.desc]
  refine List.Perm.trans ?_ h
  rw [own] at moved
  rw [table, Vector.toList_set]
  rw [List.perm_iff_count] at moved strips ⊢
  intro n
  have moved := moved n
  have strips := strips n
  simp only [List.count_append] at moved strips ⊢
  omega

/-! ### One descriptor changed: strips and rasters -/

/-- A descriptor is the raster of an entry (R16, R45). -/
def Descriptor.Names (x : Descriptor) (k : PageIx) : Prop := x.state ≠ .free ∧ x.dirHold = true ∧ x.key = some k

section
variable {s t : State} {k : PageIx} {d : DescId}

/-- One descriptor has changed, and the entries have no new raster but it. -/
theorem State.StoreSound.swap (h : s.StoreSound) {x : Descriptor} (table : t.store.table = s.store.table.set d.val x)
    (strips : (t.store.free ++ x.strips).Perm (s.store.free ++ (s.store.desc d).strips))
    (empty : x.state = .free → x.strips = [] ∧ x.dirHold = false)
    (named : ∀ k, (t.page k).raster = some d → x.Names k)
    (others : ∀ k j, j ≠ d → (t.page k).raster = some j → (s.page k).raster = some j) : t.StoreSound := by
  obtain ⟨hstrips, hempty, hrasters⟩ := h
  have desc := RasterStore.desc_of_table table
  refine ⟨hstrips.swap table strips, fun j hj => ?_, fun k j hj => ?_⟩
  · rw [desc] at hj ⊢
    split at hj
    · rw [if_pos ‹_›]
      exact empty hj
    · rw [if_neg ‹_›]
      exact hempty j hj
  · rw [desc]
    split
    · rename_i same
      exact named k (same ▸ hj)
    · exact hrasters k j (others k j ‹_› hj)

/-- An entry takes as its raster a descriptor of its own, or none. -/
theorem State.StoreSound.setPage (h : s.StoreSound) {e : PageEntry}
    (raster : ∀ d, e.raster = some d → (s.store.desc d).Names k) : (s.setPage k e).StoreSound := by
  obtain ⟨hstrips, hempty, hrasters⟩ := h
  refine ⟨hstrips, hempty, fun j d hd => ?_⟩
  rw [State.page_setPage] at hd
  split at hd
  · rename_i same
    exact same ▸ raster d hd
  · exact hrasters j d hd

/-- No entry has the descriptor as its raster. -/
def State.Unnamed (s : State) (d : DescId) : Prop := ∀ k, (s.page k).raster ≠ some d

theorem State.StoreSound.unnamed_of_free (h : s.StoreSound) (free : (s.store.desc d).state = .free) : s.Unnamed d :=
  fun k hk => (h.2.2 k d hk).1 free

theorem State.StoreSound.unnamed_of_dropped (h : s.StoreSound) (dropped : (s.store.desc d).dirHold = false) :
    s.Unnamed d := fun k hk => Bool.noConfusion ((h.2.2 k d hk).2.1.symm.trans dropped)

/-- A descriptor is the raster of one entry alone: when that entry gives it up, of none. -/
theorem State.StoreSound.unnamed_of_given (h : s.StoreSound) (raster : (s.page k).raster = some d) {e : PageEntry}
    (given : e.raster ≠ some d) : (s.setPage k e).Unnamed d := fun j hj => by
  rw [State.page_setPage] at hj
  split at hj
  · exact given hj
  · rename_i other
    have key := (h.2.2 k d raster).2.2.symm.trans (h.2.2 j d hj).2.2
    exact other (Option.some.inj key).symm

/-- A descriptor keeps its strips. -/
theorem State.StoreSound.setDesc (h : s.StoreSound) {x : Descriptor} (strips : x.strips = (s.store.desc d).strips)
    (empty : x.state = .free → x.strips = [] ∧ x.dirHold = false)
    (named : ∀ k, (s.page k).raster = some d → x.Names k) : (s.onStore fun st => st.setDesc d x).StoreSound := by
  refine h.swap (d := d) rfl ?_ empty named fun _ _ _ => id
  rw [strips]
  rfl

/-- A descriptor that keeps its strips, state, key and directory hold. -/
theorem State.StoreSound.recount (h : s.StoreSound) {x : Descriptor}
    (strips : x.strips = (s.store.desc d).strips := by rfl) (state : x.state = (s.store.desc d).state := by rfl)
    (dirHold : x.dirHold = (s.store.desc d).dirHold := by rfl) (key : x.key = (s.store.desc d).key := by rfl) :
    (s.onStore fun st => st.setDesc d x).StoreSound := by
  refine h.setDesc strips (fun hx => ?_) fun k hk => ?_
  · rw [strips, dirHold]
    exact h.2.1 d (state.symm.trans hx)
  · unfold Descriptor.Names
    rw [state, dirHold, key]
    exact h.2.2 k d hk

theorem State.StoreSound.freeDesc (h : s.StoreSound) (unnamed : s.Unnamed d) :
    (s.onStore fun st => st.freeDesc d).StoreSound := by
  refine h.swap (d := d) rfl ?_ (fun _ => ⟨rfl, rfl⟩) (fun k hk => absurd hk (unnamed k)) fun _ _ _ => id
  show ((s.store.free ++ (s.store.desc d).strips) ++ []).Perm _
  rw [List.append_nil]

theorem State.StoreSound.dropDirHold (h : s.StoreSound) (unnamed : s.Unnamed d) (superseded : Bool) :
    (s.onStore fun st => st.dropDirHold d superseded).StoreSound := by
  by_cases last : (s.store.desc d).expHolds = 0
  · have freed : s.onStore (fun st => st.dropDirHold d superseded) = s.onStore fun st => st.freeDesc d := by
      rw [State.onStore, RasterStore.dropDirHold, if_pos last]
      rfl
    rw [freed]
    exact h.freeDesc unnamed
  · have kept : s.onStore (fun st => st.dropDirHold d superseded) = s.onStore fun st => st.setDesc d
        { s.store.desc d with
          dirHold := false, state := if superseded then .retired else (s.store.desc d).state } := by
      rw [State.onStore, RasterStore.dropDirHold, if_neg last]
      rfl
    rw [kept]
    refine h.setDesc rfl (fun hx => ⟨?_, rfl⟩) fun k hk => absurd hk (unnamed k)
    cases superseded with
    | true => cases hx
    | false => exact (h.2.1 d hx).1

theorem State.StoreSound.takeDesc (h : s.StoreSound) (free : (s.store.desc d).state = .free) (v width height : Nat) :
    (s.onStore fun st => st.takeDesc d k v width height).StoreSound :=
  h.setDesc (h.2.1 d free).1.symm (fun hx => by cases hx) fun j hj => absurd hj (h.unnamed_of_free free j)

theorem State.StoreSound.restartDesc (h : s.StoreSound) (raster : (s.page k).raster = some d) (width height : Nat) :
    (s.onStore fun st => st.restartDesc d width height).StoreSound := by
  obtain ⟨taken, -, -⟩ := h.2.2 k d raster
  refine h.swap (d := d) rfl ?_ (fun hx => absurd hx taken) (fun j hj => h.2.2 j d hj) fun _ _ _ => id
  show ((s.store.free ++ (s.store.desc d).strips) ++ []).Perm _
  rw [List.append_nil]

theorem State.StoreSound.takeStrip (h : s.StoreSound) (raster : (s.page k).raster = some d) {st : RasterStore}
    (taken : s.store.takeStrip d = some st) : State.StoreSound { s with store := st } := by
  obtain ⟨used, -, -⟩ := h.2.2 k d raster
  unfold RasterStore.takeStrip at taken
  split at taken
  · cases taken
  · rename_i n rest free
    cases taken
    refine h.swap (d := d) rfl ?_ (fun hx => absurd hx used) (fun j hj => h.2.2 j d hj) fun _ _ _ => id
    show (rest ++ ((s.store.desc d).strips ++ [n])).Perm _
    rw [free, ← List.append_assoc]
    exact List.perm_append_singleton n _

theorem State.StoreSound.fillDesc (h : s.StoreSound) (d : DescId) :
    (s.onStore fun st => st.fillDesc d).StoreSound := by
  refine h.setDesc rfl (fun hx => by cases hx) fun j hj => ?_
  obtain ⟨-, dirHold, key⟩ := h.2.2 j d hj
  exact ⟨DescState.noConfusion, dirHold, key⟩

theorem State.StoreSound.addHolds (ds : List DescId) (h : s.StoreSound) :
    (s.onStore fun st => ds.foldl RasterStore.addHold st).StoreSound := by
  induction ds generalizing s with
  | nil => exact h
  | cons d ds ih => exact ih (s := s.onStore fun st => st.addHold d) h.recount

theorem State.StoreSound.dropHold (h : s.StoreSound) (d : DescId) : (s.onStore fun st => st.dropHold d).StoreSound := by
  by_cases last : (s.store.desc d).expHolds ≤ 1 ∧ (s.store.desc d).dirHold = false
  · rw [State.onStore, RasterStore.dropHold, if_pos last]
    exact h.freeDesc (h.unnamed_of_dropped last.2)
  · rw [State.onStore, RasterStore.dropHold, if_neg last]
    exact h.recount

theorem State.StoreSound.dropHolds (ds : List DescId) (h : s.StoreSound) :
    (s.onStore fun st => ds.foldl RasterStore.dropHold st).StoreSound := by
  induction ds generalizing s with
  | nil => exact h
  | cons d ds ih => exact ih (s := s.onStore fun st => st.dropHold d) (h.dropHold d)

end

/-! ### What an entry says of its raster -/

/-- An entry has a raster when it is RECEIVING or COMPLETE, in its own version, FILLING or FILLED. -/
structure PageEntry.Fits (e : PageEntry) (st : RasterStore) : Prop where
  present : e.raster.isSome = true ↔ e.state = .receiving ∨ e.state = .complete
  version : ∀ d, e.raster = some d → (st.desc d).version = e.version
    ∧ (st.desc d).state = if e.state = .receiving then .filling else .filled

theorem State.HoldsSound.fits {s : State} (h : s.HoldsSound) (k : PageIx) : (s.page k).Fits s.store :=
  ⟨h.rasters k, h.versions k⟩

/-- An entry without a raster. -/
theorem PageEntry.Fits.of_none {e : PageEntry} (st : RasterStore) (raster : e.raster = none)
    (receiving : e.state ≠ .receiving) (complete : e.state ≠ .complete) : e.Fits st where
  present := by rw [raster]; exact iff_of_false Bool.noConfusion (not_or.mpr ⟨receiving, complete⟩)
  version d hd := nomatch raster.symm.trans hd

/-- An entry of the same raster, state and version, where the descriptor has kept its own. -/
theorem PageEntry.Fits.mono {e e' : PageEntry} {st st' : RasterStore} (h : e.Fits st) (raster : e'.raster = e.raster)
    (state : e'.state = e.state) (version : e'.version = e.version)
    (desc : ∀ d, e.raster = some d →
      (st'.desc d).version = (st.desc d).version ∧ (st'.desc d).state = (st.desc d).state) : e'.Fits st' where
  present := by rw [raster, state]; exact h.present
  version d hd := by
    rw [raster] at hd
    rw [state, version, (desc d hd).1, (desc d hd).2]
    exact h.version d hd

/-! ### One descriptor changed: holds -/

section
variable {s t : State} {k : PageIx} {d : DescId}

theorem LineId.mem_allLines (l : LineId) : l ∈ allLines := by
  revert l
  decide

/-- Every descriptor counts the lines whose exposure in flight holds it (R45). -/
def State.HoldsCounted (s : State) : Prop := ∀ d : DescId, (s.store.desc d).expHolds =
  allLines.countP fun l => (s.line l).exposure.any fun c => decide (d ∈ c.holds)

/-- A descriptor that an exposure holds has a count of at least 1. -/
theorem State.HoldsCounted.pos (h : s.HoldsCounted) {l : LineId} {c : Exposure} (hc : (s.line l).exposure = some c)
    (hd : d ∈ c.holds) : 0 < (s.store.desc d).expHolds := by
  rw [h d, List.countP_pos_iff]
  exact ⟨l, LineId.mem_allLines l, by rw [hc]; exact decide_eq_true hd⟩

/-- One descriptor has changed, not in its count of exposure holds, nor in its key and version while it is held. -/
theorem State.HoldsSound.swap (h : s.HoldsSound) {x : Descriptor} (table : t.store.table = s.store.table.set d.val x)
    (fit : x.HoldsFit) (count : x.expHolds = (s.store.desc d).expHolds)
    (held : 0 < (s.store.desc d).expHolds → x.key = (s.store.desc d).key ∧ x.version = (s.store.desc d).version)
    (page : ∀ k, (t.page k).Fits t.store) (plates : t.plates = s.plates := by rfl)
    (lines : t.lines = s.lines := by rfl) : t.HoldsSound := by
  have desc := RasterStore.desc_of_table table
  have line : ∀ l, t.line l = s.line l := fun l => by rw [State.line, State.line, lines]
  have plate : ∀ p, t.plate p = s.plate p := fun p => by rw [State.plate, State.plate, plates]
  have same : ∀ {l c j}, (s.line l).exposure = some c → j ∈ c.holds →
      (t.store.desc j).key = (s.store.desc j).key ∧ (t.store.desc j).version = (s.store.desc j).version := by
    intro l c j hc hj
    rw [desc]
    split
    · rename_i e
      subst e
      exact held (State.HoldsCounted.pos h.counted hc hj)
    · exact ⟨rfl, rfl⟩
  exact
    { fit := fun j => by
        rw [desc]
        split
        · exact fit
        · exact h.fit j
      counted := fun j => by
        simp only [line]
        rw [← h.counted, desc]
        split
        · rename_i e
          rw [count, e]
        · rfl
      once := fun l c hc => by
        rw [line] at hc
        exact h.once l c hc
      held := fun l c hc j hj => by
        rw [line] at hc
        rw [plate, (same hc hj).1]
        exact h.held l c hc j hj
      reads := fun l c hc => by
        rw [line] at hc
        obtain ⟨vs, bound, reads⟩ := h.reads l c hc
        refine ⟨vs, by rw [plate]; exact bound, fun i j g hi => ?_⟩
        rw [line] at hi
        obtain ⟨mem, key, version⟩ := reads i j g hi
        rw [plate, (same hc mem).1, (same hc mem).2]
        exact ⟨mem, key, version⟩
      rasters := fun k => (page k).present
      versions := fun k => (page k).version }

/-- One descriptor has changed that is no entry's raster, or has kept its version and state. -/
theorem State.HoldsSound.setDesc (h : s.HoldsSound) {x : Descriptor} {g : RasterStore → RasterStore}
    (table : (g s.store).table = s.store.table.set d.val x) (fit : x.HoldsFit)
    (count : x.expHolds = (s.store.desc d).expHolds)
    (held : 0 < (s.store.desc d).expHolds → x.key = (s.store.desc d).key ∧ x.version = (s.store.desc d).version)
    (named : ∀ k, (s.page k).raster = some d →
      x.version = (s.store.desc d).version ∧ x.state = (s.store.desc d).state) : (s.onStore g).HoldsSound := by
  refine h.swap (t := s.onStore g) table fit count held fun k => (h.fits k).mono rfl rfl rfl fun j hj => ?_
  rw [State.onStore_store, RasterStore.desc_of_table table]
  split
  · rename_i e
    subst e
    exact named k hj
  · exact ⟨rfl, rfl⟩

/-- An entry is changed to one that fits the Raster Store. -/
theorem State.HoldsSound.setPage (h : s.HoldsSound) {e : PageEntry} (fits : e.Fits s.store) : (s.setPage k e).HoldsSound :=
  have page : ∀ j, ((s.setPage k e).page j).Fits s.store := fun j => by
    rw [State.page_setPage]
    split
    · exact fits
    · exact h.fits j
  { h with
    rasters := fun j => (page j).present
    versions := fun j => (page j).version }

/-- A descriptor that no exposure holds and no entry names is freed. -/
theorem State.HoldsSound.freeDesc (h : s.HoldsSound) (unnamed : s.Unnamed d) (unheld : (s.store.desc d).expHolds = 0) :
    (s.onStore fun st => st.freeDesc d).HoldsSound :=
  h.setDesc (d := d) (x := {}) rfl ⟨rfl, rfl⟩ unheld.symm (fun held => absurd unheld (Nat.ne_of_gt held))
    fun k hk => absurd hk (unnamed k)

/-- The raster of an entry that a newer version has replaced is freed, or RETIRED while exposures hold it (R48). -/
theorem State.HoldsSound.retireDesc (h : s.HoldsSound) (unnamed : s.Unnamed d) :
    (s.onStore fun st => st.dropDirHold d true).HoldsSound := by
  by_cases unheld : (s.store.desc d).expHolds = 0
  · rw [State.onStore, RasterStore.dropDirHold, if_pos unheld]
    exact h.freeDesc unnamed unheld
  · rw [State.onStore, RasterStore.dropDirHold, if_neg unheld]
    exact h.setDesc (d := d) (g := fun st => st.setDesc d { s.store.desc d with dirHold := false, state := .retired })
      rfl ⟨rfl, Nat.pos_of_ne_zero unheld⟩ rfl (fun _ => ⟨rfl, rfl⟩) fun k hk => absurd hk (unnamed k)

/-- A FREE descriptor is taken. -/
theorem State.HoldsSound.takeDesc (h : s.HoldsSound) (free : (s.store.desc d).state = .free) (unnamed : s.Unnamed d)
    (v width height : Nat) : (s.onStore fun st => st.takeDesc d k v width height).HoldsSound := by
  have fit := h.fit d
  rw [Descriptor.HoldsFit, free] at fit
  exact h.setDesc (d := d) rfl ⟨rfl, rfl⟩ fit.2.symm (fun held => absurd fit.2 (Nat.ne_of_gt held))
    fun k hk => absurd hk (unnamed k)

/-- A descriptor that has changed in its strips and its size. -/
theorem State.HoldsSound.resize (h : s.HoldsSound) {x : Descriptor} {g : RasterStore → RasterStore}
    (table : (g s.store).table = s.store.table.set d.val x) (state : x.state = (s.store.desc d).state := by rfl)
    (key : x.key = (s.store.desc d).key := by rfl) (version : x.version = (s.store.desc d).version := by rfl)
    (dirHold : x.dirHold = (s.store.desc d).dirHold := by rfl)
    (expHolds : x.expHolds = (s.store.desc d).expHolds := by rfl) : (s.onStore g).HoldsSound := by
  refine h.setDesc table ?_ expHolds (fun _ => ⟨key, version⟩) fun _ _ => ⟨version, state⟩
  unfold Descriptor.HoldsFit
  rw [state, dirHold, expHolds]
  exact h.fit d

/-- The raster of a RECEIVING entry is FILLING, which no exposure holds (R45). -/
theorem State.HoldsSound.unheld_of_receiving (h : s.HoldsSound) (receiving : (s.page k).state = .receiving)
    (raster : (s.page k).raster = some d) : (s.store.desc d).expHolds = 0 := by
  have filling := (h.versions k d raster).2
  have fit := h.fit d
  rw [if_pos receiving] at filling
  rw [Descriptor.HoldsFit, filling] at fit
  exact fit.2

/-- A page completes: its raster becomes FILLED. -/
theorem State.HoldsSound.fillDesc (h : s.HoldsSound) (sound : s.StoreSound) (raster : (s.page k).raster = some d) :
    ((s.setPage k { s.page k with state := .complete }).onStore fun st => st.fillDesc d).HoldsSound := by
  have table : (s.store.fillDesc d).table = s.store.table.set d.val { s.store.desc d with state := .filled } := rfl
  refine h.swap (d := d) table (sound.2.2 k d raster).2.1 rfl (fun _ => ⟨rfl, rfl⟩) fun j => ?_
  show ((s.setPage k _).page j).Fits (s.store.fillDesc d)
  rw [State.page_setPage]
  split
  · refine ⟨iff_of_true (by rw [raster]; rfl) (.inr rfl), fun i hi => ?_⟩
    obtain rfl := Option.some.inj (raster.symm.trans hi)
    rw [RasterStore.desc_of_table table, if_pos rfl]
    exact ⟨(h.versions k d raster).1, rfl⟩
  · rename_i other
    refine (h.fits j).mono rfl rfl rfl fun i hi => ?_
    rw [RasterStore.desc_of_table table, if_neg]
    · exact ⟨rfl, rfl⟩
    · rintro rfl
      have key := (sound.2.2 k i raster).2.2.symm.trans (sound.2.2 j i hi).2.2
      exact other (Option.some.inj key).symm

end

end Sys2Proof.Machine
end

section
/-! SUPPORT. What most operations leave unchanged of all that the invariants of O58 look at. Each such operation carries the
relation `Still` one step further. -/

namespace Sys2Proof.Machine

set_option Elab.async false

/-- The record and the holds of a line's exposure in flight, and the setups of its tiles. -/
def Line.flight (ln : Line) : Option (Slot × List DescId) × List TileSetup :=
  (ln.exposure.map fun c => (c.slot, c.holds), ln.composer.tiles)

/-- From `s` to `t` no raster, strip, descriptor and hold has changed, nor the loaded fields and bound versions of a record
but for those of `free`. -/
structure Still (free : Slot → Prop) (s t : State) : Prop where
  page : ∀ k : PageIx, (t.page k).raster = (s.page k).raster ∧ (t.page k).state = (s.page k).state
    ∧ (t.page k).version = (s.page k).version
  strips : t.store.free = s.store.free
  table : t.store.table = s.store.table
  flight : ∀ l : LineId, (t.line l).flight = (s.line l).flight
  record : ∀ p : Slot, ¬ free p → (t.plate p).load = (s.plate p).load ∧ (t.plate p).bound = (s.plate p).bound

section
variable {free : Slot → Prop} {s t u : State}

theorem Still.refl (s : State) : Still free s s :=
  ⟨fun _ => ⟨rfl, rfl, rfl⟩, rfl, rfl, fun _ => rfl, fun _ _ => ⟨rfl, rfl⟩⟩

theorem Still.trans (h : Still free s t) (k : Still free t u) : Still free s u where
  page j := by
    obtain ⟨raster, state, version⟩ := h.page j
    obtain ⟨raster', state', version'⟩ := k.page j
    exact ⟨raster'.trans raster, state'.trans state, version'.trans version⟩
  strips := k.strips.trans h.strips
  table := k.table.trans h.table
  flight l := (k.flight l).trans (h.flight l)
  record p hp := by
    obtain ⟨load, bound⟩ := h.record p hp
    obtain ⟨load', bound'⟩ := k.record p hp
    exact ⟨load'.trans load, bound'.trans bound⟩

/-! ### The updates of the state -/

/-- A change of what `Still` does not speak of. -/
theorem Still.frame (h : Still free s t) (pages : u.pages = t.pages := by rfl)
    (strips : u.store.free = t.store.free := by rfl) (table : u.store.table = t.store.table := by rfl)
    (lines : u.lines = t.lines := by rfl) (plates : u.plates = t.plates := by rfl) : Still free s u :=
  h.trans
    { page := fun k => by rw [State.page, State.page, pages]; exact ⟨rfl, rfl, rfl⟩
      strips := strips
      table := table
      flight := fun l => by rw [State.line, State.line, lines]
      record := fun p _ => by rw [State.plate, State.plate, plates]; exact ⟨rfl, rfl⟩ }

theorem Still.setLine (h : Still free s t) (l : LineId) {ln : Line} (flight : ln.flight = (t.line l).flight := by rfl) :
    Still free s (t.setLine l ln) :=
  h.trans
    { Still.refl t with
      flight := fun m => by
        rw [State.line_setLine]
        split
        · rename_i same
          rw [flight, same]
        · rfl }

theorem Still.setPage (h : Still free s t) (k : PageIx) {e : PageEntry} (raster : e.raster = (t.page k).raster := by rfl)
    (state : e.state = (t.page k).state := by rfl) (version : e.version = (t.page k).version := by rfl) :
    Still free s (t.setPage k e) :=
  h.trans
    { Still.refl t with
      page := fun j => by
        rw [State.page_setPage]
        split
        · rename_i same
          subst same
          exact ⟨raster, state, version⟩
        · exact ⟨rfl, rfl, rfl⟩ }

/-- A record keeps its loaded fields and its bound versions, or need not. -/
theorem Still.setPlate' (h : Still free s t) (p : Slot) {r : PlateRecord}
    (same : ¬ free p → r.load = (t.plate p).load ∧ r.bound = (t.plate p).bound) : Still free s (t.setPlate p r) :=
  h.trans
    { Still.refl (free := free) t with
      record := fun q hq => by
        rw [State.plate_setPlate]
        split
        · rename_i e
          subst e
          exact same hq
        · exact ⟨rfl, rfl⟩ }

theorem Still.setPlate (h : Still free s t) (p : Slot) {r : PlateRecord} (load : r.load = (t.plate p).load := by rfl)
    (bound : r.bound = (t.plate p).bound := by rfl) : Still free s (t.setPlate p r) := h.setPlate' p fun _ => ⟨load, bound⟩

theorem Still.foldl {α : Type} {f : State → α → State} {as : List α}
    (hf : ∀ u, ∀ a ∈ as, Still free s u → Still free s (f u a)) (h : Still free s t) : Still free s (as.foldl f t) :=
  List.foldlRecOn (motive := Still free s) as f h fun u hu a ha => hf u a ha hu

theorem Still.report (h : Still free s t) (r : Report) : Still free s (t.report r) := h.frame
theorem Still.send (h : Still free s t) (l : LineId) (m : StationMessage) : Still free s (t.send l m) := h.frame
theorem Still.tell (h : Still free s t) : Still free s t.tell := h.frame
theorem Still.leaveReady (h : Still free s t) (p : Slot) : Still free s (t.leaveReady p) := h.frame
theorem Still.beginHanding (h : Still free s t) : Still free s t.beginHanding := h.frame
theorem Still.popHead (h : Still free s t) : Still free s t.popHead := h.frame
theorem Still.endStall (h : Still free s t) : Still free s t.endStall := h.frame

theorem Still.reportAll (h : Still free s t) (rs : List Report) : Still free s (t.reportAll rs) :=
  Still.foldl (fun _ r _ hu => hu.report r) h

theorem Still.request (h : Still free s t) (q : Request) : Still free s (t.onStore fun st => st.request q) :=
  h.frame rfl (RasterStore.request_mem t.store q).2.1 (RasterStore.request_mem t.store q).2.2

theorem Still.endHanding (h : Still free s t) : Still free s t.endHanding := by
  unfold State.endHanding RasterStore.grant
  split
  · split <;> exact h.frame
  · exact h

theorem Still.transmit (h : Still free s t) : Still free s t.transmit := by
  rw [State.transmit_eq]
  exact h.frame

theorem LinkOnly.still (h : LinkOnly s t) : Still free s t := by
  obtain ⟨_, _, _, rfl⟩ := h
  exact (Still.refl s).frame

/-! ### Lines -/

theorem Still.setMode (h : Still free s t) (l : LineId) (m : LineMode) : Still free s (t.setMode l m) := by
  unfold State.setMode
  split
  · exact h
  · exact ((h.setLine l).report _).tell

theorem Still.drainTest (h : Still free s t) (l : LineId) : Still free s (t.drainTest l) := by
  unfold State.drainTest
  split
  · exact h.setMode l _
  · exact h

theorem Still.endPause (h : Still free s t) (l : LineId) : Still free s (t.endPause l) := by
  unfold State.endPause
  split
  · exact h.setMode l _
  · exact h

theorem Still.holdTest (h : Still free s t) (l : LineId) : Still free s (t.holdTest l) := by
  unfold State.holdTest
  split
  case h_1 | h_3 => exact h.setMode l _
  case h_2 => exact (h.setMode l _).setMode l _
  all_goals exact h

theorem Still.afterEnd (h : Still free s t) (l : LineId) (hold : Bool) : Still free s (t.afterEnd l hold) := by
  unfold State.afterEnd
  split
  · exact h.holdTest l
  · exact (h.endPause l).drainTest l

theorem Still.stopLine (h : Still free s t) (l : LineId) : Still free s (t.stopLine l) := (h.setLine l).setMode l _

/-! ### The exposure in flight and its Composer -/

/-- An exposure changed in its marks. -/
theorem Line.flight_of_exposure {a b : Line} {c d : Exposure} (ha : a.exposure = some c) (hb : b.exposure = some d)
    (slot : d.slot = c.slot := by rfl) (holds : d.holds = c.holds := by rfl)
    (tiles : b.composer.tiles = a.composer.tiles := by rfl) : b.flight = a.flight := by
  rw [Line.flight, Line.flight, ha, hb, tiles, Option.map_some, Option.map_some, slot, holds]

theorem Still.compose (h : Still free s t) (n : Nat) (l : LineId) : Still free s (State.compose n l t) := by
  induction n generalizing t with
  | zero => exact h
  | succ n ih =>
    unfold State.compose
    dsimp only
    split
    · split
      · split
        · exact h
        · exact h.request _
      · exact ih (h.setLine l)
    · exact h

theorem Still.goTest (h : Still free s t) (l : LineId) : Still free s (t.goTest l) := by
  unfold State.goTest
  split
  · exact h
  · rename_i hc
    split
    · exact (h.setLine l (Line.flight_of_exposure hc rfl)).send l _
    · exact h

theorem Still.feedLine (h : Still free s t) (l : LineId) : Still free s (t.feedLine l) := (h.compose _ l).goTest l

theorem Still.abortExposure (h : Still free s t) (l : LineId) : Still free s (t.abortExposure l) := by
  unfold State.abortExposure
  split
  · exact h
  · rename_i hc
    split
    · exact h
    · exact (h.setLine l (Line.flight_of_exposure hc rfl)).send l _

theorem Still.applyAction (h : Still free s t) (p : Slot) (l : LineId) : Still free s (t.applyAction p l) := by
  unfold State.applyAction
  dsimp only
  split
  · exact (h.setPlate p).abortExposure l
  · exact h.setPlate p

theorem Still.takeAccept (h : Still free s t) (l : LineId) : Still free s (t.takeAccept l) := by
  unfold State.takeAccept
  split
  · exact h
  · rename_i c hc
    split
    · exact h
    · have answered := ((h.setLine l (ln := { t.line l with exposure := some c.accepted })
        (Line.flight_of_exposure hc rfl)).setPlate c.slot
          (r := { t.plate c.slot with pass := c.pass, withdraw := false })).report
            { kind := .exposureStarted, slot := some c.slot, line := some l, pass := some c.pass }
      unfold State.acceptBegin
      dsimp only
      split
      · exact (answered.applyAction _ l).goTest l
      · exact answered.goTest l

theorem Still.readCompletes (h : Still free s t) (r : ScanRead) : Still free s (t.readCompletes r) := by
  unfold State.readCompletes State.readHanded
  split
  · exact h.beginHanding.feedLine _
  · split
    · exact h.beginHanding
    · split
      · exact h.beginHanding
      · exact (h.beginHanding.setLine _).feedLine _

theorem Still.takeLineRequest (h : Still free s t) (l : LineId) : Still free s (t.takeLineRequest l) := by
  unfold State.takeLineRequest
  split
  · exact h
  · rename_i hc
    split
    · split
      · exact (h.setPlate _).abortExposure l
      · exact ((h.setLine l (Line.flight_of_exposure hc rfl)).send l _).feedLine l
    · exact h

/-! ### The Plate Plan -/

theorem Still.joinBack (h : Still free s t) (p : Slot) : Still free s (t.joinBack p) := by
  unfold State.joinBack
  split <;> exact h.frame

theorem Still.joinFront (h : Still free s t) (p : Slot) : Still free s (t.joinFront p) := by
  unfold State.joinFront
  split <;> exact h.frame

theorem Still.evaluate (h : Still free s t) (p : Slot) : Still free s (t.evaluate p) := by
  unfold State.evaluate
  split
  · exact ((h.setPlate p).joinBack p).tell
  · exact h

theorem Still.evaluateOn (h : Still free s t) (k : PageIx) : Still free s (t.evaluateOn k) :=
  Still.foldl (fun _ p _ hu => hu.evaluate p) h

theorem Still.remake (h : Still free s t) {p : Slot} (hp : free p) : Still free s (t.remake p) :=
  (h.setPlate' p fun hn => absurd hp hn).evaluate p

theorem Still.autoRemake (h : Still free s t) {p : Slot} (hp : free p) : Still free s (t.autoRemake p) := by
  unfold State.autoRemake
  split
  · exact h.remake hp
  · exact h

theorem Still.spoil (h : Still free s t) {p : Slot} (hp : free p) (c : Cause) : Still free s (t.spoil p c) :=
  (h.setPlate p).autoRemake hp

theorem Still.returnToReady (h : Still free s t) (p : Slot) : Still free s (t.returnToReady p) :=
  (h.setPlate p).joinFront p

theorem Still.foldr_returnToReady (h : Still free s t) (ps : List Slot) :
    Still free s (ps.foldr (fun p u => u.returnToReady p) t) := by
  induction ps with
  | nil => exact h
  | cons p ps ih => exact ih.returnToReady p

theorem Still.returnEntries (h : Still free s t) (l : LineId) (ps : List Slot) : Still free s (t.returnEntries l ps) := by
  unfold State.returnEntries
  split
  · exact h
  · exact (((h.setLine l).foldr_returnToReady ps).reportAll _).tell

theorem Still.faultLine (h : Still free s t) (l : LineId) (c : Cause) (p : Option Slot) :
    Still free s (t.faultLine l c p) := by
  unfold State.faultLine
  split
  · exact h.report _
  · exact ((((h.setLine l).report _).report _).returnEntries l _).tell

theorem Still.takeOut (h : Still free s t) (p : Slot) : Still free s (t.takeOut p) := by
  unfold State.takeOut
  split
  · exact h.leaveReady p
  · exact ((h.setLine _).tell).drainTest _
  · exact h

/-- An offer that only adds releases no page. -/
theorem Still.offerAdded (h : Still free s t) (added : List PageIx) : Still free s (t.offerDemand [] added) := by
  refine Still.foldl (fun u k _ hu => ?_) h
  unfold State.changeDemand
  dsimp only
  rw [if_neg]
  · exact hu.setPage k
  · rw [List.count_nil]
    omega

/-! ### A begin undone, and the stock class (R134, R135, R143) -/

theorem Still.withdrawRecord (h : Still free s t) (l : LineId) (p : Slot) : Still free s (t.withdrawRecord l p) :=
  ((h.setPlate p).report _).evaluate p

theorem Still.requeue (h : Still free s t) (l : LineId) (p : Slot) : Still free s (t.requeue l p) := by
  unfold State.requeue
  dsimp only
  split
  · exact ((h.setLine l).setPlate p).returnEntries l _
  · exact (h.setLine l).setPlate p

theorem Still.returnMismatch (h : Still free s t) (l : LineId) (p : Slot) : Still free s (t.returnMismatch l p) := by
  unfold State.returnMismatch
  split
  · exact h
  · exact h.returnEntries l _

theorem Still.refusedRecord (h : Still free s t) (l : LineId) (p : Slot) : Still free s (t.refusedRecord l p) := by
  unfold State.refusedRecord
  split
  · exact h.withdrawRecord l p
  · split
    · exact (h.returnToReady p).tell
    · exact (h.requeue l p).returnMismatch l p

theorem Still.changeStock (h : Still free s t) (l : LineId) (stock : Option Nat) : Still free s (t.changeStock l stock) := by
  unfold State.changeStock
  split
  · exact h
  · exact ((h.setLine l).returnEntries l _).drainTest l

/-! ### The walk (R101, R102) -/

theorem Still.walk (h : Still free s t) : Still free s t.walk := by
  refine Still.foldl (fun u p _ hu => ?_) h
  unfold State.walkOne
  split
  · exact hu
  · exact (((hu.leaveReady p).setPlate p).setLine _).report _

/-! ### The punch-bender and the sorter -/

theorem Still.deliverAtPunch (h : Still free s t) (l : LineId) (e : TransitEntry) : Still free s (t.deliverAtPunch l e) := by
  unfold State.deliverAtPunch
  split
  · exact (h.setLine l).send l _
  · split
    · exact (h.setLine l).send l _
    · exact h.setLine l

theorem Still.acceptArrival (h : Still free s t) (l : LineId) (e : TransitEntry) : Still free s (t.acceptArrival l e) := by
  unfold State.acceptArrival
  split
  · exact h.deliverAtPunch l e
  · exact (h.setLine l).send l _

theorem Still.takeArrival (h : Still free s t) (l : LineId) (mark : Option Nat) : Still free s (t.takeArrival l mark) := by
  unfold State.takeArrival State.matchArrival
  split
  · exact h.faultLine l _ _
  · split
    · exact h.faultLine l _ _
    · split
      · split
        · exact (h.report _).acceptArrival l _
        · split
          · exact h.acceptArrival l _
          · exact h.faultLine l _ _
      · exact h.acceptArrival l _

theorem Still.serveSetups (h : Still free s t) (n : Nat) (l : LineId) : Still free s (State.serveSetups n l t) := by
  induction n generalizing t with
  | zero => exact h
  | succ n ih =>
    unfold State.serveSetups
    split
    · exact ih (h.deliverAtPunch l _)
    · exact h

theorem Still.takeSetupDone (h : Still free s t) (l : LineId) : Still free s (t.takeSetupDone l) := by
  unfold State.takeSetupDone
  split
  · exact h
  · split
    · exact h
    · exact Still.serveSetups (((h.setLine l).setLine l).send l _) _ l

theorem Still.takeDone (h : Still free s t) (l : LineId) : Still free s (t.takeDone l) := by
  unfold State.takeDone
  split
  · exact h
  · split
    · exact h
    · exact h.setLine l

theorem Still.takePunchFault (h : Still free s t) (l : LineId) : Still free s (t.takePunchFault l) := by
  unfold State.takePunchFault
  dsimp only
  split
  · exact h.faultLine l _ _
  · exact (h.setLine l).faultLine l _ _

theorem Still.routeIfRoom (h : Still free s t) (l : LineId) (e : TransitEntry) : Still free s (t.routeIfRoom l e) := by
  unfold State.routeIfRoom
  split
  · exact (h.setLine l).send l _
  · exact h

theorem Line.flight_resumeDeadlines (ln : Line) : ln.resumeDeadlines.flight = ln.flight := by
  unfold Line.resumeDeadlines
  split <;> rfl

theorem Still.routeWaiting (h : Still free s t) (l : LineId) : Still free s (t.routeWaiting l) := by
  unfold State.routeWaiting
  split
  · exact h
  · exact (Still.foldl (fun _ e _ hu => hu.routeIfRoom l e) h).setLine l (Line.flight_resumeDeadlines _)

theorem Still.takeSorterArrival (h : Still free s t) (l : LineId) : Still free s (t.takeSorterArrival l) := by
  unfold State.takeSorterArrival State.arriveAtSorter
  split
  · exact h.faultLine l _ _
  · split
    · exact h.faultLine l _ _
    · split <;> exact (h.setLine l).send l _

theorem Still.fullTest (h : Still free s t) (l : LineId) (b : BinId) : Still free s (t.fullTest l b) := by
  unfold State.fullTest
  split
  · exact h.report _
  · exact h

theorem Still.takeEmptied (h : Still free s t) (l : LineId) (bin : Nat) : Still free s (t.takeEmptied l bin) := by
  unfold State.takeEmptied
  split
  · exact ((h.setLine l).report _).routeWaiting l
  · exact h

theorem Still.obsoleteInBin (h : Still free s t) (l : LineId) (b : BinId) {p : Slot} (hp : free p) :
    Still free s (t.obsoleteInBin l b p) := ((h.setPlate p).report _).autoRemake hp

theorem Still.rejected (h : Still free s t) (l : LineId) (b : BinId) {p : Slot} (hp : free p) (c : Cause) :
    Still free s (t.rejected l b p c) := ((h.setPlate p).report _).autoRemake hp

theorem Still.configure (h : Still free s t) (l : LineId) (c : LineConfig) (capacity : BinId → Nat) :
    Still free s (t.configure l c capacity) := ((h.setLine l).reportAll _).routeWaiting l

theorem Still.clearTransit (h : Still free s t) (l : LineId) (c : Cause)
    (hp : ∀ e ∈ (t.line l).transit, free e.slot) : Still free s (t.clearTransit l c) :=
  Still.foldl (fun _ e he hu => (hu.setLine l).spoil (hp e he) c) h

theorem Still.loadProfile (h : Still free s t) (f : ProfileId) (x : Profile) : Still free s (t.loadProfile f x) :=
  h.trans
    { Still.refl t with
      flight := fun l => by
        simp only [State.line, State.loadProfile, Vector.getElem_map]
        split <;> rfl }

/-! ### Supersession -/

theorem Still.supersedeOne (h : Still free s t) (k : PageIx) (w : Nat) {p : Slot}
    (hp : (t.plate p).state = .delivered → free p) : Still free s (State.supersedeOne k w t p) := by
  unfold State.supersedeOne
  split
  case h_1 => exact ((h.leaveReady p).setPlate p).tell
  case h_2 =>
    split
    · exact ((((h.setLine _).tell).setPlate p).report _).drainTest _
    · exact h
  case h_3 =>
    split
    · unfold State.supersedeExposing
      split
      · exact h
      · split
        · exact h.applyAction p _
        · exact h.setPlate p
    · exact h
  case h_4 =>
    split
    · unfold State.supersedeExposed
      split
      · exact h
      · dsimp only
        split
        · exact h.setPlate p
        · exact (h.setPlate p).setLine _
    · exact h
  case h_5 delivered => exact (((h.setPlate p).report _).offerAdded _).autoRemake (hp delivered)
  all_goals exact h

theorem Still.routeTurned (h : Still free s t) (turned : LineId → Bool) : Still free s (t.routeTurned turned) :=
  Still.foldl (fun _ l _ hu => hu.routeWaiting l) h

/-! ### Band Intake -/

theorem Still.stallReport (h : Still free s t) (b : Band) : Still free s (t.stallReport b) := by
  unfold State.stallReport
  split
  · exact h
  · exact h.frame

theorem Still.abandonHead (h : Still free s t) (k : PageIx) : Still free s (t.abandonHead k) := by
  unfold State.abandonHead
  split
  · split
    · exact h.frame
    · exact h
  · split
    · exact h.frame
    · exact h
  · exact h

end

end Sys2Proof.Machine
end

section
/-! SUPPORT. The rules of the invariants of O58 for what changes holds and rasters: an exposure that ends or begins, a page
that is released, broken or discarded. -/

namespace Sys2Proof.Machine

set_option Elab.async false

/-! ### Changes that the invariants do not look at -/

/-- No exposure in flight is of the record. -/
def State.Grounded (s : State) (p : Slot) : Prop :=
  ∀ (l : LineId) (c : Exposure), (s.line l).exposure = some c → c.slot ≠ p

/-- No exposure in flight is of a record with a tile on the key. -/
def State.Unflown (s : State) (k : PageIx) : Prop :=
  ∀ (l : LineId) (c : Exposure), (s.line l).exposure = some c → k ∉ (s.plate c.slot).load.keys

section
variable {free : Slot → Prop} {s t : State}

theorem Still.exposure (k : Still free s t) {l : LineId} {c : Exposure} (hc : (t.line l).exposure = some c) :
    ∃ c', (s.line l).exposure = some c' ∧ c'.slot = c.slot ∧ c'.holds = c.holds := by
  have flight := congrArg Prod.fst (k.flight l)
  simpa [Line.flight, hc, eq_comm] using flight

theorem Still.desc (k : Still free s t) (d : DescId) : t.store.desc d = s.store.desc d := by
  rw [RasterStore.desc, RasterStore.desc, k.table]

/-- An exposure of `s` is in flight in `t`. -/
theorem Still.grounded (k : Still free s t) {p : Slot} (h : t.Grounded p) : s.Grounded p := fun l c hc => by
  have flight := congrArg Prod.fst (k.flight l)
  obtain ⟨c', hc', slot⟩ : ∃ c', (t.line l).exposure = some c' ∧ c'.slot = c.slot := by
    simp only [Line.flight, hc, Option.map_some, Option.map_eq_some_iff, Prod.mk.injEq] at flight
    obtain ⟨c', hc', slot, -⟩ := flight
    exact ⟨c', hc', slot⟩
  exact slot ▸ h l c' hc'

/-- The invariant of strips and rasters looks at the free list, the descriptors and the rasters of the entries alone. -/
theorem State.StoreSound.frame (h : s.StoreSound) (raster : ∀ k, (t.page k).raster = (s.page k).raster)
    (strips : t.store.free = s.store.free) (table : t.store.table = s.store.table) : t.StoreSound := by
  obtain ⟨hstrips, hempty, hrasters⟩ := h
  have desc : ∀ d, t.store.desc d = s.store.desc d := fun d => by rw [RasterStore.desc, RasterStore.desc, table]
  refine ⟨?_, fun d => ?_, fun j d hd => ?_⟩
  · rw [RasterStore.StripsConserved, strips, table]
    exact hstrips
  · rw [desc]
    exact hempty d
  · rw [desc]
    exact hrasters j d ((raster j).symm.trans hd)

theorem State.StoreSound.still (h : s.StoreSound) (k : Still free s t) : t.StoreSound :=
  h.frame (fun j => (k.page j).1) k.strips k.table

theorem State.HoldsSound.still (h : s.HoldsSound) (k : Still free s t) (grounded : ∀ p, free p → s.Grounded p) :
    t.HoldsSound := by
  have record : ∀ {l c}, (s.line l).exposure = some c →
      (t.plate c.slot).load = (s.plate c.slot).load ∧ (t.plate c.slot).bound = (s.plate c.slot).bound :=
    fun hc => k.record _ fun hp => grounded _ hp _ _ hc rfl
  exact
    { fit := fun d => by rw [k.desc]; exact h.fit d
      counted := fun d => by
        rw [k.desc, h.counted]
        refine List.countP_congr fun l _ => ?_
        have flight := congrArg (fun f => f.1.any fun q => decide (d ∈ q.2)) (k.flight l)
        simp only [Line.flight, Option.any_map] at flight
        exact (congrArg (· = true) flight.symm).to_iff
      once := fun l c hc => by
        obtain ⟨c', hc', -, holds⟩ := k.exposure hc
        exact holds ▸ h.once l c' hc'
      held := fun l c hc d hd => by
        obtain ⟨c', hc', slot, holds⟩ := k.exposure hc
        rw [k.desc, ← slot, (record hc').1]
        exact h.held l c' hc' d (holds ▸ hd)
      reads := fun l c hc => by
        obtain ⟨c', hc', slot, holds⟩ := k.exposure hc
        obtain ⟨vs, bound, reads⟩ := h.reads l c' hc'
        rw [← slot, ← holds, (record hc').1, (record hc').2]
        refine ⟨vs, bound, fun i d g hi => ?_⟩
        rw [k.desc]
        exact reads i d g ((congrArg (fun f => f.2[i]?) (k.flight l)).symm.trans hi)
      rasters := fun j => by rw [(k.page j).1, (k.page j).2.1]; exact h.rasters j
      versions := fun j d hd => by
        rw [k.desc, (k.page j).2.1, (k.page j).2.2]
        exact h.versions j d ((k.page j).1.symm.trans hd) }

end

/-! ### Holds taken and released (R49, R50) -/

/-- A descriptor after the release of a hold: FREE when it was the last hold. -/
def Descriptor.released (x : Descriptor) : Descriptor :=
  if x.expHolds ≤ 1 ∧ x.dirHold = false then {} else { x with expHolds := x.expHolds - 1 }

/-- A descriptor after one more hold is taken. -/
def Descriptor.withHold (x : Descriptor) : Descriptor := { x with expHolds := x.expHolds + 1 }

theorem Descriptor.released_expHolds (x : Descriptor) : x.released.expHolds = x.expHolds - 1 := by
  unfold Descriptor.released
  split
  · exact (Nat.sub_eq_zero_of_le (by omega)).symm
  · rfl

/-- A descriptor with a hold left keeps its other fields. -/
theorem Descriptor.released_of_held {x : Descriptor} (h : 0 < x.released.expHolds ∨ x.dirHold = true) :
    x.released = { x with expHolds := x.expHolds - 1 } := by
  rw [Descriptor.released_expHolds] at h
  refine if_neg fun last => ?_
  rcases h with h | h
  · omega
  · exact Bool.noConfusion (last.2.symm.trans h)

theorem Descriptor.HoldsFit.released {x : Descriptor} (h : x.HoldsFit) (held : 0 < x.expHolds) : x.released.HoldsFit := by
  unfold Descriptor.HoldsFit at h
  unfold Descriptor.released
  split at h
  · omega
  · omega
  · rename_i filled
    rw [if_neg (by simp [h])]
    simpa [Descriptor.HoldsFit, filled] using h
  · rename_i retired
    split
    · exact ⟨rfl, rfl⟩
    · rename_i more
      simp only [Descriptor.HoldsFit, retired]
      have count : 1 < x.expHolds := by
        by_contra few
        exact more ⟨by omega, h.1⟩
      exact ⟨h.1, by omega⟩

theorem Descriptor.HoldsFit.withHold {x : Descriptor} (h : x.HoldsFit) (filled : x.state = .filled) :
    x.withHold.HoldsFit := by
  have still : x.withHold.state = .filled := filled
  unfold Descriptor.HoldsFit at h ⊢
  rw [filled] at h
  rw [still]
  exact h

/-- Operations that change one descriptor each: what they make of all the descriptors of a list without repeats. -/
theorem RasterStore.desc_foldl {op : RasterStore → DescId → RasterStore} {f : Descriptor → Descriptor}
    (hop : ∀ st e d, (op st e).desc d = if d = e then f (st.desc e) else st.desc d) {ds : List DescId} (once : ds.Nodup)
    (st : RasterStore) (d : DescId) : (ds.foldl op st).desc d = if d ∈ ds then f (st.desc d) else st.desc d := by
  induction ds generalizing st with
  | nil => rfl
  | cons e ds ih =>
    obtain ⟨he, hds⟩ := List.nodup_cons.mp once
    rw [List.foldl_cons, ih hds, hop]
    by_cases same : d = e
    · subst same
      rw [if_neg he, if_pos rfl, if_pos List.mem_cons_self]
    · simp only [List.mem_cons, same, false_or, if_false]

theorem RasterStore.desc_dropHold (st : RasterStore) (e d : DescId) :
    (st.dropHold e).desc d = if d = e then (st.desc e).released else st.desc d := by
  unfold RasterStore.dropHold Descriptor.released
  split <;> exact RasterStore.desc_setDesc st e d _

theorem RasterStore.desc_addHold (st : RasterStore) (e d : DescId) :
    (st.addHold e).desc d = if d = e then (st.desc e).withHold else st.desc d :=
  RasterStore.desc_setDesc st e d _

/-- One more line of all lines meets a condition. -/
theorem countP_allLines_switch {p q : LineId → Bool} {l : LineId} (off : p l = false) (on : q l = true)
    (others : ∀ m, m ≠ l → q m = p m) : allLines.countP q = allLines.countP p + 1 := by
  have split : ∀ r : LineId → Bool, allLines.countP r = (allLines.erase l).countP r + (r l).toNat := fun r => by
    rw [(List.perm_cons_erase (LineId.mem_allLines l)).countP_eq, List.countP_cons]
    cases r l <;> rfl
  have rest : (allLines.erase l).countP q = (allLines.erase l).countP p :=
    List.countP_congr fun m hm => by
      have other : m ≠ l := fun e => (List.Nodup.not_mem_erase (by decide)) (e ▸ hm)
      rw [others m other]
  rw [split q, split p, rest, off, on]
  rfl

/-! ### The end of an exposure (R49, R50) -/

section
variable {s t : State} {l : LineId} {c : Exposure} {k : PageIx} {d : DescId} {p : Slot}

theorem State.closeExposure_desc (s : State) (l : LineId) (once : c.holds.Nodup) (d : DescId) :
    (s.closeExposure l c).store.desc d = if d ∈ c.holds then (s.store.desc d).released else s.store.desc d :=
  RasterStore.desc_foldl RasterStore.desc_dropHold once _ d

/-- The exposures in flight once one has been closed. -/
theorem State.closeExposure_exposure (s : State) (l m : LineId) (c : Exposure) :
    ((s.closeExposure l c).line m).exposure = if m = l then none else (s.line m).exposure := by
  show ((State.setLine _ l _).line m).exposure = _
  rw [State.line_setLine]
  split <;> rfl

theorem State.closeExposure_exposed {m : LineId} (hm : ((s.closeExposure l c).line m).exposure = some c') :
    m ≠ l ∧ (s.closeExposure l c).line m = s.line m := by
  have other : m ≠ l := fun same => by
    rw [State.closeExposure_exposure, if_pos same] at hm
    cases hm
  refine ⟨other, ?_⟩
  show (State.setLine _ l _).line m = _
  rw [State.line_setLine, if_neg other]
  rfl

theorem State.StoreSound.closeExposure (h : s.StoreSound) (l : LineId) (c : Exposure) :
    (s.closeExposure l c).StoreSound :=
  have withdrawn : (s.onStore fun st => st.withdrawRead l).StoreSound := h.frame (fun _ => rfl) rfl rfl
  (withdrawn.dropHolds c.holds).frame (fun _ => rfl) rfl rfl

/-- The counts once an exposure has released its holds. -/
theorem State.HoldsSound.closeExposure_counted (h : s.HoldsSound) (hc : (s.line l).exposure = some c) :
    (s.closeExposure l c).HoldsCounted := fun d => by
  have once := h.once l c hc
  have counted := h.counted d
  rw [State.closeExposure_desc s l once]
  simp only [State.closeExposure_exposure]
  split
  · rename_i mem
    rw [Descriptor.released_expHolds, counted, countP_allLines_switch (l := l) (p := fun m =>
      (if m = l then none else (s.line m).exposure).any fun c => decide (d ∈ c.holds))]
    · exact Nat.add_sub_cancel _ 1
    · rw [if_pos rfl]
      rfl
    · rw [hc]
      exact decide_eq_true mem
    · intro m hm
      rw [if_neg hm]
  · rename_i absent
    rw [counted]
    refine List.countP_congr fun m _ => ?_
    split
    · rename_i same
      rw [same, hc]
      simpa using absent
    · rfl

/-- An exposure releases its holds. -/
theorem State.HoldsSound.closeExposure (h : s.HoldsSound) (sound : s.StoreSound) (hc : (s.line l).exposure = some c) :
    (s.closeExposure l c).HoldsSound := by
  have once := h.once l c hc
  have counted := h.closeExposure_counted hc
  have desc := State.closeExposure_desc s l once
  have held : ∀ {m c'}, ((s.closeExposure l c).line m).exposure = some c' → ∀ d ∈ c'.holds,
      ((s.closeExposure l c).store.desc d).key = (s.store.desc d).key
      ∧ ((s.closeExposure l c).store.desc d).version = (s.store.desc d).version := by
    intro m c' hm d hd
    have pos := counted.pos hm hd
    rw [desc] at pos ⊢
    split
    · rename_i mem
      rw [if_pos mem] at pos
      rw [Descriptor.released_of_held (.inl pos)]
      exact ⟨rfl, rfl⟩
    · exact ⟨rfl, rfl⟩
  exact
    { fit := fun d => by
        rw [desc]
        split
        · exact (h.fit d).released (State.HoldsCounted.pos h.counted hc ‹_›)
        · exact h.fit d
      counted := counted
      once := fun m c' hm => by
        rw [(State.closeExposure_exposed hm).2] at hm
        exact h.once m c' hm
      held := fun m c' hm d hd => by
        rw [(held hm d hd).1]
        rw [(State.closeExposure_exposed hm).2] at hm
        exact h.held m c' hm d hd
      reads := fun m c' hm => by
        have line := (State.closeExposure_exposed hm).2
        obtain ⟨vs, bound, reads⟩ := h.reads m c' (line ▸ hm)
        refine ⟨vs, bound, fun i d g hi => ?_⟩
        obtain ⟨mem, key, version⟩ := reads i d g (line ▸ hi)
        rw [(held hm d mem).1, (held hm d mem).2]
        exact ⟨mem, key, version⟩
      rasters := h.rasters
      versions := fun k d hd => by
        have named : (s.store.desc d).dirHold = true := (sound.2.2 k d hd).2.1
        refine ((h.fits k).mono (e' := s.page k) (st' := (s.closeExposure l c).store) rfl rfl rfl fun j hj => ?_).version d hd
        rw [desc]
        split
        · obtain rfl := Option.some.inj (hd.symm.trans hj)
          rw [Descriptor.released_of_held (.inr named)]
          exact ⟨rfl, rfl⟩
        · exact ⟨rfl, rfl⟩ }

/-! ### The begin of an exposure (R49, R131) -/

theorem mem_distinct {ds : List DescId} {d : DescId} : d ∈ distinct ds ↔ d ∈ ds := by
  have grows : ∀ acc : List DescId, d ∈ ds.foldl (fun acc d => if d ∈ acc then acc else acc ++ [d]) acc ↔ d ∈ acc ∨ d ∈ ds := by
    induction ds with
    | nil => simp
    | cons e ds ih =>
      intro acc
      rw [List.foldl_cons, ih]
      split
      · rename_i mem
        rw [List.mem_cons]
        constructor
        · exact Or.imp_right .inr
        · rintro (hd | rfl | hd)
          · exact .inl hd
          · exact .inl mem
          · exact .inr hd
      · rw [List.mem_append, List.mem_singleton, List.mem_cons, or_assoc]
  exact (grows []).trans (or_iff_right List.not_mem_nil)

theorem nodup_distinct (ds : List DescId) : (distinct ds).Nodup := by
  refine List.foldlRecOn (motive := List.Nodup) ds _ List.nodup_nil fun acc once d _ => ?_
  split
  · exact once
  · rename_i absent
    exact List.nodup_append.mpr ⟨once, List.nodup_singleton d, fun a ha b hb same =>
      absent (List.mem_singleton.mp hb ▸ same ▸ ha)⟩

theorem State.mem_rastersOf {x : PlateLoad} : d ∈ s.rastersOf x ↔ ∃ k ∈ x.keys, (s.page k).raster = some d :=
  mem_distinct.trans List.mem_filterMap

theorem State.nodup_rastersOf (s : State) (x : PlateLoad) : (s.rastersOf x).Nodup := nodup_distinct _

/-- The state as the record's exposure has begun on the line, before its reports and the first scan lines (R131). -/
def State.begun (s : State) (l : LineId) (p : Slot) (ln : Line) : State :=
  ((s.setLine l ln).setPlate p (s.seized p)).onStore fun st => (s.rastersOf (s.plate p).load).foldl RasterStore.addHold st

theorem State.StoreSound.begun (h : s.StoreSound) (l : LineId) (p : Slot) (ln : Line) : (s.begun l p ln).StoreSound :=
  State.StoreSound.addHolds _ (h.frame (t := (s.setLine l ln).setPlate p (s.seized p)) (fun _ => rfl) rfl rfl)

theorem State.begun_line (s : State) (l m : LineId) (p : Slot) (ln : Line) :
    (s.begun l p ln).line m = if m = l then ln else s.line m := State.line_setLine s l m ln

theorem State.begun_plate (s : State) (l : LineId) (p q : Slot) (ln : Line) :
    (s.begun l p ln).plate q = if q = p then s.seized p else s.plate q := State.plate_setPlate _ p q _

theorem State.begun_desc (s : State) (l : LineId) (p : Slot) (ln : Line) (d : DescId) : (s.begun l p ln).store.desc d =
    if d ∈ s.rastersOf (s.plate p).load then (s.store.desc d).withHold else s.store.desc d :=
  RasterStore.desc_foldl RasterStore.desc_addHold (s.nodup_rastersOf _) s.store d

/-- The setup of a tile that reads names the raster of the tile's page. -/
theorem State.raster_of_tileSetup {x : PlateLoad} {f : Profile} {tile : Tile} {g : TileGeometry}
    (h : s.tileSetup x f tile = .active d g) : (s.page (x.keyOf tile)).raster = some d := by
  unfold State.tileSetup at h
  split at h
  · cases h
  · rename_i raster
    split at h
    · cases h
    · cases h
      exact raster

/-- A tile that reads finds a raster of the record, of its own page and of the version that a begin binds. -/
theorem State.HoldsSound.reads_of_tileSetup (h : s.HoldsSound) (sound : s.StoreSound) {x : PlateLoad} {f : Profile} {i : Nat}
    {g : TileGeometry} (setup : (x.tiles.map (s.tileSetup x f))[i]? = some (.active d g)) :
    d ∈ s.rastersOf x ∧ (s.store.desc d).key = x.keys[i]?
    ∧ (x.keys.map fun k => (s.page k).version)[i]? = some (s.store.desc d).version := by
  rw [List.getElem?_map, Option.map_eq_some_iff] at setup
  obtain ⟨tile, ht, setup⟩ := setup
  have raster := State.raster_of_tileSetup setup
  have key : x.keys[i]? = some (x.keyOf tile) := by
    rw [PlateLoad.keys, List.getElem?_map, ht]
    rfl
  refine ⟨State.mem_rastersOf.mpr ⟨_, List.mem_of_getElem? key, raster⟩, ?_, ?_⟩
  · rw [(sound.2.2 _ _ raster).2.2, key]
  · rw [(h.versions _ _ raster).1, List.getElem?_map, key]
    rfl

/-- The counts once an exposure has taken its holds. -/
theorem State.HoldsSound.begun_counted (h : s.HoldsSound) (idle : (s.line l).exposure = none) {ln : Line}
    (hc : ln.exposure = some c) (holds : c.holds = s.rastersOf (s.plate p).load) : (s.begun l p ln).HoldsCounted := by
  intro d
  have counted := h.counted d
  rw [State.begun_desc]
  simp only [State.begun_line]
  split
  · rename_i mem
    rw [countP_allLines_switch (l := l) (p := fun m => (s.line m).exposure.any fun c => decide (d ∈ c.holds)), ← counted]
    · rfl
    · rw [idle]
      rfl
    · rw [if_pos rfl, hc]
      exact decide_eq_true (holds ▸ mem)
    · intro m hm
      rw [if_neg hm]
  · rename_i absent
    rw [counted]
    refine List.countP_congr fun m _ => ?_
    split
    · rename_i same
      rw [same, idle, hc]
      simpa [holds] using absent
    · rfl

/-- An exposure takes its holds: the rasters of COMPLETE pages, FILLED and of the versions bound. -/
theorem State.HoldsSound.begun (h : s.HoldsSound) (sound : s.StoreSound) (idle : (s.line l).exposure = none)
    (complete : s.pagesComplete p = true) (grounded : s.Grounded p) {ln : Line} {f : Profile}
    (hc : ln.exposure = some c) (slot : c.slot = p) (holds : c.holds = s.rastersOf (s.plate p).load)
    (tiles : ln.composer.tiles = (s.plate p).load.tiles.map (s.tileSetup (s.plate p).load f)) :
    (s.begun l p ln).HoldsSound := by
  have line := s.begun_line l (p := p) (ln := ln)
  have desc := s.begun_desc l p ln
  have same : ∀ d, ((s.begun l p ln).store.desc d).key = (s.store.desc d).key
      ∧ ((s.begun l p ln).store.desc d).version = (s.store.desc d).version
      ∧ ((s.begun l p ln).store.desc d).state = (s.store.desc d).state := fun d => by
    rw [desc]
    split <;> exact ⟨rfl, rfl, rfl⟩
  have load : ∀ q, ((s.begun l p ln).plate q).load = (s.plate q).load := fun q => by
    rw [State.begun_plate]
    split
    · rename_i e
      rw [e]
      rfl
    · rfl
  have named : ∀ {k d}, (s.page k).raster = some d → (s.store.desc d).key = some k :=
    fun hd => (sound.2.2 _ _ hd).2.2
  exact
    { fit := fun d => by
        rw [desc]
        split
        · rename_i mem
          obtain ⟨k, hk, raster⟩ := State.mem_rastersOf.mp mem
          have filled := (h.versions k d raster).2
          rw [State.pagesComplete_iff.mp complete k hk, if_neg PageState.noConfusion] at filled
          exact (h.fit d).withHold filled
        · exact h.fit d
      counted := h.begun_counted idle hc holds
      once := fun m c' hm => by
        rw [line] at hm
        split at hm
        · obtain rfl := Option.some.inj (hc.symm.trans hm)
          rw [holds]
          exact s.nodup_rastersOf _
        · exact h.once m c' hm
      held := fun m c' hm d hd => by
        rw [load, (same d).1]
        rw [line] at hm
        split at hm
        · obtain rfl := Option.some.inj (hc.symm.trans hm)
          obtain ⟨k, hk, raster⟩ := State.mem_rastersOf.mp (holds ▸ hd)
          exact ⟨k, slot ▸ hk, named raster⟩
        · exact h.held m c' hm d hd
      reads := fun m c' hm => by
        rw [load, line]
        rw [line] at hm
        split at hm
        · obtain rfl := Option.some.inj (hc.symm.trans hm)
          rw [if_pos ‹_›, State.begun_plate, if_pos slot, slot]
          refine ⟨_, rfl, fun i d g hi => ?_⟩
          rw [holds, (same d).1, (same d).2.1]
          exact h.reads_of_tileSetup sound (tiles ▸ hi)
        · rename_i other
          rw [if_neg other, State.begun_plate, if_neg (grounded m c' hm)]
          obtain ⟨vs, bound, reads⟩ := h.reads m c' hm
          refine ⟨vs, bound, fun i d g hi => ?_⟩
          rw [(same d).1, (same d).2.1]
          exact reads i d g hi
      rasters := h.rasters
      versions := fun k d hd => by
        rw [(same d).2.1, (same d).2.2]
        exact h.versions k d hd }

/-! ### A raster given up (R28, R38, R40) -/

/-- The raster of a page that no exposure flies is not held. -/
theorem State.HoldsSound.unheld (h : s.HoldsSound) (sound : s.StoreSound) (unflown : s.Unflown k)
    (raster : (s.page k).raster = some d) : (s.store.desc d).expHolds = 0 := by
  by_contra held
  rw [h.counted d] at held
  obtain ⟨l, -, hl⟩ := List.countP_pos_iff.mp (Nat.pos_of_ne_zero held)
  obtain ⟨c, hc, hd⟩ := (Option.any_eq_true _ _).mp hl
  obtain ⟨j, hj, key⟩ := h.held l c hc d (of_decide_eq_true hd)
  rw [(sound.2.2 k d raster).2.2] at key
  exact unflown l c hc (Option.some.inj key ▸ hj)

theorem State.StoreSound.giveUp (h : s.StoreSound) (raster : (s.page k).raster = some d) {e : PageEntry}
    (given : e.raster = none) (superseded : Bool) :
    ((s.setPage k e).onStore fun st => st.dropDirHold d superseded).StoreSound :=
  (h.setPage fun _ hd => nomatch given.symm.trans hd).dropDirHold
    (h.unnamed_of_given raster fun hd => nomatch given.symm.trans hd) superseded

theorem State.StoreSound.giveUpFree (h : s.StoreSound) (raster : (s.page k).raster = some d) {e : PageEntry}
    (given : e.raster = none) : ((s.setPage k e).onStore fun st => st.freeDesc d).StoreSound :=
  (h.setPage fun _ hd => nomatch given.symm.trans hd).freeDesc
    (h.unnamed_of_given raster fun hd => nomatch given.symm.trans hd)

/-- An entry gives up a raster that no exposure holds, and is RECEIVING and COMPLETE no more. -/
theorem State.HoldsSound.giveUpFree (h : s.HoldsSound) (sound : s.StoreSound) (raster : (s.page k).raster = some d)
    (unheld : (s.store.desc d).expHolds = 0) {e : PageEntry} (given : e.raster = none) (receiving : e.state ≠ .receiving)
    (complete : e.state ≠ .complete) : ((s.setPage k e).onStore fun st => st.freeDesc d).HoldsSound :=
  (h.setPage (.of_none _ given receiving complete)).freeDesc
    (sound.unnamed_of_given raster fun hd => nomatch given.symm.trans hd) unheld

theorem State.HoldsSound.giveUp (h : s.HoldsSound) (sound : s.StoreSound) (raster : (s.page k).raster = some d)
    (unheld : (s.store.desc d).expHolds = 0) {e : PageEntry} (given : e.raster = none) (receiving : e.state ≠ .receiving)
    (complete : e.state ≠ .complete) (superseded : Bool) :
    ((s.setPage k e).onStore fun st => st.dropDirHold d superseded).HoldsSound := by
  have freed : (s.setPage k e).onStore (fun st => st.dropDirHold d superseded) =
      (s.setPage k e).onStore fun st => st.freeDesc d := by
    rw [State.onStore, RasterStore.dropDirHold,
      if_pos (show ((s.setPage k e).store.desc d).expHolds = 0 from unheld)]
    rfl
  rw [freed]
  exact h.giveUpFree sound raster unheld given receiving complete

theorem State.StoreSound.releasePage (h : s.StoreSound) (k : PageIx) : (s.releasePage k).StoreSound := by
  unfold State.releasePage
  dsimp only
  split
  · exact (h.giveUp ‹_› rfl false).still (free := fun _ => False) ((Still.refl _).report _)
  · exact (h.setPage fun _ hd => by cases hd).still (free := fun _ => False) ((Still.refl _).report _)

theorem State.HoldsSound.releasePage (h : s.HoldsSound) (sound : s.StoreSound) (unflown : s.Unflown k) :
    (s.releasePage k).HoldsSound := by
  unfold State.releasePage
  dsimp only
  split
  · rename_i raster
    exact (h.giveUp sound raster (h.unheld sound unflown raster) rfl PageState.noConfusion PageState.noConfusion false).still
      (free := fun _ => False) ((Still.refl _).report _) fun _ => False.elim
  · exact (h.setPage (.of_none _ rfl PageState.noConfusion PageState.noConfusion)).still (free := fun _ => False)
      ((Still.refl _).report _) fun _ => False.elim

theorem State.StoreSound.changeDemand (h : s.StoreSound) (k : PageIx) (removed added : Nat) :
    (s.changeDemand k removed added).StoreSound := by
  have counted := h.still (free := fun _ => False) ((Still.refl s).setPage k
    (e := { s.page k with demand := (s.page k).demand + added - removed }))
  unfold State.changeDemand
  dsimp only
  split
  · exact counted.releasePage k
  · exact counted

/-- A fall of demand to 0 releases a page that no exposure flies. -/
theorem State.HoldsSound.changeDemand (h : s.HoldsSound) (sound : s.StoreSound) {removed added : Nat}
    (unflown : (s.page k).demand + added - removed = 0 → s.Unflown k) : (s.changeDemand k removed added).HoldsSound := by
  have still : Still (fun _ => False) s (s.setPage k
    { s.page k with demand := (s.page k).demand + added - removed }) := (Still.refl s).setPage k
  have counted := h.still still fun _ => False.elim
  unfold State.changeDemand
  dsimp only
  split
  · rename_i falls
    exact counted.releasePage (sound.still still) (unflown falls.2.1)
  · exact counted

theorem State.StoreSound.offerDemand (h : s.StoreSound) (removed added : List PageIx) :
    (s.offerDemand removed added).StoreSound :=
  List.foldlRecOn (motive := State.StoreSound) _ _ h fun _ hu k _ => hu.changeDemand k _ _

theorem DirectoryOnly.unflown (h : DirectoryOnly s t) (unflown : s.Unflown k) : t.Unflown k := by
  obtain ⟨_, _, _, rfl, -⟩ := h
  exact unflown

theorem State.HoldsSound.foldl_changeDemand {removed added ks : List PageIx} (h : s.HoldsSound) (sound : s.StoreSound)
    (once : ks.Nodup)
    (unflown : ∀ k ∈ ks, (s.page k).demand + added.count k - removed.count k = 0 → s.Unflown k) :
    (ks.foldl (fun s k => s.changeDemand k (removed.count k) (added.count k)) s).HoldsSound := by
  induction ks generalizing s with
  | nil => exact h
  | cons k ks ih =>
    obtain ⟨hk, hks⟩ := List.nodup_cons.mp once
    refine ih (h.changeDemand sound (unflown k List.mem_cons_self)) (sound.changeDemand k _ _) hks fun j hj falls => ?_
    have other : j ≠ k := fun same => hk (same ▸ hj)
    rw [State.changeDemand_page, if_neg other] at falls
    exact (s.changeDemand_only k _ _).unflown (unflown j (List.mem_cons_of_mem k hj) falls)

/-- A page of no demand is flown by no exposure, whose record would demand it (R37). -/
theorem Kept.unflown {x : Slack} (h : Kept x s) (demand : (s.page k).demand = 0) : s.Unflown k := fun l c hc hk => by
  obtain ⟨hand, state, -⟩ := h.of_exposure hc
  have sum := h.demand k
  rw [demand] at sum
  have own := Finset.sum_eq_zero_iff.mp sum.symm c.slot (Finset.mem_univ _)
  rw [State.claims, hand, Option.getD_none, PlateRecord.demandKeys_of_demands (by rw [state]; rfl)] at own
  exact List.count_eq_zero.mp own hk

/-- An offer of demand for a record that is out of hand releases no page that an exposure flies. -/
theorem State.HoldsSound.offerDemand {x : Slack} {removed : List PageIx} (h : s.HoldsSound) (sound : s.StoreSound)
    (kept : Kept (x.take p removed) s) (hand : x.hand p = none) (added : List PageIx) :
    (s.offerDemand removed added).HoldsSound := by
  refine h.foldl_changeDemand sound (sortedKeys_nodup _) fun k _ falls => ?_
  have demand : ((s.offerDemand removed added).page k).demand = 0 := by
    rw [State.offerDemand_page, PageEntry.netted_demand, falls]
  have unflown := (kept.offerDemand hand added).unflown demand
  obtain ⟨_, _, _, e, -⟩ := s.offerDemand_only removed added
  rw [e] at unflown
  exact unflown

end

end Sys2Proof.Machine
end

section
/-! SUPPORT. The invariants of O58 together, for strips and rasters in any state and for holds in a coherent one, through the
starts, the walks and Band Intake. -/

namespace Sys2Proof.Machine

set_option Elab.async false

/-- Strips and rasters are sound, and so are the holds of exposures where `M` (in the second half of O58). -/
structure Sound (M : Prop) (s : State) : Prop where
  store : s.StoreSound
  holds : M → s.HoldsSound

/-- So they are in a state that is coherent, but for the slack, where `M`. -/
structure Firm (M : Prop) (x : Slack) (s : State) : Prop extends Sound M s where
  kept : M → Kept x s

/-- The records that may be bound and loaded anew: where `M`, those of no exposure in flight. -/
def State.Spare (M : Prop) (s : State) (p : Slot) : Prop := M → s.Grounded p

section
variable {M : Prop} {x y : Slack} {s t : State} {l : LineId} {c : Exposure} {k : PageIx} {d : DescId} {p : Slot} {b : Band}

theorem Sound.still (h : Sound M s) (k : Still (s.Spare M) s t) : Sound M t :=
  ⟨h.store.still k, fun m => (h.holds m).still k fun _ hp => hp m⟩

theorem Firm.still (h : Firm M x s) (k : Still (s.Spare M) s t) (kept : M → Kept y t) : Firm M y t :=
  ⟨h.toSound.still k, kept⟩

/-- A record in hand, or in another state than EXPOSING, is flown by no exposure. -/
theorem Kept.grounded (h : Kept x s) (idle : x.hand p = none → (s.plate p).state ≠ .exposing) : s.Grounded p := by
  rintro l c hc rfl
  obtain ⟨hand, state, -⟩ := h.of_exposure hc
  exact idle hand state

theorem Kept.grounded_of_hand {ks : List PageIx} (h : Kept (x.take p ks) s) : s.Grounded p :=
  h.grounded fun hand => by
    rw [Slack.take_hand_self] at hand
    cases hand

/-! ### An exposure that ends or begins -/

theorem Sound.closeExposure (h : Sound M s) (hc : (s.line l).exposure = some c) : Sound M (s.closeExposure l c) :=
  ⟨h.store.closeExposure l c, fun m => (h.holds m).closeExposure h.store hc⟩

theorem Firm.closeExposure (h : Firm M x s) (hc : (s.line l).exposure = some c) :
    Firm M (x.take c.slot (s.plate c.slot).load.keys) (s.closeExposure l c) :=
  ⟨h.toSound.closeExposure hc, fun m => (h.kept m).closeExposure hc⟩

/-- A line as it begins the exposure of a record (R131). -/
def State.starting (s : State) (l : LineId) (p : Slot) (rest : List Slot) : Line :=
  let r := s.plate p
  let x := r.load
  let f := s.profile x.profile
  let m := markValue p (nextPass r.pass)
  { s.line l with
    queue := rest
    exposure := some { slot := p, pass := nextPass r.pass, mark := m, holds := s.rastersOf x }
    composer :=
      { tiles := x.tiles.map (s.tileSetup x f)
        mark := some { present := markFits x.width x.height f.mx f.my, value := m, mx := f.mx, my := f.my } } }

theorem State.beginExposure_eq {rest : List Slot} (hqueue : (s.line l).queue = p :: rest) :
    let x := (s.plate p).load
    s.beginExposure l = (((((s.begun l p (s.starting l p rest)).reportAll
      (s.setupReports l p x (s.profile x.profile))).send l (.exposeBegin p x.width x.height x.sizeClass
        (markValue p (nextPass (s.plate p).pass)))).tell).feedLine l) := by
  unfold State.beginExposure
  rw [hqueue]
  rfl

theorem Firm.beginExposure (h : Firm M {} s) (idle : (s.line l).exposure = none) : Sound M (s.beginExposure l) := by
  cases hqueue : (s.line l).queue with
  | nil =>
    unfold State.beginExposure
    rw [hqueue]
    exact h.toSound
  | cons p rest =>
    have queued : p ∈ (s.line l).queue := hqueue ▸ List.mem_cons_self
    have grounded : M → s.Grounded p := fun m => (h.kept m).grounded fun _ exposing => by
      have queued := (((h.kept m).mem_listed p (.on l .queue)).mp queued).1
      exact nomatch queued.symm.trans exposing
    have begun : Sound M (s.begun l p (s.starting l p rest)) :=
      ⟨h.store.begun l p _, fun m => (h.holds m).begun h.store idle ((h.kept m).complete_of_queue queued not_false)
        (grounded m) rfl rfl rfl rfl⟩
    rw [State.beginExposure_eq hqueue]
    exact begun.still (((((Still.refl _).reportAll _).send l _).tell).feedLine l)

theorem Firm.startTest (h : Firm M {} s) (l : LineId) : Sound M (s.startTest l) := by
  unfold State.startTest
  split
  · exact h.beginExposure (Line.transit_of_startReady _ ‹_›).1
  · exact h.toSound

/-! ### What every command ends with -/

theorem Firm.startLines (h : Firm M {} s) : Firm M {} s.startLines :=
  List.foldlRecOn (motive := Firm M {}) _ _ h fun _ hu l _ => ⟨hu.startTest l, fun m => (hu.kept m).startTest l⟩

theorem Firm.walks (h : Firm M {} s) (n : Nat) : Firm M {} (State.walks n s) := by
  induction n generalizing s with
  | zero => exact h
  | succ n ih =>
    have walked : Firm M {} { s with told := false }.walk :=
      h.still (Still.walk (Still.refl s).frame) fun m => ((h.kept m).frame (t := { s with told := false })).walk
    unfold State.walks
    dsimp only
    split
    · exact ih walked.startLines
    · exact walked.startLines

theorem Firm.settle (h : Firm M {} s) : Firm M {} s.settle := by
  unfold State.settle
  split
  · exact h.walks 5
  · exact h

theorem Firm.finish (h : Firm M {} s) : Firm M {} s.finish :=
  h.settle.still (Still.refl _).endHanding.transmit fun m => (h.kept m).finish

/-! ### Demand (R37, R38) -/

theorem Firm.offerDemand {removed : List PageIx} (h : Firm M (x.take p removed) s) (hand : x.hand p = none)
    (added : List PageIx) : Sound M (s.offerDemand removed added) :=
  ⟨h.store.offerDemand _ _, fun m => (h.holds m).offerDemand h.store (h.kept m) hand added⟩

theorem Firm.releasePage (h : Firm M x s) (demand : (s.page k).demand = 0) : Sound M (s.releasePage k) :=
  ⟨h.store.releasePage k, fun m => (h.holds m).releasePage h.store ((h.kept m).unflown demand)⟩

/-! ### Supersession (R77 to R89) -/

/-- No record of an exposure in flight is DELIVERED, and so none is remade by a supersession. -/
theorem Still.foldl_supersedeOne {ps : List Slot} (h : Still (s.Spare M) s t) (kept : M → Kept x t)
    (hand : ∀ q, x.hand q = none) (k : PageIx) (w : Nat) :
    Still (s.Spare M) s (ps.foldl (State.supersedeOne k w) t) := by
  induction ps generalizing x t with
  | nil => exact h
  | cons p ps ih =>
    refine ih (x := x.clear p) (h.supersedeOne k w fun delivered m => h.grounded ?_)
      (fun m => (kept m).supersedeOne (hand p) k w) hand
    exact (kept m).grounded fun _ exposing => nomatch delivered.symm.trans exposing

theorem Firm.supersede (h : Firm M x s) (hand : ∀ q, x.hand q = none) (k : PageIx) (w : Nat) :
    Sound M (s.supersede k w) :=
  h.toSound.still (((Still.refl s).foldl_supersedeOne h.kept hand k w).routeTurned _)

/-! ### Page entries (R21 to R36) -/

theorem Sound.breakPage (h : Sound M s) (receiving : M → (s.page k).state = .receiving) (cause : Cause) :
    Sound M (s.breakPage k cause) := by
  unfold State.breakPage
  dsimp only
  split
  · rename_i d raster
    have given : Sound M ((s.setPage k { s.page k with state := .broken, cause := some cause, raster := none }).onStore
        fun st => st.freeDesc d) :=
      ⟨h.store.giveUpFree raster rfl, fun m => (h.holds m).giveUpFree h.store raster
        ((h.holds m).unheld_of_receiving (receiving m) raster) rfl PageState.noConfusion PageState.noConfusion⟩
    exact given.still ((Still.refl _).report _)
  · have given : Sound M (s.setPage k { s.page k with state := .broken, cause := some cause, raster := none }) :=
      ⟨h.store.setPage fun _ hd => (by cases hd), fun m => (h.holds m).setPage
        (.of_none _ rfl PageState.noConfusion PageState.noConfusion)⟩
    exact given.still ((Still.refl _).report _)

theorem Sound.completePage (h : Sound M s) (receiving : M → (s.page k).state = .receiving) : Sound M (s.completePage k) := by
  unfold State.completePage
  dsimp only
  split
  · rename_i d raster
    have filled : Sound M ((s.setPage k { s.page k with state := .complete }).onStore fun st => st.fillDesc d) :=
      ⟨(h.store.setPage (e := { s.page k with state := .complete }) fun d hd => h.store.2.2 k d hd).fillDesc d, fun m =>
        (h.holds m).fillDesc h.store raster⟩
    exact filled.still (((Still.refl _).report _).evaluateOn k)
  · rename_i missing
    have completed : Sound M (s.setPage k { s.page k with state := .complete }) :=
      ⟨h.store.setPage fun d hd => h.store.2.2 k d hd, fun m => by
        have present := ((h.holds m).rasters k).mpr (.inl (receiving m))
        rw [missing] at present
        cases present⟩
    exact completed.still (((Still.refl _).report _).evaluateOn k)

theorem Sound.restartReception (h : Sound M s) (b : Band) : Sound M (s.restartReception b) := by
  unfold State.restartReception
  dsimp only
  split
  · exact h
  · rename_i d raster
    have restarted : Sound M (s.onStore fun st => st.restartDesc d b.width b.height) :=
      ⟨h.store.restartDesc raster _ _, fun m => (h.holds m).resize (d := d) (g := fun st => st.restartDesc d b.width b.height)
        rfl⟩
    exact restarted.still ((Still.refl _).setPage b.key)

/-- A reception begins in a FREE descriptor. -/
theorem Sound.receive (h : Sound M s) (free : (s.store.desc d).state = .free) (b : Band) :
    Sound M ((s.onStore fun st => st.takeDesc d b.key b.version b.width b.height).setPage b.key
      ((s.page b.key).receive b d)) := by
  have desc : (s.store.takeDesc d b.key b.version b.width b.height).desc d =
      { state := .filling, key := some b.key, version := b.version, width := b.width, height := b.height,
        perStrip := rowsPerStrip b.width, strips := [], dirHold := true, expHolds := 0 } :=
    (RasterStore.desc_setDesc s.store d d _).trans (if_pos rfl)
  refine ⟨(h.store.takeDesc (k := b.key) free b.version b.width b.height).setPage fun j hj => ?_, fun m =>
    ((h.holds m).takeDesc (k := b.key) free (h.store.unnamed_of_free free) b.version b.width b.height).setPage
      ⟨iff_of_true rfl (.inl rfl), fun j hj => ?_⟩⟩
  all_goals
    cases hj
    rw [State.onStore_store, desc]
  · exact ⟨DescState.noConfusion, rfl, rfl⟩
  · exact ⟨rfl, rfl⟩

/-- The entry's old raster, if any, is given up as the reception of a newer version begins. -/
theorem Sound.received (h : Sound M s) (free : (s.store.desc d).state = .free) (b : Band) : Sound M (s.received b d) := by
  have taken := h.receive free b
  unfold State.received
  dsimp only
  split
  · rename_i old raster
    have given : ((s.page b.key).receive b d).raster ≠ some old := fun same => by
      cases same
      exact (h.store.2.2 b.key d raster).1 free
    have unnamed : ((s.onStore fun st => st.takeDesc d b.key b.version b.width b.height).setPage b.key
        ((s.page b.key).receive b d)).Unnamed old :=
      (h.store.takeDesc (k := b.key) free b.version b.width b.height).unnamed_of_given raster given
    exact ⟨taken.store.dropDirHold unnamed true, fun m => (taken.holds m).retireDesc unnamed⟩
  · exact taken

/-- What the judgement of a band leaves, whatever its verdict. -/
theorem Firm.judge (h : Firm M {} s) (b : Band) : Sound M (s.judge b).1 := by
  rcases s.judge_cases b with ⟨c, e⟩ | ⟨receiving, e⟩ | ⟨-, e | e⟩ | ⟨-, -, -, e⟩ | ⟨positive, -, e⟩ <;> rw [e]
  · exact h.toSound.still ((Still.refl s).report _)
  · exact h.toSound.breakPage (fun _ => receiving) _
  · exact h.toSound
  · exact h.toSound.restartReception b
  · cases free : s.store.firstFree with
    | none =>
      rw [State.receiveAgain_waits free]
      exact h.toSound
    | some d =>
      rw [State.receiveAgain_takes free]
      exact h.toSound.receive (RasterStore.firstFree_some free).1 b
  · cases free : s.store.firstFree with
    | none =>
      rw [State.newReception_waits free]
      exact h.toSound
    | some d =>
      have received := h.toSound.received (RasterStore.firstFree_some free).1 b
      rw [State.newReception_takes free]
      split
      · exact received
      · have superseding : Firm M _ ((s.received b d).report (supersededReport b (s.page b.key).version)) :=
          ⟨received.still ((Still.refl _).report _), fun m =>
            ((h.kept m).received d positive fun _ => False.elim).report _⟩
        exact superseding.supersede (fun _ => rfl) _ _

/-! ### Rows and checks (R27 to R36) -/

theorem Sound.takeStrip (h : Sound M s) (raster : (s.page k).raster = some d) {st : RasterStore}
    (taken : s.store.takeStrip d = some st) : Sound M { s with store := st } := by
  refine ⟨h.store.takeStrip raster taken, fun m => ?_⟩
  unfold RasterStore.takeStrip at taken
  split at taken
  · cases taken
  · rename_i n rest _
    cases taken
    exact (h.holds m).resize (d := d) (g := fun st => { st with
      free := rest
      table := st.table.set d.val { s.store.desc d with strips := (s.store.desc d).strips ++ [n] } }) rfl

theorem Sound.requestWrite (h : Sound M s) (b : Band) (d : DescId) (row : Nat) : Sound M (s.requestWrite b d row) :=
  h.still ((Still.refl s).request _)

theorem Sound.startRow (h : Sound M s) (b : Band) : Sound M (s.startRow b) := by
  unfold State.startRow
  split
  · exact h
  · rename_i d raster
    dsimp only
    split
    · split
      · exact h.still (Still.stallReport (Still.refl s).frame b)
      · exact (h.takeStrip raster ‹_›).requestWrite b d _
    · exact h.requestWrite b d _

theorem Sound.lastBandDecision (h : Sound M s) (receiving : M → (s.page b.key).state = .receiving) :
    Sound M (s.lastBandDecision b) := by
  unfold State.lastBandDecision
  dsimp only
  split
  · split
    · exact h.completePage receiving
    · exact h.breakPage receiving _
  · exact h.breakPage receiving _

theorem Sound.acceptBand (h : Sound M s) (receiving : M → (s.page b.key).state = .receiving) :
    Sound M (s.acceptBand b).1 := by
  cases failure : s.acceptanceFailure b with
  | some c =>
    rw [State.acceptBand_of_failure failure]
    exact h.breakPage receiving c
  | none =>
    have accepted : Still (s.Spare M) s (s.acceptInto b) := (Still.refl s).setPage b.key
    rw [State.acceptBand_of_pass failure]
    split
    · exact (h.still accepted).lastBandDecision fun m => (accepted.page b.key).2.1.trans (receiving m)
    · exact (h.still accepted.frame).startRow b

/-! ### The head of the buffer (R19, R33) -/

theorem Firm.takeHeads (h : Firm M {} s) (n : Nat) : Sound M (s.takeHeads n) := by
  induction n generalizing s with
  | zero => exact h.toSound
  | succ n ih =>
    by_cases phase : s.intake.phase = none
    · cases buffer : s.intake.buffer with
      | nil =>
        rw [State.takeHeads_idle (.inr buffer)]
        exact h.toSound
      | cons b rest =>
        have judged : Sound M (s.judge b).1.endStall := (h.judge b).still (Still.refl _).endStall
        have kept := fun m => (h.kept m).judge b
        rw [State.takeHeads_head phase buffer]
        split
        · exact h.toSound.still (Still.stallReport (Still.refl s).frame b)
        · rename_i disposed
          rw [disposed] at kept
          refine ih ⟨judged.still (Still.refl _).popHead, fun m => ?_⟩
          obtain ⟨_, kept⟩ := kept m
          exact kept.endStall.popHead
        · rename_i accepted
          rw [accepted] at kept
          have checked := judged.acceptBand fun m => (kept m).2
          split
          · rename_i leaves
            refine ih ⟨checked.still (Still.refl _).popHead, fun m => ?_⟩
            have kept := (kept m).1.endStall.acceptBand ((s.judge_endStall_buffer b).trans buffer) (kept m).2
            rw [if_pos leaves] at kept
            obtain ⟨_, kept⟩ := kept
            exact kept.popHead
          · exact checked
    · rw [State.takeHeads_idle (.inl phase)]
      exact h.toSound

theorem Firm.runIntake (h : Firm M {} s) : Sound M s.runIntake := h.takeHeads _

/-- A head band that leaves its slot: Band Intake goes on. -/
theorem Firm.popAndRun (h : Firm M x s) (hand : x.hand = fun _ => none) (stale : x.stale = fun _ => False) :
    Sound M s.popHead.runIntake :=
  Firm.runIntake (h.still (Still.refl s).popHead fun m => by
    have popped := (h.kept m).popHead (loose := fun _ => False)
    rw [hand, stale] at popped
    exact popped)

theorem Firm.wakeIntake (h : Firm M {} s) : Sound M s.wakeIntake := by
  unfold State.wakeIntake
  split
  · split
    · exact h.toSound
    · exact (h.toSound.still (Still.endStall (Still.refl s).frame)).startRow _
  · split
    · exact h.toSound
    · exact Firm.runIntake (h.still (Still.refl s).frame fun m =>
        (h.kept m).intake (head := fun hp => absurd rfl hp)
          (writing := fun _ _ _ hp => by rcases hp with hp | hp <;> cases hp))
  · exact h.toSound

end

end Sys2Proof.Machine
end

section
/-! SUPPORT. The invariants of O58 through the effect of every event and of every control command that is carried out. -/

namespace Sys2Proof.Machine

set_option Elab.async false

section
variable {M : Prop} {s t : State} {l : LineId} {c : Exposure} {k : PageIx} {d : DescId} {p : Slot} {b : Band}

/-! ### Bands that arrive, and row writes (R6, R29, R32) -/

theorem Firm.disposeAbandoned (h : Firm M {} s) : Sound M s.disposeAbandoned := by
  unfold State.disposeAbandoned
  split
  · exact h.popAndRun rfl rfl
  · exact h.toSound

theorem Firm.overrunBand (h : Firm M {} s) (b : Band) : Sound M (s.overrunBand b) := by
  unfold State.overrunBand
  dsimp only
  split
  · rename_i broken
    have lost : Sound M ((s.report (droppedReport b .overrun)).breakPage b.key .overrun) :=
      (h.toSound.still ((Still.refl s).report _)).breakPage (fun _ => broken.1) _
    have abandoned : Firm M {} (((s.report (droppedReport b .overrun)).breakPage b.key .overrun).abandonHead b.key) :=
      ⟨lost.still ((Still.refl _).abandonHead _), fun m =>
        (((h.kept m).report _).breakPage broken.1 .overrun).abandonHead b.key fun j hj => .inl (hj.resolve_left id)⟩
    exact Firm.disposeAbandoned ⟨abandoned.wakeIntake, fun m => (abandoned.kept m).wakeIntake⟩
  · exact h.toSound.still ((Still.refl s).report _)

/-- A band joins the buffer behind the head in progress. -/
theorem Kept.buffered (h : Kept {} s) (b : Band) :
    Kept {} { s with intake := { s.intake with buffer := s.intake.buffer ++ [b] } } := by
  refine h.intake (head := fun _ => by simp) (writing := fun c rest hc hp _ => ?_)
  have taken : s.intake.phase ≠ none := fun e => by
    rcases hp with hp | hp <;> cases e.symm.trans hp
  obtain ⟨head, bands, buffer⟩ := List.exists_cons_of_ne_nil (h.head taken)
  simp only [buffer, List.cons_append, List.cons.injEq] at hc
  exact hc.1 ▸ h.writing head bands buffer hp not_false

theorem Firm.bandArrives (h : Firm M {} s) (body : List Byte) : Sound M (s.bandArrives body) := by
  unfold State.bandArrives State.offerBand
  split
  · exact h.toSound.still ((Still.refl s).report _)
  · split
    · exact Firm.runIntake (h.still (Still.refl s).frame fun m => (h.kept m).buffered _)
    · exact h.overrunBand _

theorem Firm.rowWritten (h : Firm M {} s) {rest : List Band} (buffer : s.intake.buffer = b :: rest)
    (phase : s.intake.phase = some .writing) : Sound M (s.rowWritten b) := by
  have counted : Still (s.Spare M) s (s.setPage b.key { s.page b.key with rows := (s.page b.key).rows + 1 }) :=
    (Still.refl s).setPage b.key
  have advanced : Firm M {} { s.setPage b.key { s.page b.key with rows := (s.page b.key).rows + 1 } with
      intake := { s.intake with nextRow := s.intake.nextRow + 1 } } :=
    h.still counted.frame fun m =>
      ((h.kept m).recount b.key (e := { s.page b.key with rows := (s.page b.key).rows + 1 })).frame
  have receiving : M → ((s.setPage b.key { s.page b.key with rows := (s.page b.key).rows + 1 }).page b.key).state =
      .receiving := fun m => (counted.page b.key).2.1.trans ((h.kept m).writing b rest buffer (.inl phase) not_false)
  unfold State.rowWritten
  dsimp only
  split
  · exact advanced.toSound.startRow b
  · split
    · have decided : Firm M { ({} : Slack) with loose := fun j => False ∨ j = b.key } _ :=
        ⟨advanced.toSound.lastBandDecision receiving, fun m =>
          (advanced.kept m).lastBandDecision (fun _ => rfl) (receiving m)⟩
      exact decided.popAndRun rfl rfl
    · exact advanced.popAndRun rfl rfl

theorem Firm.writeHanded (h : Firm M {} s) : Sound M s.writeHanded := by
  unfold State.writeHanded
  split
  · exact h.rowWritten ‹_› ‹_›
  · exact h.popAndRun rfl rfl
  · exact h.toSound

/-! ### DISCARD_PAGE (R40) -/

/-- An entry that no loaded record has a tile on takes its reset values, and its band in progress is abandoned. -/
theorem Kept.erasePage (h : Kept {} s) (free : ∀ p, k ∈ (s.plate p).load.keys → (s.plate p).state = .free) :
    Kept {} ((s.setPage k { demand := (s.page k).demand }).abandonHead k) := by
  have erased : Kept { ({} : Slack) with loose := fun j => j = k } (s.setPage k { demand := (s.page k).demand }) :=
    h.entry ⟨_, _, _, rfl, rfl⟩ (s.page_setPage k · _) (fun _ => id) (fun _ => False.elim) rfl (iff_of_true rfl rfl)
      (fun hl => absurd rfl hl) (fun p _ _ hk used _ => absurd (free p hk) used)
      fun p _ _ hk used _ => absurd (free p hk) used
  exact erased.abandonHead k fun _ => .inl

theorem Firm.discardPage (h : Firm M {} s) (k : PageIx) (unreferenced : s.referenced k = false) :
    Sound M (s.discardPage k) := by
  have free : ∀ p, k ∈ (s.plate p).load.keys → (s.plate p).state = .free := fun p hk => by
    by_contra used
    have referenced := State.referenced_iff.mpr ⟨p, used, hk⟩
    rw [unreferenced] at referenced
    cases referenced
  have unflown : M → s.Unflown k := fun m l c hc hk => by
    have exposing := ((h.kept m).of_exposure hc).2.1
    exact nomatch exposing.symm.trans (free c.slot hk)
  have erase : ∀ {u : State}, Sound M (u.setPage k { demand := (u.page k).demand }) → (M → Kept {} u) →
      u.plates = s.plates → Sound M ((u.setPage k { demand := (u.page k).demand }).abandonHead k).disposeAbandoned := by
    intro u sound kept plates
    refine Firm.disposeAbandoned ⟨sound.still ((Still.refl _).abandonHead k), fun m => (kept m).erasePage fun p hk => ?_⟩
    rw [State.plate, plates] at hk ⊢
    exact free p hk
  unfold State.discardPage
  dsimp only
  split
  · rename_i d raster
    rw [State.abandonHead_setPage]
    refine erase (u := s.onStore fun st => st.dropDirHold d false) ?_ (fun m => (h.kept m).onStore _) rfl
    exact ⟨h.store.giveUp raster rfl false, fun m => (h.holds m).giveUp h.store raster
      ((h.holds m).unheld h.store (unflown m) raster) rfl PageState.noConfusion PageState.noConfusion false⟩
  · rw [State.abandonHead_setPage]
    exact erase ⟨h.store.setPage fun _ hd => (by cases hd), fun m => (h.holds m).setPage
      (.of_none _ rfl PageState.noConfusion PageState.noConfusion)⟩ h.kept rfl

/-! ### Events of the exposure unit -/

theorem Firm.clearAbort (h : Firm M {} s) (l : LineId) : Sound M (s.clearAbort l) := by
  unfold State.clearAbort
  split
  · exact Firm.startTest (h.still ((Still.refl s).setLine l) fun m => (h.kept m).alikeLine l {}) l
  · exact h.toSound

theorem Firm.wakeAndTell (h : Firm M {} s) : Sound M s.wakeIntake.tell := h.wakeIntake.still (Still.refl _).tell

theorem Firm.timeoutBegin (h : Firm M {} s) (hc : (s.line l).exposure = some c) : Sound M (s.timeoutBegin l c) := by
  have flagged : Firm M {} ((s.send l .exposeAbort).setLine l { s.line l with resetAbort := true }) :=
    h.still (((Still.refl s).send l _).setLine l) fun m => ((h.kept m).send l _).alikeLine l {}
  have closed := flagged.closeExposure (l := l) (c := c) (by rw [State.line_setLine_self]; exact hc)
  exact Firm.wakeAndTell (closed.still (((Still.refl _).spoil (fun m => (closed.kept m).grounded_of_hand) _).faultLine l _ _)
    fun m => ((closed.kept m).spoil rfl (fun _ => rfl) .unitSilent).faultLine l _ _)

theorem Firm.takeEndFault (h : Firm M {} s) (l : LineId) : Sound M (s.takeEndFault l) := by
  unfold State.takeEndFault
  split
  · exact h.clearAbort l
  · rename_i c hc
    have closed := h.closeExposure hc
    exact Firm.wakeAndTell (closed.still
      (((Still.refl _).spoil (fun m => (closed.kept m).grounded_of_hand) _).faultLine l _ _)
      fun m => ((closed.kept m).spoil rfl (fun _ => rfl) .unitFault).faultLine l _ _)

/-- A begin undone: the record is in hand, its bound versions absent. -/
theorem Firm.undoBegin (h : Firm M {} s) (hc : (s.line l).exposure = some c) :
    Firm M (({} : Slack).take c.slot (s.plate c.slot).load.keys) (s.undoBegin l c) := by
  have closed := h.closeExposure hc
  exact closed.still ((Still.refl _).setPlate' c.slot fun hn => absurd (fun m => (closed.kept m).grounded_of_hand) hn)
    fun m => (h.kept m).undoBegin hc

theorem Firm.refuseBegin (h : Firm M {} s) (hc : (s.line l).exposure = some c) (unanswered : c.answered = false) :
    Sound M (s.refuseBegin l c) := by
  have plate := s.undoBegin_plate l c
  have undone := h.undoBegin hc
  refine Firm.wakeAndTell (undone.still ?_ fun m => Kept.drainTest (Kept.endPause ?_ l) l)
  · exact ((((Still.refl _).setLine l).refusedRecord l _).endPause l).drainTest l
  · have refused := (undone.kept m).alikeLine l (ln := { (s.undoBegin l c).line l with unitReady := false }) {}
    refine refused.refusedRecord rfl ?_ ?_ ?_ <;> rw [State.setLine_plate, plate]
    · exact fun _ => rfl
    · exact ((h.kept m).of_exposure hc).2.2
    · exact fun bare => State.pagesComplete_mono (s := s) (by rw [State.setLine_plate, plate]) (fun _ _ => id)
        ((h.kept m).complete_of_unanswered hc unanswered bare)

theorem Firm.takeRefuse (h : Firm M {} s) (l : LineId) : Sound M (s.takeRefuse l) := by
  unfold State.takeRefuse
  split
  · exact h.clearAbort l
  · split
    · exact h.clearAbort l
    · exact h.refuseBegin ‹_› (Bool.eq_false_iff.mpr ‹_›)

/-- The line as the unit's LOCAL refusal leaves it, before its fault (R135). -/
def State.refusedLocal (s : State) (l : LineId) (c : Exposure) : State :=
  (s.undoBegin l c).setLine l { (s.undoBegin l c).line l with unitLocal := true, unitReady := false }

theorem Kept.refusedLocal (h : Kept {} s) (hc : (s.line l).exposure = some c) :
    Kept (({} : Slack).take c.slot (s.plate c.slot).load.keys) (s.refusedLocal l c) := (h.undoBegin hc).alikeLine l {}

/-- The fault leaves the record in hand, with its pages as they were. -/
theorem Kept.refusedLocal_only (h : Kept {} s) (hc : (s.line l).exposure = some c) :
    ((s.refusedLocal l c).faultLine l .unitLocal (some c.slot)).plate c.slot = { s.plate c.slot with bound := none }
    ∧ ((s.refusedLocal l c).faultLine l .unitLocal (some c.slot)).pages = s.pages := by
  obtain ⟨pages, plates⟩ := (s.refusedLocal l c).faultLine_only l .unitLocal (some c.slot)
  exact ⟨(plates c.slot ((h.refusedLocal hc).absent (.on l .queue))).trans (s.undoBegin_plate l c), pages⟩

theorem Firm.refuseLocal (h : Firm M {} s) (hc : (s.line l).exposure = some c) (unanswered : c.answered = false) :
    Sound M (s.refuseLocal l c) := by
  have faulted : Firm M (({} : Slack).take c.slot (s.plate c.slot).load.keys)
      ((s.refusedLocal l c).faultLine l .unitLocal (some c.slot)) :=
    (h.undoBegin hc).still (((Still.refl _).setLine l).faultLine l _ _) fun m =>
      ((h.kept m).refusedLocal hc).faultLine l _ _
  refine Firm.wakeAndTell ?_
  show Firm M {} (if (((s.refusedLocal l c).faultLine l .unitLocal (some c.slot)).plate c.slot).withdraw = true then _
    else _)
  split
  · refine faulted.still ((Still.refl _).withdrawRecord l _) fun m => (faulted.kept m).withdrawRecord rfl ?_
    rw [((h.kept m).refusedLocal_only hc).1]
    exact fun _ => rfl
  · rename_i bare
    refine faulted.still ((Still.refl _).returnToReady _) fun m => ?_
    obtain ⟨plate, pages⟩ := (h.kept m).refusedLocal_only hc
    rw [plate] at bare
    refine (faulted.kept m).returnToReady rfl ?_ fun _ => ?_
    · rw [plate]
      exact fun _ => rfl
    · refine State.pagesComplete_mono (s := s) (by rw [plate]) (fun k _ hk => ?_)
        ((h.kept m).complete_of_unanswered hc unanswered (Bool.eq_false_iff.mpr bare))
      rw [State.page, pages]
      exact hk

theorem Firm.takeRefuseLocal (h : Firm M {} s) (l : LineId) : Sound M (s.takeRefuseLocal l) := by
  unfold State.takeRefuseLocal
  split
  · exact h.clearAbort l
  · split
    · exact h.clearAbort l
    · exact h.refuseLocal ‹_› (Bool.eq_false_iff.mpr ‹_›)

/-- The exposure is closed and its plate in transit, before the report (R140). -/
def State.imaged (s : State) (l : LineId) (c : Exposure) (normal : Bool) : State :=
  let r := (s.plate c.slot).ended normal
  ((s.closeExposure l c).setPlate c.slot r).setLine l
    (((s.closeExposure l c).line l).appendEntry c.slot c.mark (Doom.route r.doom) r.load.profile)

/-- What follows in `endExposure` once the plate is in transit: a report and tests of the line. -/
theorem State.endExposure_eq (s : State) (l : LineId) (c : Exposure) (cause : EndCause) :
    ∃ report hold, s.endExposure l c cause =
      ((((s.imaged l c (c.endsNormal cause (s.plate c.slot).load.height)).report report).afterEnd l
        hold).wakeIntake.startTest l).tell := ⟨_, _, rfl⟩

theorem Kept.imaged (h : Kept {} s) (hc : (s.line l).exposure = some c) (answered : c.answered = true) (normal : Bool) :
    Kept {} (s.imaged l c normal) := by
  obtain ⟨hand, state, line⟩ := h.of_exposure hc
  have bare : (s.plate c.slot).withdraw = false := by
    refine h.answered l c.slot ?_
    rw [Line.begun_of_some hc, answered]
  obtain ⟨load', bound', line', doom'⟩ := (s.plate c.slot).ended_eq normal
  have plate : ∀ r, ((s.closeExposure l c).setPlate c.slot r).plate c.slot = r := State.plate_setPlate_self _ _
  refine (h.closeExposure hc).enterTransit rfl (fun k => ?_) rfl (line'.trans line) (fun hd => ?_) _ _ _
  · rw [load']
  · exact State.Current.mono (s := s) (by rw [plate, load']) (by rw [plate, bound']) (fun _ _ => rfl)
      ((h.fresh c.slot hand not_false).exposing state bare (doom' hd))

theorem Firm.endExposure (h : Firm M {} s) (hc : (s.line l).exposure = some c) (answered : c.answered = true)
    (cause : EndCause) : Sound M (s.endExposure l c cause) := by
  obtain ⟨report, hold, ends⟩ := s.endExposure_eq l c cause
  obtain ⟨load, bound, -⟩ := (s.plate c.slot).ended_eq (c.endsNormal cause (s.plate c.slot).load.height)
  have closed := h.closeExposure hc
  have imaged : Firm M {} (s.imaged l c (c.endsNormal cause (s.plate c.slot).load.height)) :=
    closed.still (((Still.refl (s.closeExposure l c)).setPlate c.slot load bound).setLine l) fun m =>
      (h.kept m).imaged hc answered _
  have told := imaged.still (((Still.refl _).report report).afterEnd l hold) fun m =>
    ((imaged.kept m).report report).afterEnd l hold
  have woken : Firm M {} _ := ⟨told.wakeIntake, fun m => (told.kept m).wakeIntake⟩
  rw [ends]
  exact (woken.startTest l).still (Still.refl _).tell

theorem Firm.takeEnd (h : Firm M {} s) (l : LineId) (cause : EndCause) : Sound M (s.takeEnd l cause) := by
  unfold State.takeEnd
  split
  · exact h.clearAbort l
  · split
    · exact h.endExposure ‹_› ‹_› cause
    · exact h.toSound

theorem Firm.takeStatus (h : Firm M {} s) (l : LineId) (ready : Bool) (stock : Option Nat) (unitLocal : Bool) :
    Sound M (s.takeStatus l ready stock unitLocal) := by
  have heard : Firm M {} (s.setLine l { s.line l with unitLocal := unitLocal, unitReady := ready && !unitLocal }) :=
    h.still ((Still.refl s).setLine l) fun m => (h.kept m).alikeLine l {}
  have changed := heard.still ((Still.refl _).changeStock l stock) fun m => (heard.kept m).changeStock l stock
  exact (changed.startTest l).still (Still.refl _).tell

/-! ### Stacking (R90, R164, R165) -/

theorem Kept.grounded_of_transit (h : Kept {} s) {e : TransitEntry} (he : e ∈ (s.line l).transit) : s.Grounded e.slot :=
  h.grounded fun _ exposing => by
    have exposed := ((h.mem_listed e.slot (.on l .transit)).mp (List.mem_map_of_mem he)).1
    exact nomatch exposing.symm.trans exposed

theorem Firm.fate {e : TransitEntry} (h : Firm M (({} : Slack).take e.slot (s.plate e.slot).load.keys) s) (l : LineId)
    (b : BinId) : Sound M (s.fate l b e) := by
  have spare : s.Spare M e.slot := fun m => (h.kept m).grounded_of_hand
  unfold State.fate
  split
  · have landed : Firm M (({} : Slack).take e.slot (s.plate e.slot).load.keys) _ :=
      h.still (((Still.refl s).setPlate e.slot (r := (s.plate e.slot).landed .delivered (some (l, b)))).report
        { kind := .plateDelivered, slot := some e.slot, line := some l, pass := some (s.plate e.slot).pass, bin := some b })
        fun m => ((h.kept m).setPlate_hand (({} : Slack).take_hand_self _ _) _).report _
    exact landed.offerDemand rfl []
  · exact h.toSound.still ((Still.refl s).obsoleteInBin l b spare)
  · exact h.toSound.still ((Still.refl s).rejected l b spare _)
  · exact h.toSound.still ((Still.refl s).rejected l b spare _)

theorem Firm.stack (h : Firm M {} s) {e : TransitEntry} (he : e ∈ (s.line l).transit) (b : BinId) :
    Sound M (s.stack l b e) := by
  have mem : e.slot ∈ (s.line l).transit.map TransitEntry.slot := List.mem_map_of_mem he
  have left : Firm M (({} : Slack).take e.slot (s.plate e.slot).load.keys) (s.setLine l ((s.line l).stacked b e.slot)) :=
    h.still ((Still.refl s).setLine l) fun m => (h.kept m).dropEntry mem {}
  have landed : Firm M {} ((s.setLine l ((s.line l).stacked b e.slot)).fate l b e) :=
    ⟨Firm.fate (s := s.setLine l ((s.line l).stacked b e.slot)) left l b, fun m =>
      Kept.fate (s := s.setLine l ((s.line l).stacked b e.slot)) (left.kept m)
        (((h.kept m).fresh e.slot rfl not_false).exposed (((h.kept m).mem_listed e.slot (.on l .transit)).mp mem).1) l b⟩
  have woken : Firm M {} _ := ⟨landed.wakeIntake, fun m => (landed.kept m).wakeIntake⟩
  have tested : Firm M {} _ := woken.still ((Still.refl _).fullTest l b) fun m => (woken.kept m).fullTest l b
  exact (tested.startTest l).still ((Still.refl _).routeWaiting l)

theorem Firm.takeStacked (h : Firm M {} s) (l : LineId) (bin : Nat) : Sound M (s.takeStacked l bin) := by
  unfold State.takeStacked
  split
  · exact h.toSound
  · split
    · exact h.toSound.still ((Still.refl s).faultLine l _ _)
    · rename_i e oldest
      have he := earliest_mem oldest
      split
      · exact h.toSound
      · split
        · exact h.stack he _
        · exact h.toSound.still (Still.faultLine (((Still.refl s).setLine l).spoil
            (fun m => (h.kept m).grounded_of_transit he) _) l _ _)

/-! ### The line commands (R111, R112) -/

theorem Firm.abandonExposure (h : Firm M {} s) (l : LineId) : Firm M {} (s.abandonExposure l) := by
  refine ⟨?_, fun m => (h.kept m).abandonExposure l⟩
  unfold State.abandonExposure
  split
  · exact h.toSound
  · rename_i c hc
    have sent : Firm M {} (s.send l .exposeAbort) := h.still ((Still.refl s).send l _) fun m => (h.kept m).send l _
    have closed := sent.closeExposure hc
    exact closed.toSound.still (((Still.refl _).spoil (fun m => (closed.kept m).grounded_of_hand) _).setLine l)

theorem Firm.resetLine (h : Firm M {} s) (l : LineId) : Sound M (s.resetLine l) := by
  have abandoned := h.abandonExposure l
  have cleared := (Still.refl (free := (s.abandonExposure l).Spare M) (s.abandonExposure l)).clearTransit l .lineReset
    fun e he m => (abandoned.kept m).grounded_of_transit he
  exact abandoned.toSound.still ((((cleared.returnEntries l _).setLine l).stopLine l).tell)

/-! ### The plate commands (R62, R63, R68, R69) -/

theorem Firm.spare_of_idle (h : Firm M {} s) (idle : (s.plate p).state ≠ .exposing) : s.Spare M p := fun m =>
  (h.kept m).grounded fun _ => idle

theorem Firm.replacePlate (h : Firm M {} s) (flight : (s.plate p).state.inFlight = false) (x : PlateLoad) :
    Sound M (s.replacePlate p x) := by
  have left : Firm M (({} : Slack).take p (s.plate p).demandKeys) (s.leaveReady p) :=
    h.still ((Still.refl s).leaveReady p) fun m => (h.kept m).leaveReady rfl flight
  have spare : State.Spare M ((s.leaveReady p).offerDemand (s.plate p).demandKeys x.keys) p := fun m =>
    ((left.kept m).offerDemand rfl x.keys).grounded_of_hand
  exact (left.offerDemand rfl x.keys).still (((Still.refl _).setPlate' p fun hn => absurd spare hn).evaluate p)

theorem Firm.dropPlate (h : Firm M {} s) (exposing : (s.plate p).state ≠ .exposing)
    (exposed : (s.plate p).state ≠ .exposed) : Sound M (s.dropPlate p) := by
  have out : Firm M (({} : Slack).take p (s.plate p).demandKeys) (s.takeOut p) :=
    h.still ((Still.refl s).takeOut p) fun m => (h.kept m).takeOut exposing exposed
  have spare : State.Spare M ((s.takeOut p).offerDemand (s.plate p).demandKeys []) p := fun m =>
    ((out.kept m).offerDemand rfl []).grounded_of_hand
  exact (out.offerDemand rfl []).still ((Still.refl _).setPlate' p fun hn => absurd spare hn)

/-! ### Every effect -/

theorem Firm.happens (h : Firm M {} s) (k : Happens s t) : Sound M t := by
  have still := Still.refl (free := s.Spare M) s
  cases k with
  | bandArrives body => exact h.bandArrives body
  | bandWritten w =>
    exact Firm.writeHanded (h.still (Still.beginHanding still.frame) fun m => ((h.kept m).onStore _).beginHanding)
  | readCompletes r => exact h.toSound.still (still.readCompletes r)
  | beginTimeout l c hc => exact h.timeoutBegin hc
  | beginAccept l => exact h.toSound.still (still.takeAccept l)
  | beginRefuse l => exact h.takeRefuse l
  | beginRefuseLocal l => exact h.takeRefuseLocal l
  | lineRequest l => exact h.toSound.still (still.takeLineRequest l)
  | exposeEnd l cause => exact h.takeEnd l cause
  | exposeEndFault l => exact h.takeEndFault l
  | unitStatus l ready stock unitLocal => exact h.takeStatus l ready stock unitLocal
  | pbArrival l mark => exact h.toSound.still (still.takeArrival l mark)
  | pbSetupDone l => exact h.toSound.still (still.takeSetupDone l)
  | pbDone l => exact h.toSound.still (still.takeDone l)
  | pbFault l => exact h.toSound.still (still.takePunchFault l)
  | fault l cause p => exact h.toSound.still (still.faultLine l cause p)
  | soArrival l => exact h.toSound.still (still.takeSorterArrival l)
  | soStacked l bin => exact h.takeStacked l bin
  | soBinEmptied l bin => exact h.toSound.still (still.takeEmptied l bin)

theorem Firm.carries (h : Firm M {} s) (k : Carries s t) : Sound M t := by
  have still := Still.refl (free := s.Spare M) s
  cases k with
  | releasePage k _ demand => exact h.releasePage demand
  | loadFree p x free =>
    have spare := h.spare_of_idle (p := p) fun exposing => nomatch free.symm.trans exposing
    exact h.toSound.still (((still.setPlate' p fun hn => absurd spare hn).offerAdded _).evaluate p)
  | replacePlate p x flight => exact h.replacePlate flight x
  | dropPlate p exposing exposed => exact h.dropPlate exposing exposed
  | remakeDelivered p state =>
    exact h.toSound.still ((still.offerAdded _).remake
      (h.spare_of_idle fun exposing => nomatch state.symm.trans exposing))
  | remake p state =>
    refine h.toSound.still (still.remake (h.spare_of_idle fun exposing => ?_))
    rcases state with e | e <;> exact nomatch e.symm.trans exposing
  | lineConfig l config capacity => exact h.toSound.still (still.configure l config capacity)
  | lineStart l => exact Firm.startTest (h.still (still.setMode l _) fun m => (h.kept m).setMode l _) l
  | linePause l m => exact h.toSound.still (still.setMode l m)
  | lineDrain l =>
    exact Firm.startTest (h.still ((still.setMode l _).drainTest l) fun m => ((h.kept m).setMode l _).drainTest l) l
  | lineReset l => exact h.resetLine l
  | lineClearFault l =>
    exact h.toSound.still ((still.clearTransit l _ fun e he m => (h.kept m).grounded_of_transit he).stopLine l)
  | loadProfile f x => exact h.toSound.still (still.loadProfile f x)
  | binOpen l b => exact h.toSound.still ((still.setLine l).routeWaiting l)
  | binClose l b => exact h.toSound.still (still.setLine l)

theorem Firm.preserved (M : Prop) : Preserved (Firm M {}) where
  link h k := h.still k.still fun m => Kept.preserved.link (h.kept m) k
  event h k := ⟨h.happens k, fun m => (h.kept m).happens k⟩
  carried h k := ⟨h.carries k, fun m => (h.kept m).carries k⟩
  wake h := ⟨h.wakeIntake, fun m => (h.kept m).wakeIntake⟩
  settle h := h.settle
  finish h := h.finish

/-! ### The resets (R14) -/

/-- A state with no exposure in flight, and else as after reset in what the invariants look at. -/
theorem Sound.of_reset (M : Prop) (pages : t.pages = State.reset.pages) (plates : t.plates = State.reset.plates)
    (strips : t.store.free = State.reset.store.free) (table : t.store.table = State.reset.store.table)
    (exposure : ∀ l, (t.line l).exposure = none) (composer : ∀ l, (t.line l).composer = {}) : Sound M t := by
  have reset : Sound M State.reset := ⟨State.reset_storeSound, fun _ => State.reset_holdsSound⟩
  refine reset.still ⟨fun k => ?_, strips, table, fun l => ?_, fun p _ => ?_⟩
  · rw [State.page, State.page, pages]
    exact ⟨rfl, rfl, rfl⟩
  · rw [Line.flight, exposure, composer, State.reset_line]
    rfl
  · rw [State.plate, State.plate, plates]
    exact ⟨rfl, rfl⟩

theorem Firm.resetBlocks (M : Prop) (s : State) : Firm M {} { s.resetBlocks with powerCycle := s.powerCycle + 1 } := by
  have line : ∀ l, ({ s.resetBlocks with powerCycle := s.powerCycle + 1 } : State).line l =
      { fitted := (s.line l).fitted } :=
    fun l => by simp [State.line, State.resetBlocks]
  exact ⟨.of_reset M rfl rfl rfl rfl (fun l => by rw [line]) fun l => by rw [line], fun _ => .resetBlocks s⟩

theorem Firm.engineReset (M : Prop) (s : State) : Firm M {} s.engineReset := by
  have line : ∀ l, s.engineReset.line l = { fitted := (s.line l).fitted, resetAbort := (s.line l).exposure.isSome } :=
    fun l => by simp [State.line, State.engineReset]
  exact ⟨.of_reset M rfl rfl rfl rfl (fun l => by rw [line]) fun l => by rw [line], fun _ => .engineReset s⟩

theorem Firm.step (h : Firm M {} s) (k : Machine.step s = .next t) : Firm M {} t := by
  unfold Machine.step at k
  split at k
  · exact Host.Outcome.next.inj k ▸ h
  · rename_i c rest _
    have taken : Firm M {} { s with pending := rest } := h.still (Still.refl s).frame fun m => (h.kept m).frame
    exact (Firm.preserved M).exec c
      (fun _ _ k hu free => ⟨hu.discardPage k free, fun m => (hu.kept m).discardPage k free⟩)
      (fun _ => Firm.resetBlocks M _) (fun _ => Firm.engineReset M _) taken k

end

/-- Settles O58: one invariant for both halves, with coherence and holds asked in the second alone. -/
theorem stripsAreConserved : Obligations.StripsAreConserved := by
  refine ⟨fun s t sound h => ?_, fun s t coherent sound holds h => ?_⟩
  · have firm : Firm False {} s := ⟨⟨sound, False.elim⟩, False.elim⟩
    exact (firm.step h).store
  · have firm : Firm True {} s := ⟨⟨sound, fun _ => holds⟩, fun _ => coherent.kept⟩
    exact (firm.step h).holds trivial

end Sys2Proof.Machine
end

section
/-! SUPPORT. Runs from reset (R73): every state of a run is coherent. -/

namespace Sys2Proof.Machine

set_option Elab.async false

/-- A property that every step keeps holds all along a run that begins with it. -/
theorem forall_mem_of_isChain {α : Type} {R : α → α → Prop} {P : α → Prop} (keeps : ∀ a b, P a → R a b → P b)
    {states : List α} (run : List.IsChain R states) (first : ∀ a ∈ states.head?, P a) : ∀ a ∈ states, P a := by
  induction run with
  | nil => exact fun _ h => nomatch h
  | singleton a => exact List.forall_mem_singleton.mpr (first a rfl)
  | cons_cons step _ ih =>
    have start := first _ rfl
    refine List.forall_mem_cons.mpr ⟨start, ih fun b hb => ?_⟩
    obtain rfl := Option.some.inj hb
    exact keeps _ _ start step

/-- The state after reset is coherent whatever commands wait for it. -/
theorem State.reset_pending_coherent (commands : List Instr) : ({ State.reset with pending := commands } : State).Coherent :=
  Kept.coherent (State.reset_coherent.kept.frame)

/-- Settles O60: coherence holds at reset and every step keeps it, and a coherent state is safe. -/
theorem safeRuns : Obligations.SafeRuns := by
  intro commands states first run s hs
  refine (forall_mem_of_isChain coherenceIsKept run (fun a ha => ?_) s hs).delivered
  obtain rfl := Option.some.inj (first.symm.trans ha)
  exact State.reset_pending_coherent commands

end Sys2Proof.Machine
end

section
/-! SUPPORT. The routing of waiting plates (R163): after it no plate of the line waits for a bin that has room. -/

namespace Sys2Proof.Machine

set_option Elab.async false

section
variable {s t : State} {ln : Line} {e x : TransitEntry} {l m : LineId}

/-! ### An entry routed -/

/-- Of the entries of different slots one enters a stage: the others are as they were. -/
theorem Line.mem_enterStage_of_ne (p : Slot) (g : Stage) (deadline : Option Nat) (mem : x ∈ ln.transit)
    (other : x.slot ≠ p) : x ∈ (ln.enterStage p g deadline).transit :=
  List.mem_map.mpr ⟨x, mem, if_neg other⟩

/-- An entry found in another stage than the one entered is one of the others. -/
theorem Line.mem_of_mem_enterStage {p : Slot} {g : Stage} {deadline : Option Nat}
    (mem : x ∈ (ln.enterStage p g deadline).transit) (stage : x.stage ≠ g) : x ∈ ln.transit ∧ x.slot ≠ p := by
  obtain ⟨y, hy, rfl⟩ := List.mem_map.mp mem
  split at stage
  · exact absurd rfl stage
  · rename_i other
    rw [if_neg other]
    exact ⟨hy, other⟩

theorem Line.enterStage_slots (ln : Line) (p : Slot) (g : Stage) (deadline : Option Nat) :
    (ln.enterStage p g deadline).transit.map TransitEntry.slot = ln.transit.map TransitEntry.slot :=
  (Line.alike_enterStage ln p g deadline).transit

theorem TransitEntry.eq_of_slot {es : List TransitEntry} (once : (es.map TransitEntry.slot).Nodup) (hx : x ∈ es)
    (he : e ∈ es) (slot : x.slot = e.slot) : x = e := List.inj_on_of_nodup_map once hx he slot

/-- An entry that waits and is routed takes no other from its bin. -/
theorem Line.routedTo_le_enterStage (once : (ln.transit.map TransitEntry.slot).Nodup) (mem : e ∈ ln.transit)
    (stage : e.stage = .waitingBin) (g : Stage) (deadline : Option Nat) (b : BinId) :
    ln.routedTo b ≤ (ln.enterStage e.slot g deadline).routedTo b := by
  unfold Line.routedTo Line.enterStage Line.mapEntry
  rw [List.countP_map]
  refine List.countP_mono_left fun y hy routed => ?_
  have other : y.slot ≠ e.slot := fun slot => by
    rw [TransitEntry.eq_of_slot once hy mem slot, stage] at routed
    cases of_decide_eq_true routed
  rw [Function.comp_apply, if_neg other]
  exact routed

/-- A bin without room gets none where its own record is kept and no entry routed to it goes. -/
theorem Line.hasRoom_false_mono {a b : Line} {c : BinId} (bins : b.bins = a.bins) (routed : a.routedTo c ≤ b.routedTo c)
    (h : a.hasRoom c = false) : b.hasRoom c = false := by
  unfold Line.hasRoom Line.bin at h ⊢
  rw [bins]
  simp only [Bool.and_eq_false_iff, Bool.not_eq_false', decide_eq_false_iff_not] at h ⊢
  exact h.imp_right fun full => by omega

/-! ### What a routing leaves -/

theorem RoutesOnly.targetBin (h : RoutesOnly s t) (e : TransitEntry) : t.targetBin e = s.targetBin e := by
  obtain ⟨_, _, rfl⟩ := h
  rfl

theorem State.routeIfRoom_line_ne (s : State) (e : TransitEntry) (h : m ≠ l) :
    (s.routeIfRoom l e).line m = s.line m := by
  unfold State.routeIfRoom
  split
  · exact (State.line_setLine _ _ _ _).trans (if_neg h)
  · rfl

/-- The routing of a line's waiting plates leaves every other line. -/
theorem State.routeWaiting_line_ne (s : State) (h : m ≠ l) : (s.routeWaiting l).line m = s.line m := by
  unfold State.routeWaiting
  split
  · rfl
  · rw [State.line_setLine, if_neg h]
    exact List.foldlRecOn (motive := fun u : State => u.line m = s.line m) _ _ rfl
      fun u hu e _ => (u.routeIfRoom_line_ne e h).trans hu

/-! ### The plates tried for room, one by one -/

/-- No plate of the line waits for a bin that has room. -/
def State.WaitersBlocked (s : State) (l : LineId) : Prop :=
  ∀ e ∈ (s.line l).transit, e.stage = .waitingBin → (s.line l).hasRoom (s.targetBin e) = false

/-- Of a line's waiting entries those of `es` are still to be tried; the others have been, and found no room. -/
structure State.Trying (s : State) (l : LineId) (es : List TransitEntry) : Prop where
  slots : ((s.line l).transit.map TransitEntry.slot).Nodup
  once : (es.map TransitEntry.slot).Nodup
  waiting : ∀ e ∈ es, e ∈ (s.line l).transit ∧ e.stage = .waitingBin
  tried : ∀ e ∈ (s.line l).transit, e.stage = .waitingBin → e ∈ es ∨ (s.line l).hasRoom (s.targetBin e) = false

theorem State.Trying.start (slots : ((s.line l).transit.map TransitEntry.slot).Nodup) :
    s.Trying l ((s.line l).transit.filter fun e => decide (e.stage = .waitingBin)) where
  slots := slots
  once := slots.sublist (List.filter_sublist.map _)
  waiting e he := by simpa using he
  tried e he stage := .inl (List.mem_filter.mpr ⟨he, decide_eq_true stage⟩)

theorem State.Trying.step {es : List TransitEntry} (h : s.Trying l (e :: es)) : (s.routeIfRoom l e).Trying l es := by
  obtain ⟨slots, once, waiting, tried⟩ := h
  obtain ⟨first, once⟩ := List.nodup_cons.mp once
  obtain ⟨⟨mem, stage⟩, waiting⟩ := List.forall_mem_cons.mp waiting
  have target := (s.routeIfRoom_only l e).targetBin
  unfold State.routeIfRoom at target ⊢
  split
  · rename_i room
    rw [if_pos room] at target
    have line : (s.routeEntry l e.slot (s.targetBin e)).line l =
        (s.line l).enterStage e.slot (.atSorter (s.targetBin e)) (some (s.line l).config.tSo) :=
      State.line_setLine_self s l _
    refine ⟨?_, once, fun x hx => ?_, fun x hx wait => ?_⟩
    · rw [line, Line.enterStage_slots]
      exact slots
    · have other : x.slot ≠ e.slot := fun slot => first (slot ▸ List.mem_map_of_mem hx)
      rw [line]
      exact ⟨Line.mem_enterStage_of_ne _ _ _ (waiting x hx).1 other, (waiting x hx).2⟩
    · rw [line] at hx ⊢
      obtain ⟨old, other⟩ := Line.mem_of_mem_enterStage hx (by rw [wait]; exact nofun)
      refine (tried x old wait).imp (fun hmem => ?_) fun full => ?_
      · exact (List.mem_cons.mp hmem).resolve_left fun same => other (same ▸ rfl)
      · rw [target x]
        exact Line.hasRoom_false_mono (a := s.line l) rfl (Line.routedTo_le_enterStage slots mem stage _ _ _) full
  · rename_i room
    refine ⟨slots, once, waiting, fun x hx wait => ?_⟩
    refine (tried x hx wait).elim (fun hmem => ?_) .inr
    rcases List.mem_cons.mp hmem with rfl | hmem
    · exact .inr (Bool.eq_false_of_not_eq_true room)
    · exact .inl hmem

theorem State.Trying.all {es : List TransitEntry} (h : s.Trying l es) :
    (es.foldl (fun s e => s.routeIfRoom l e) s).Trying l [] := by
  induction es generalizing s with
  | nil => exact h
  | cons e es ih => exact ih h.step

/-- Fresh deadlines move no entry. -/
theorem Line.resumeDeadlines_eq (ln : Line) : ∃ f : TransitEntry → TransitEntry,
    (∀ e, (f e).slot = e.slot ∧ (f e).route = e.route ∧ (f e).stage = e.stage)
    ∧ ln.resumeDeadlines = { ln with transit := ln.transit.map f } := by
  unfold Line.resumeDeadlines
  split
  · exact ⟨id, fun e => ⟨rfl, rfl, rfl⟩, by rw [List.map_id]⟩
  · refine ⟨_, fun e => ?_, rfl⟩
    split <;> exact ⟨rfl, rfl, rfl⟩

/-- Where none waits for a bin with room, fresh deadlines change nothing of it. -/
theorem State.WaitersBlocked.resume (h : s.WaitersBlocked l) :
    (s.setLine l (s.line l).resumeDeadlines).WaitersBlocked l := by
  obtain ⟨f, same, e⟩ := (s.line l).resumeDeadlines_eq
  intro x hx stage
  rw [State.line_setLine_self, e] at hx ⊢
  obtain ⟨y, hy, rfl⟩ := List.mem_map.mp hx
  obtain ⟨slot, route, ystage⟩ := same y
  have target : (s.setLine l { s.line l with transit := (s.line l).transit.map f }).targetBin (f y) = s.targetBin y := by
    unfold State.targetBin
    rw [route, slot]
    rfl
  rw [target]
  refine Line.hasRoom_false_mono (a := s.line l) rfl ?_ (h y hy (ystage.symm.trans stage))
  unfold Line.routedTo
  rw [List.countP_map]
  exact List.countP_mono_left fun z _ routed => by rwa [Function.comp_apply, (same z).2.2]

/-- After the routing of a line's waiting plates none waits for a bin that has room (R163). -/
theorem State.routeWaiting_blocked (running : (s.line l).mode ≠ .faulted)
    (slots : ((s.line l).transit.map TransitEntry.slot).Nodup) : (s.routeWaiting l).WaitersBlocked l := by
  unfold State.routeWaiting
  split
  · rename_i h
    have none_waits := h.resolve_left running
    intro e he stage
    rw [Line.anyWaiting, List.any_eq_false] at none_waits
    exact absurd (decide_eq_true stage) (none_waits e he)
  · exact State.WaitersBlocked.resume fun e he stage =>
      ((State.Trying.start slots).all.tried e he stage).resolve_left List.not_mem_nil

/-! ### Several lines -/

theorem State.WaitersBlocked.other (h : s.WaitersBlocked l) (ne : l ≠ m) : (s.routeWaiting m).WaitersBlocked l := by
  intro e he stage
  rw [s.routeWaiting_line_ne ne] at he ⊢
  rw [(s.routeWaiting_only m).targetBin]
  exact h e he stage

/-- Of several lines routed one after the other each is left with none waiting for a bin that has room. -/
theorem State.foldl_routeWaiting_blocked {ls : List LineId} (once : ls.Nodup) (mem : l ∈ ls)
    (running : (s.line l).mode ≠ .faulted) (slots : ((s.line l).transit.map TransitEntry.slot).Nodup) :
    (ls.foldl State.routeWaiting s).WaitersBlocked l := by
  induction ls generalizing s with
  | nil => exact absurd mem List.not_mem_nil
  | cons m ls ih =>
    obtain ⟨hm, once⟩ := List.nodup_cons.mp once
    by_cases ne : l = m
    · subst ne
      exact List.foldlRecOn (motive := fun u : State => u.WaitersBlocked l) ls State.routeWaiting
        (State.routeWaiting_blocked running slots) fun u hu n hn => hu.other fun same => hm (same ▸ hn)
    · have same := s.routeWaiting_line_ne ne
      exact ih once ((List.mem_cons.mp mem).resolve_left ne) (by rwa [same]) (by rwa [same])

end

end Sys2Proof.Machine
end

section
/-! SUPPORT. Supersession, record by record (R77 to R89): one equation per state of the record. -/

namespace Sys2Proof.Machine

set_option Elab.async false

section
variable {s : State} {k : PageIx} {w : Nat} {p : Slot} {l : LineId}

/-! ### Records that wait and DELIVERED records (R80, R81, R89) -/

/-- A supersession leaves a record that waits for no version of its pages. -/
theorem State.supersedeOne_idle (state : (s.plate p).state = .free ∨ (s.plate p).state = .planned
    ∨ (s.plate p).state = .obsolete ∨ (s.plate p).state = .spoiled) : State.supersedeOne k w s p = s := by
  unfold State.supersedeOne
  rcases state with state | state | state | state <;> rw [state]

theorem State.supersedeOne_ready (state : (s.plate p).state = .ready) :
    State.supersedeOne k w s p = ((s.leaveReady p).setPlate p { s.plate p with state := .planned }).tell := by
  unfold State.supersedeOne
  rw [state]

theorem State.supersedeOne_queued (state : (s.plate p).state = .queued) (line : (s.plate p).line = some l) :
    State.supersedeOne k w s p = s.supersedeQueued p l := by
  unfold State.supersedeOne
  rw [state, line]

theorem State.supersedeOne_exposing (state : (s.plate p).state = .exposing) (line : (s.plate p).line = some l) :
    State.supersedeOne k w s p = s.supersedeExposing p l := by
  unfold State.supersedeOne
  rw [state, line]

theorem State.supersedeOne_exposed (state : (s.plate p).state = .exposed) (line : (s.plate p).line = some l) :
    State.supersedeOne k w s p = s.supersedeExposed p l := by
  unfold State.supersedeOne
  rw [state, line]

theorem State.supersedeOne_delivered (state : (s.plate p).state = .delivered) :
    State.supersedeOne k w s p = s.supersedeDelivered k w p := by
  unfold State.supersedeOne
  rw [state]

theorem State.autoRemake_auto (remake : (s.plate p).load.remake = .auto) : s.autoRemake p = s.remake p := if_pos remake

theorem State.autoRemake_manual (remake : (s.plate p).load.remake = .manual) : s.autoRemake p = s :=
  if_neg fun auto => by cases remake.symm.trans auto

/-- A DELIVERED record made OBSOLETE, with its report, before its demand is offered (R89). -/
def State.madeObsolete (s : State) (k : PageIx) (w : Nat) (p : Slot) : State :=
  (s.setPlate p { s.plate p with state := .obsolete, lastCause := some .obsolete }).report
    { kind := .plateObsolete, slot := some p, key := some (keyBytes k), version := some w,
      line := (s.plate p).place.map Prod.fst, bin := (s.plate p).place.map Prod.snd }

theorem State.supersedeDelivered_eq (s : State) (k : PageIx) (w : Nat) (p : Slot) : s.supersedeDelivered k w p =
    ((s.madeObsolete k w p).offerDemand [] (s.plate p).load.keys).autoRemake p := rfl

/-- Whether the record is remade is as it was loaded. -/
theorem State.madeObsolete_remake (s : State) (k : PageIx) (w : Nat) (p : Slot) (removed added : List PageIx) :
    (((s.madeObsolete k w p).offerDemand removed added).plate p).load.remake = (s.plate p).load.remake := by
  rw [State.offerDemand_plate, State.madeObsolete, State.report_plate, State.plate_setPlate_self]

/-! ### Records being imaged (R82, R84, R85) -/

theorem State.applyAction_eq (s : State) (p : Slot) (l : LineId) : s.applyAction p l =
    if (s.plate p).load.action = .abort then (s.setPlate p ((s.plate p).withDoom .obsolete)).abortExposure l
    else s.setPlate p ((s.plate p).withDoom .obsolete) := rfl

theorem State.abortExposure_sent {c : Exposure} (exposure : (s.line l).exposure = some c) (sent : c.abortSent = true) :
    s.abortExposure l = s := by
  unfold State.abortExposure
  rw [exposure]
  exact if_pos sent

theorem State.abortExposure_unsent {c : Exposure} (exposure : (s.line l).exposure = some c)
    (unsent : c.abortSent = false) : s.abortExposure l =
      (s.setLine l { s.line l with exposure := some { c with abortSent := true }, feed := [] }).send l .exposeAbort := by
  unfold State.abortExposure
  rw [exposure]
  exact if_neg (by rw [unsent]; decide)

theorem State.supersedeExposing_unanswered {c : Exposure} (exposure : (s.line l).exposure = some c)
    (unanswered : c.answered = false) :
    s.supersedeExposing p l = s.setPlate p { s.plate p with withdraw := true } := by
  unfold State.supersedeExposing
  rw [exposure]
  exact if_neg (by rw [unanswered]; decide)

theorem State.supersedeExposing_answered {c : Exposure} (exposure : (s.line l).exposure = some c)
    (answered : c.answered = true) : s.supersedeExposing p l = s.applyAction p l := by
  unfold State.supersedeExposing
  rw [exposure]
  exact if_pos answered

/-! ### Records in transit (R87, R88) -/

theorem TransitEntry.routedBin_isSome (e : TransitEntry) : e.routedBin.isSome = true ↔ ∃ b, e.stage = .atSorter b := by
  unfold TransitEntry.routedBin
  cases e.stage <;> simp

/-- An entry that SO_ROUTE has sent on, or one already turned, keeps its route. -/
theorem State.supersedeExposed_keeps {e : TransitEntry} (entry : (s.line l).entryOf p = some e)
    (kept : (∃ b, e.stage = .atSorter b) ∨ e.route ≠ .deliver) :
    s.supersedeExposed p l = s.setPlate p ((s.plate p).withDoom .obsolete) := by
  unfold State.supersedeExposed
  rw [entry]
  exact if_pos (kept.imp_left e.routedBin_isSome.mpr)

/-- Any other entry is turned to REJECT. -/
theorem State.supersedeExposed_turns {e : TransitEntry} (entry : (s.line l).entryOf p = some e)
    (route : e.route = .deliver) (unrouted : ∀ b, e.stage ≠ .atSorter b) :
    s.supersedeExposed p l = (s.setPlate p ((s.plate p).withDoom .obsolete)).setLine l
      ((s.line l).mapEntry p fun e => { e with route := .reject .obsolete }) := by
  unfold State.supersedeExposed
  rw [entry]
  refine if_neg (not_or.mpr ⟨fun routed => ?_, not_not.mpr route⟩)
  obtain ⟨b, hb⟩ := e.routedBin_isSome.mp routed
  exact unrouted b hb

end

section
variable {s t u : State} {p : Slot} {l : LineId}

/-! ### What a supersession leaves of a line -/

/-- From `s` to `t` every line has kept its transit entries, whatever has become of their routes, and none has become
FAULTED. -/
structure TransitKept (s t : State) : Prop where
  slots : ∀ l, (t.line l).transit.map TransitEntry.slot = (s.line l).transit.map TransitEntry.slot
  running : ∀ l, (s.line l).mode ≠ .faulted → (t.line l).mode ≠ .faulted

theorem TransitKept.refl (s : State) : TransitKept s s := ⟨fun _ => rfl, fun _ => id⟩

/-- A change that leaves the lines. -/
theorem TransitKept.frame (h : TransitKept s t) (lines : u.lines = t.lines := by rfl) : TransitKept s u := by
  have same : ∀ l, u.line l = t.line l := fun l => by rw [State.line, lines, State.line]
  exact ⟨fun l => by rw [same, h.slots], fun l hl => by rw [same]; exact h.running l hl⟩

theorem TransitKept.setLine (h : TransitKept s t) (l : LineId) {ln : Line}
    (slots : ln.transit.map TransitEntry.slot = (t.line l).transit.map TransitEntry.slot := by rfl)
    (running : (t.line l).mode ≠ .faulted → ln.mode ≠ .faulted := by exact id) : TransitKept s (t.setLine l ln) := by
  refine ⟨fun m => ?_, fun m hm => ?_⟩ <;> rw [State.line_setLine] <;> split
  · subst m
    exact slots.trans (h.slots l)
  · exact h.slots m
  · subst m
    exact running (h.running l hm)
  · exact h.running m hm

theorem TransitKept.setPlate (h : TransitKept s t) (p : Slot) (r : PlateRecord) : TransitKept s (t.setPlate p r) := h.frame
theorem TransitKept.tell (h : TransitKept s t) : TransitKept s t.tell := h.frame

theorem TransitKept.send (h : TransitKept s t) (l : LineId) (m : StationMessage) : TransitKept s (t.send l m) := h.frame

theorem TransitKept.drainTest (h : TransitKept s t) (l : LineId) : TransitKept s (t.drainTest l) := by
  unfold State.drainTest State.setMode
  split
  · split
    · exact h
    · exact (h.setLine l (ln := { t.line l with mode := .stopped }) rfl fun _ => nofun).frame
  · exact h

theorem TransitKept.supersedeQueued (h : TransitKept s t) (p : Slot) (l : LineId) :
    TransitKept s (t.supersedeQueued p l) := by
  have out : TransitKept s (t.leaveQueue l p) := (h.setLine l).tell
  exact TransitKept.drainTest out.frame l

theorem TransitKept.abortExposure (h : TransitKept s t) (l : LineId) : TransitKept s (t.abortExposure l) := by
  unfold State.abortExposure
  split
  · exact h
  · split
    · exact h
    · exact (h.setLine l).send l _

theorem TransitKept.supersedeExposing (h : TransitKept s t) (p : Slot) (l : LineId) :
    TransitKept s (t.supersedeExposing p l) := by
  unfold State.supersedeExposing State.applyAction
  split
  · exact h
  · split
    · dsimp only
      split
      · exact (h.setPlate p _).abortExposure l
      · exact h.setPlate p _
    · exact h.setPlate p _

theorem TransitKept.supersedeExposed (h : TransitKept s t) (p : Slot) (l : LineId) :
    TransitKept s (t.supersedeExposed p l) := by
  unfold State.supersedeExposed
  split
  · exact h
  · dsimp only
    split
    · exact h.setPlate p _
    · exact (h.setPlate p _).setLine l
        (Line.alike_mapEntry _ p (f := fun e => { e with route := .reject .obsolete }) fun _ => rfl).transit

theorem State.evaluate_lines (s : State) (p : Slot) : (s.evaluate p).lines = s.lines := by
  unfold State.evaluate State.joinBack
  split
  · split <;> rfl
  · rfl

theorem State.autoRemake_lines (s : State) (p : Slot) : (s.autoRemake p).lines = s.lines := by
  unfold State.autoRemake
  split
  · exact State.evaluate_lines _ p
  · rfl

theorem State.supersedeDelivered_lines (s : State) (k : PageIx) (w : Nat) (p : Slot) :
    (s.supersedeDelivered k w p).lines = s.lines := by
  obtain ⟨_, _, _, e, -⟩ := (s.madeObsolete k w p).offerDemand_only [] (s.plate p).load.keys
  rw [State.supersedeDelivered_eq, State.autoRemake_lines, e]
  rfl

theorem TransitKept.supersedeOne (h : TransitKept s t) (k : PageIx) (w : Nat) (p : Slot) :
    TransitKept s (State.supersedeOne k w t p) := by
  unfold State.supersedeOne
  split
  case h_1 => exact h.frame
  case h_2 =>
    split
    · exact h.supersedeQueued p _
    · exact h
  case h_3 =>
    split
    · exact h.supersedeExposing p _
    · exact h
  case h_4 =>
    split
    · exact h.supersedeExposed p _
    · exact h
  case h_5 => exact h.frame (t.supersedeDelivered_lines k w p)
  all_goals exact h

/-! ### The supersession of all records on a key (R77, R87) -/

/-- A supersession of the key turns a waiting plate of the line. -/
theorem State.turnsWaiting_iff {k : PageIx} : (s.line l).turnsWaiting (s.slotsOn k) = true ↔
    ∃ e ∈ (s.line l).transit, e.stage = .waitingBin ∧ e.route = .deliver ∧ k ∈ (s.plate e.slot).load.keys := by
  simp [Line.turnsWaiting, State.slotsOn]

/-- On a line where it has turned a waiting plate, a supersession leaves none waiting for a bin that has room. -/
theorem State.supersede_blocked {k : PageIx} (turned : (s.line l).turnsWaiting (s.slotsOn k) = true)
    (running : (s.line l).mode ≠ .faulted) (slots : ((s.line l).transit.map TransitEntry.slot).Nodup) (w : Nat) :
    (s.supersede k w).WaitersBlocked l := by
  have folded : TransitKept s ((s.slotsOn k).foldl (State.supersedeOne k w) s) :=
    List.foldlRecOn (motive := TransitKept s) _ _ (TransitKept.refl s) fun _ hu p _ => hu.supersedeOne k w p
  have once : allLines.Nodup := by decide
  have listed : ∀ m : LineId, m ∈ allLines := by decide
  refine State.foldl_routeWaiting_blocked (once.filter _) (List.mem_filter.mpr ⟨listed l, turned⟩)
    (folded.running l running) ?_
  rw [folded.slots l]
  exact slots

end

/-- Settles O24: the supersession of one record by its state, and of a DELIVERED record by its remake. -/
theorem idleRecordsAreSuperseded : Obligations.IdleRecordsAreSuperseded := by
  refine ⟨fun s k w p => ⟨State.supersedeOne_idle, fun state => ?_, fun l state line => ?_⟩,
    fun s k w p state => ⟨fun manual => ?_, fun auto => ?_⟩⟩
  · rw [State.supersedeOne_ready state]
    rfl
  · rw [State.supersedeOne_queued state line]
    rfl
  · rw [State.supersedeOne_delivered state, State.supersedeDelivered_eq,
      State.autoRemake_manual ((s.madeObsolete_remake k w p _ _).trans manual)]
    rfl
  · rw [State.supersedeOne_delivered state, State.supersedeDelivered_eq,
      State.autoRemake_auto ((s.madeObsolete_remake k w p _ _).trans auto)]
    rfl

/-- Settles O25: a record being imaged by its begin, one in transit by its entry, and the turned plates by their routing. -/
theorem workingRecordsAreSuperseded : Obligations.WorkingRecordsAreSuperseded := by
  refine ⟨fun s k w p l c state line exposure => ⟨fun unanswered => ?_, fun answered kept => ?_,
      fun answered abort unsent => ?_⟩,
    fun s k w p l e state line entry => ⟨fun kept => ?_, fun route unrouted => ?_⟩,
    fun s k w => ⟨?_, fun l turned running slots => s.supersede_blocked (State.turnsWaiting_iff.mpr turned) running slots w⟩⟩
  · rw [State.supersedeOne_exposing state line, State.supersedeExposing_unanswered exposure unanswered]
    rfl
  · rw [State.supersedeOne_exposing state line, State.supersedeExposing_answered exposure answered, State.applyAction_eq]
    split
    · rename_i abort
      have sent : c.abortSent = true := kept.resolve_left (by rw [abort]; decide)
      rw [State.abortExposure_sent (by rw [State.setPlate_line]; exact exposure) sent]
      rfl
    · rfl
  · rw [State.supersedeOne_exposing state line, State.supersedeExposing_answered exposure answered, State.applyAction_eq,
      if_pos abort, State.abortExposure_unsent (by rw [State.setPlate_line]; exact exposure) unsent]
    rfl
  · rw [State.supersedeOne_exposed state line, State.supersedeExposed_keeps entry kept]
    rfl
  · rw [State.supersedeOne_exposed state line, State.supersedeExposed_turns entry route unrouted]
    rfl
  · have turns : (fun l : LineId => (s.line l).turnsWaiting (s.slotsOn k)) = fun l => decide (∃ e ∈ (s.line l).transit,
        e.stage = .waitingBin ∧ e.route = .deliver ∧ k ∈ (s.plate e.slot).load.keys) :=
      funext fun l => Bool.eq_iff_iff.mpr (State.turnsWaiting_iff.trans decide_eq_true_iff.symm)
    rw [State.supersede, turns]
    rfl

end Sys2Proof.Machine
end

section
/-! SUPPORT. The Plate Plan's commands (R60 to R69): the operations they are made of, each with what it leaves of a record,
the ready list and the demand. -/

namespace Sys2Proof.Machine

set_option Elab.async false

section
variable {s : State} {p q : Slot} {l : LineId}

/-! ### The ready list (R97) -/

theorem State.joinBack_ready (s : State) (p : Slot) : (s.joinBack p).ready =
    if s.urgent p then s.ready.takeWhile s.urgent ++ p :: s.ready.dropWhile s.urgent else s.ready ++ [p] := by
  unfold State.joinBack
  split <;> rfl

theorem State.joinBack_plates (s : State) (p : Slot) : (s.joinBack p).plates = s.plates := by
  unfold State.joinBack
  split <;> rfl

/-- A record rewritten in its class leaves every record's class. -/
theorem State.urgent_setPlate {r : PlateRecord} (priority : r.load.priority = (s.plate p).load.priority) :
    (s.setPlate p r).urgent = s.urgent := by
  funext q
  unfold State.urgent
  rw [State.plate_setPlate]
  split
  · rw [priority, ‹q = p›]
  · rfl

/-- A list is parted at the same place by two tests that agree on it. -/
theorem takeWhile_dropWhile_congr {α : Type} {u v : α → Bool} {as : List α} (agree : ∀ a ∈ as, u a = v a) :
    as.takeWhile u = as.takeWhile v ∧ as.dropWhile u = as.dropWhile v := by
  induction as with
  | nil => exact ⟨rfl, rfl⟩
  | cons a as ih =>
    obtain ⟨head, tail⟩ := List.forall_mem_cons.mp agree
    rw [List.takeWhile_cons, List.takeWhile_cons, List.dropWhile_cons, List.dropWhile_cons, head, (ih tail).1, (ih tail).2]
    exact ⟨rfl, rfl⟩

/-! ### Readiness (R64) -/

/-- The readiness of a PLANNED record, evaluated. -/
theorem State.evaluate_planned (planned : (s.plate p).state = .planned) : s.evaluate p =
    if s.pagesComplete p then ((s.setPlate p { s.plate p with state := .ready }).joinBack p).tell else s := by
  unfold State.evaluate
  simp only [planned, true_and]

theorem State.evaluate_plate_self (planned : (s.plate p).state = .planned) : (s.evaluate p).plate p =
    { s.plate p with state := if s.pagesComplete p then .ready else .planned } := by
  rw [State.evaluate_planned planned]
  split
  · rw [State.tell_plate, State.plate, State.joinBack_plates]
    exact State.plate_setPlate_self s p _
  · rw [← planned]

theorem State.evaluate_plate_ne (ne : q ≠ p) : (s.evaluate p).plate q = s.plate q := by
  rcases s.evaluate_cases p with e | ⟨-, -, e⟩
  · rw [e]
  · rw [e, State.tell_plate, State.plate, State.joinBack_plates]
    exact (State.plate_setPlate s p q _).trans (if_neg ne)

theorem State.evaluate_told (planned : (s.plate p).state = .planned) :
    (s.evaluate p).told = (s.told || s.pagesComplete p) := by
  rw [State.evaluate_planned planned]
  split
  · rename_i complete
    rw [complete, Bool.or_true]
    rfl
  · rename_i incomplete
    rw [Bool.eq_false_of_not_eq_true incomplete, Bool.or_false]

theorem State.evaluate_ready (planned : (s.plate p).state = .planned) : (s.evaluate p).ready =
    if s.pagesComplete p = false then s.ready
    else if (s.plate p).load.priority = .urgent then s.ready.takeWhile s.urgent ++ p :: s.ready.dropWhile s.urgent
    else s.ready ++ [p] := by
  rw [State.evaluate_planned planned]
  cases s.pagesComplete p with
  | false => rfl
  | true =>
    rw [if_pos rfl, if_neg (by decide), State.tell_ready, State.joinBack_ready,
      State.urgent_setPlate (r := { s.plate p with state := .ready }) rfl]
    simp only [State.urgent, State.setPlate_ready, decide_eq_true_eq]

/-! ### Demand (R66) -/

/-- Records that are FREE or DELIVERED hold no demand. -/
theorem PlateRecord.demandKeys_eq (r : PlateRecord) :
    r.demandKeys = if r.state = .free ∨ r.state = .delivered then [] else r.load.keys := by
  unfold PlateRecord.demandKeys
  cases r.state <;> rfl

theorem State.offerDemand_lists (s : State) (removed added : List PageIx) :
    (s.offerDemand removed added).ready = s.ready ∧ (s.offerDemand removed added).told = s.told
    ∧ (s.offerDemand removed added).lines = s.lines := by
  obtain ⟨_, _, _, e, -⟩ := s.offerDemand_only removed added
  rw [e]
  exact ⟨rfl, rfl, rfl⟩

/-! ### Commands of a slot (R68) -/

section
variable {f : ControlFrame} {code : Byte}

/-- A command of a slot above 511 is refused. -/
theorem taking_slot_refused {a b : Byte} (run : Slot → State → State × Answer) (h : s.Offers f code [a, b])
    (hcode : code ≠ 0x20) (shape : (code.toNat, 2) ∈ fixedShapes) (slot : 511 < a.toNat + 256 * b.toNat) :
    taking code.toNat (fun args s => checked (slotFields args) s (run (slotOperand args) s)) s =
      .next (s.replied f code { status := .badField, field := 1 }) := by
  have bad : firstBad (slotFields [a, b]) = some 1 := firstBad_singleton_bad (not_within_zero slot)
  rw [taking_of_fixed _ h hcode shape, checked_bad _ _ _ 1 bad]
  rfl

/-- A command of a slot runs on the record of the slot. -/
theorem taking_slot_runs (run : Slot → State → State × Answer) (h : s.Offers f code (u16 p.val)) (hcode : code ≠ 0x20)
    (shape : (code.toNat, 2) ∈ fixedShapes) :
    taking code.toNat (fun args s => checked (slotFields args) s (run (slotOperand args) s)) s =
      .next ((run p s.dropControl).1.placeReply f code (run p s.dropControl).2).finish := by
  have slot : u16At (u16 p.val) 0 ≤ 511 := by
    rw [show u16At (u16 p.val) 0 = p.val from toNat_word_of_lt (p.isLt.trans (by decide))]
    exact Nat.le_of_lt_succ p.isLt
  have ok : firstBad (slotFields (u16 p.val)) = none := firstBad_singleton_ok (within_zero slot)
  rw [taking_of_fixed _ h hcode shape, checked_ok _ _ _ ok, slotOperand_u16]

/-- A command that is carried out wakes a stalled band and walks before its REPLY. -/
theorem carryOut_next (t : State) (f : ControlFrame) (code : Byte) :
    (Host.Outcome.next ((carryOut t).1.placeReply f code (carryOut t).2).finish : Host.Outcome State Fault Refusal) =
      .next (t.carried f code) := rfl

/-- A command that is refused is answered, and nothing else is done. -/
theorem refuse_next (s : State) (f : ControlFrame) (code : Byte) (c : Status) :
    (Host.Outcome.next ((refuse s.dropControl c).1.placeReply f code (refuse s.dropControl c).2).finish :
      Host.Outcome State Fault Refusal) = .next (s.replied f code { status := c }) := rfl

end

/-! ### DROP_PLATE (R68) -/

theorem exec_dropPlate_eq (s : State) : exec .dropPlate s = taking (0x21 : Byte).toNat
    (fun args s => checked (slotFields args) s (runDropPlate (slotOperand args) s)) s := rfl

theorem runDropPlate_free (state : (s.plate p).state = .free) : runDropPlate p s = refuse s .notLoaded := by
  unfold runDropPlate
  rw [state]

theorem runDropPlate_protected (state : (s.plate p).state = .exposing ∨ (s.plate p).state = .exposed) :
    runDropPlate p s = refuse s .isProtected := by
  unfold runDropPlate
  rcases state with state | state <;> rw [state]

theorem runDropPlate_drops (free : (s.plate p).state ≠ .free) (exposing : (s.plate p).state ≠ .exposing)
    (exposed : (s.plate p).state ≠ .exposed) : runDropPlate p s = carryOut (s.dropPlate p) := by
  unfold runDropPlate
  split
  case h_1 state => exact absurd state free
  case h_2 state => exact absurd state exposing
  case h_3 state => exact absurd state exposed
  all_goals rfl

/-- The DRAINING test leaves the records, the page entries and the queues, and forgets nothing the Dispatcher was told. -/
theorem State.drainTest_leaves (s : State) (l : LineId) :
    (s.drainTest l).plates = s.plates ∧ (s.drainTest l).pages = s.pages ∧ (s.told = true → (s.drainTest l).told = true)
    ∧ ∀ m, ((s.drainTest l).line m).queue = (s.line m).queue := by
  rcases s.drainTest_cases l with e | ⟨mode, -, -, e⟩
  · rw [e]
    exact ⟨rfl, rfl, id, fun _ => rfl⟩
  · rw [e, State.setMode_change s l _ (by rw [mode]; decide)]
    refine ⟨rfl, rfl, fun _ => rfl, fun m => ?_⟩
    rw [State.tell_line, State.report_line, State.line_setLine]
    split
    · subst m
      rfl
    · rfl

/-- A record taken out of its list leaves the records and the page entries. -/
theorem State.takeOut_tables (s : State) (p : Slot) :
    (∀ q, (s.takeOut p).plate q = s.plate q) ∧ ∀ k, (s.takeOut p).page k = s.page k := by
  unfold State.takeOut
  split
  · exact ⟨fun _ => rfl, fun _ => rfl⟩
  · rename_i l _ _
    obtain ⟨plates, pages, -, -⟩ := (s.leaveQueue l p).drainTest_leaves l
    exact ⟨fun q => by rw [State.plate, plates]; rfl, fun k => by rw [State.page, pages]; rfl⟩
  · exact ⟨fun _ => rfl, fun _ => rfl⟩

theorem State.takeOut_ready (state : (s.plate p).state = .ready) : s.takeOut p = s.leaveReady p := by
  unfold State.takeOut
  rw [state]

theorem State.takeOut_queued (state : (s.plate p).state = .queued) (line : (s.plate p).line = some l) :
    s.takeOut p = (s.leaveQueue l p).drainTest l := by
  unfold State.takeOut
  rw [state, line]

theorem State.dropPlate_plate (s : State) (p q : Slot) :
    (s.dropPlate p).plate q = if q = p then { pass := (s.plate p).pass } else s.plate q := by
  unfold State.dropPlate
  rw [State.plate_setPlate, State.offerDemand_plate, (s.takeOut_tables p).1]

theorem State.dropPlate_demand (s : State) (p : Slot) (k : PageIx) :
    ((s.dropPlate p).page k).demand = (s.page k).demand - (s.plate p).demandKeys.count k := by
  unfold State.dropPlate
  rw [State.setPlate_page, State.offerDemand_page, PageEntry.netted_demand, (s.takeOut_tables p).2]
  rfl

theorem State.dropPlate_ready (state : (s.plate p).state = .ready) :
    (s.dropPlate p).ready = s.ready.filter fun q => decide (q ≠ p) := by
  unfold State.dropPlate
  rw [State.takeOut_ready state, State.setPlate_ready, (State.offerDemand_lists _ _ _).1]
  rfl

theorem State.dropPlate_queued (state : (s.plate p).state = .queued) (line : (s.plate p).line = some l) :
    (s.dropPlate p).told = true
    ∧ ((s.dropPlate p).line l).queue = (s.line l).queue.filter fun q => decide (q ≠ p) := by
  obtain ⟨-, -, told, queue⟩ := (s.leaveQueue l p).drainTest_leaves l
  obtain ⟨-, hears, lines⟩ := State.offerDemand_lists ((s.leaveQueue l p).drainTest l) (s.plate p).demandKeys []
  unfold State.dropPlate
  rw [State.takeOut_queued state line, State.setPlate_told, State.setPlate_line, State.line, hears, lines]
  refine ⟨told rfl, (queue l).trans ?_⟩
  rw [State.leaveQueue, State.tell_line, State.line_setLine_self]

/-! ### REMAKE_PLATE and spoiling (R69, R70, R75) -/

theorem exec_remakePlate_eq (s : State) : exec .remakePlate s = taking (0x22 : Byte).toNat
    (fun args s => checked (slotFields args) s (runRemakePlate (slotOperand args) s)) s := rfl

theorem runRemakePlate_delivered (state : (s.plate p).state = .delivered) :
    runRemakePlate p s = carryOut ((s.offerDemand [] (s.plate p).load.keys).remake p) := by
  unfold runRemakePlate
  rw [state]

theorem runRemakePlate_idle (state : (s.plate p).state = .obsolete ∨ (s.plate p).state = .spoiled) :
    runRemakePlate p s = carryOut (s.remake p) := by
  unfold runRemakePlate
  rcases state with state | state <;> rw [state]

theorem runRemakePlate_refuses (delivered : (s.plate p).state ≠ .delivered) (obsolete : (s.plate p).state ≠ .obsolete)
    (spoiled : (s.plate p).state ≠ .spoiled) : runRemakePlate p s = refuse s .wrongState := by
  unfold runRemakePlate
  split
  case h_1 state => exact absurd state delivered
  case h_2 state => exact absurd state obsolete
  case h_3 state => exact absurd state spoiled
  all_goals rfl

/-- Every page entry of a load's tiles is COMPLETE (R64). -/
def State.loadComplete (s : State) (x : PlateLoad) : Bool := x.keys.all fun k => decide ((s.page k).state = .complete)

theorem State.pagesComplete_eq (s : State) (p : Slot) : s.pagesComplete p = s.loadComplete (s.plate p).load := rfl

/-- A record with the marks of its last making taken off. -/
def PlateRecord.renewed (r : PlateRecord) : PlateRecord :=
  { r with bound := none, line := none, place := none, doom := none, withdraw := false, state := .planned }

theorem State.remake_eq (s : State) (p : Slot) : s.remake p = (s.setPlate p (s.plate p).renewed).evaluate p := rfl

theorem State.renewed_planned (s : State) (p : Slot) :
    ((s.setPlate p (s.plate p).renewed).plate p).state = .planned := by
  rw [State.plate_setPlate_self]
  rfl

theorem State.renewed_complete (s : State) (p : Slot) :
    (s.setPlate p (s.plate p).renewed).pagesComplete p = s.loadComplete (s.plate p).load := by
  rw [State.pagesComplete_eq, State.plate_setPlate_self]
  rfl

theorem State.remake_plate_self (s : State) (p : Slot) : (s.remake p).plate p =
    { (s.plate p).renewed with state := if s.loadComplete (s.plate p).load then .ready else .planned } := by
  rw [State.remake_eq, State.evaluate_plate_self (s.renewed_planned p), s.renewed_complete, State.plate_setPlate_self]

theorem State.remake_plate_ne (ne : q ≠ p) : (s.remake p).plate q = s.plate q := by
  rw [State.remake_eq, State.evaluate_plate_ne ne, State.plate_setPlate, if_neg ne]

theorem State.remake_pages (s : State) (p : Slot) : (s.remake p).pages = s.pages := State.evaluate_pages _ p

theorem State.remake_told (s : State) (p : Slot) :
    (s.remake p).told = (s.told || s.loadComplete (s.plate p).load) := by
  rw [State.remake_eq, State.evaluate_told (s.renewed_planned p), s.renewed_complete, State.setPlate_told]

theorem State.remake_ready (s : State) (p : Slot) : (s.remake p).ready =
    if s.loadComplete (s.plate p).load = false then s.ready
    else if (s.plate p).load.priority = .urgent then s.ready.takeWhile s.urgent ++ p :: s.ready.dropWhile s.urgent
    else s.ready ++ [p] := by
  rw [State.remake_eq, State.evaluate_ready (s.renewed_planned p), s.renewed_complete, State.plate_setPlate_self,
    State.urgent_setPlate (r := (s.plate p).renewed) rfl]
  rfl

/-- A record as spoiling leaves it, before it is remade. -/
def PlateRecord.spoilt (r : PlateRecord) (c : Cause) : PlateRecord :=
  { r with state := .spoiled, lastCause := some c, doom := none, line := none, withdraw := false }

theorem State.spoil_manual (manual : (s.plate p).load.remake = .manual) (c : Cause) :
    s.spoil p c = s.setPlate p ((s.plate p).spoilt c) :=
  State.autoRemake_manual (by rw [State.plate_setPlate_self]; exact manual)

theorem State.spoil_auto (auto : (s.plate p).load.remake = .auto) (c : Cause) :
    s.spoil p c = (s.setPlate p ((s.plate p).spoilt c)).remake p :=
  State.autoRemake_auto (by rw [State.plate_setPlate_self]; exact auto)

theorem State.spoil_plate_ne (ne : q ≠ p) (c : Cause) : (s.spoil p c).plate q = s.plate q := by
  have kept : (s.setPlate p ((s.plate p).spoilt c)).plate q = s.plate q := by rw [State.plate_setPlate, if_neg ne]
  cases remake : (s.plate p).load.remake with
  | manual => rw [State.spoil_manual remake, kept]
  | auto => rw [State.spoil_auto remake, State.remake_plate_ne ne, kept]

end

/-- Settles O22: each command by the state of its record, and what a drop, a remake and a spoiling leave. -/
theorem platesAreDroppedAndRemade : Obligations.PlatesAreDroppedAndRemade := by
  refine ⟨fun s f p => ⟨fun a b h slot => taking_slot_refused runDropPlate h (by decide) (by decide) slot,
      fun h => ⟨fun free => ?_, fun state => ?_, fun free exposing exposed => ?_⟩, ?_, fun q ne => ?_, fun k => ?_,
      State.dropPlate_ready, fun l => State.dropPlate_queued⟩,
    fun s f p => ⟨fun a b h slot => taking_slot_refused runRemakePlate h (by decide) (by decide) slot,
      fun h => ⟨fun delivered => ?_, fun state => ?_, fun delivered obsolete spoiled => ?_⟩, s.remake_plate_self p,
      fun q => State.remake_plate_ne, s.remake_pages p, s.remake_told p, s.remake_ready p⟩,
    fun s p c => ⟨State.autoRemake_pages _ p, s.spoil_lines p c, fun q ne => State.spoil_plate_ne ne c,
      fun manual => ⟨?_, ?_⟩, fun auto => ?_⟩⟩
  · rw [exec_dropPlate_eq, taking_slot_runs runDropPlate h (by decide) (by decide),
      runDropPlate_free (s := s.dropControl) free, refuse_next]
  · rw [exec_dropPlate_eq, taking_slot_runs runDropPlate h (by decide) (by decide),
      runDropPlate_protected (s := s.dropControl) state, refuse_next]
  · rw [exec_dropPlate_eq, taking_slot_runs runDropPlate h (by decide) (by decide),
      runDropPlate_drops (s := s.dropControl) free exposing exposed, carryOut_next]
  · rw [State.dropPlate_plate, if_pos rfl]
  · rw [State.dropPlate_plate, if_neg ne]
  · rw [State.dropPlate_demand, PlateRecord.demandKeys_eq]
  · rw [exec_remakePlate_eq, taking_slot_runs runRemakePlate h (by decide) (by decide),
      runRemakePlate_delivered (s := s.dropControl) delivered, carryOut_next]
    rfl
  · rw [exec_remakePlate_eq, taking_slot_runs runRemakePlate h (by decide) (by decide),
      runRemakePlate_idle (s := s.dropControl) state, carryOut_next]
  · rw [exec_remakePlate_eq, taking_slot_runs runRemakePlate h (by decide) (by decide),
      runRemakePlate_refuses (s := s.dropControl) delivered obsolete spoiled, refuse_next]
  · rw [State.spoil_manual manual, State.plate_setPlate_self]
    rfl
  · rw [State.spoil_manual manual]
    exact ⟨rfl, rfl⟩
  · rw [State.spoil_auto auto, State.remake_plate_self, State.plate_setPlate_self]
    rfl

end Sys2Proof.Machine
end

section
/-! SUPPORT. LOAD_PLATE (R60 to R64): its fields in the order of the tables, its answers, and the record it leaves. -/

namespace Sys2Proof.Machine

set_option Elab.async false

/-! ### Fields examined in order (R9) -/

/-- The checks of the fields numbered from `n` on, each against its range; a field whose range cannot fail may go
unexamined. -/
inductive Aligned : Nat → List FieldCheck → List Prop → Prop where
  | nil (n : Nat) : Aligned n [] []
  | field {n : Nat} {ok : Bool} {r : Prop} {fs : List FieldCheck} {rs : List Prop} (range : ok = true ↔ r)
      (rest : Aligned (n + 1) fs rs) : Aligned n ((n, ok) :: fs) (r :: rs)
  | unexamined {n : Nat} {r : Prop} {fs : List FieldCheck} {rs : List Prop} (range : r)
      (rest : Aligned (n + 1) fs rs) : Aligned n fs (r :: rs)

section
variable {n i : Nat} {r : Prop} {fs gs : List FieldCheck} {rs ss : List Prop}

theorem Aligned.append (h : Aligned n fs rs) (k : Aligned (n + rs.length) gs ss) : Aligned n (fs ++ gs) (rs ++ ss) := by
  induction h with
  | nil n => exact k
  | field range _ ih => exact .field range (ih (by rwa [Nat.add_right_comm]))
  | unexamined range _ ih => exact .unexamined range (ih (by rwa [Nat.add_right_comm]))

theorem firstBad_cons_true (i : Nat) (fs : List FieldCheck) : firstBad ((i, true) :: fs) = firstBad fs := rfl

theorem firstBad_cons_false (i : Nat) (fs : List FieldCheck) : firstBad ((i, false) :: fs) = some i := rfl

theorem Aligned.firstBad_eq_none (h : Aligned n fs rs) : firstBad fs = none ↔ ∀ r ∈ rs, r := by
  induction h with
  | nil n => exact ⟨fun _ _ hr => absurd hr List.not_mem_nil, fun _ => rfl⟩
  | @field n ok r fs rs range _ ih =>
    rw [List.forall_mem_cons, ← range]
    cases ok with
    | true => rw [firstBad_cons_true, ih, eq_self, true_and]
    | false => simp [firstBad_cons_false]
  | unexamined range _ ih => rw [List.forall_mem_cons, ih, iff_true_intro range, true_and]

/-- Of the ranges of the fields numbered from `n` on, that of field `i` is the first left. -/
def FirstLeft (n : Nat) (rs : List Prop) (i : Nat) : Prop :=
  n ≤ i ∧ ¬ rs.getD (i - n) True ∧ ∀ j < i - n, rs.getD j True

/-- A field in its range is passed over. -/
theorem firstLeft_cons_of_pos (hr : r) : FirstLeft n (r :: rs) i ↔ FirstLeft (n + 1) rs i := by
  unfold FirstLeft
  rcases Nat.lt_trichotomy i n with hlt | rfl | hlt
  · constructor <;> rintro ⟨hle, -⟩ <;> omega
  · constructor
    · rintro ⟨-, hout, -⟩
      rw [Nat.sub_self, List.getD_cons_zero] at hout
      exact absurd hr hout
    · rintro ⟨hle, -⟩
      omega
  · obtain ⟨m, rfl⟩ := Nat.exists_eq_add_of_lt hlt
    rw [show n + m + 1 - n = m + 1 by omega, show n + m + 1 - (n + 1) = m by omega, List.getD_cons_succ]
    refine and_congr (iff_of_true (by omega) (by omega)) (and_congr_right fun _ => ⟨fun h j hj => ?_, fun h j hj => ?_⟩)
    · exact h (j + 1) (by omega)
    · cases j with
      | zero => exact hr
      | succ j => exact h j (by omega)

/-- A field out of its range is the first. -/
theorem firstLeft_cons_of_neg (hr : ¬ r) : FirstLeft n (r :: rs) i ↔ n = i := by
  constructor
  · rintro ⟨hle, -, before⟩
    by_contra hne
    exact hr (before 0 (by omega))
  · rintro rfl
    refine ⟨Nat.le_refl n, ?_, fun j hj => absurd hj (by omega)⟩
    rwa [Nat.sub_self, List.getD_cons_zero]

theorem Aligned.firstBad_eq_some (h : Aligned n fs rs) : firstBad fs = some i ↔ FirstLeft n rs i := by
  induction h with
  | nil n => exact ⟨nofun, fun left => absurd trivial left.2.1⟩
  | @field n ok r fs rs range _ ih =>
    cases ok with
    | true => rw [firstBad_cons_true, ih, firstLeft_cons_of_pos (range.mp rfl)]
    | false => rw [firstBad_cons_false, firstLeft_cons_of_neg (by simp [← range]), Option.some.injEq]
  | unexamined range _ ih => rw [ih, firstLeft_cons_of_pos range]

/-- Fields numbered from 1 on are examined in order against their ranges. -/
theorem Aligned.examines (h : Aligned 1 fs rs) : Examines fs rs :=
  ⟨h.firstBad_eq_none, fun _ => h.firstBad_eq_some⟩

end

theorem within_iff {lo hi n : Nat} : within lo hi n = true ↔ lo ≤ n ∧ n ≤ hi := decide_eq_true_iff

theorem within_zero_iff {hi n : Nat} : within 0 hi n = true ↔ n ≤ hi :=
  within_iff.trans (and_iff_right (Nat.zero_le n))

theorem withinInt_iff {lo hi n : Int} : withinInt lo hi n = true ↔ lo ≤ n ∧ n ≤ hi := decide_eq_true_iff

/-! ### The fields of LOAD_PLATE (R60, R61) -/

section
variable {args : List Byte}

theorem byteAt_lt (bs : List Byte) (i : Nat) : byteAt bs i < 256 := (bs.getD i 0).isLt

/-- A tile part's bytes, in the arguments. -/
theorem byteAt_tilePart (args : List Byte) (t : Nat) {i : Nat} (h : i < 17) :
    byteAt (tilePart args t) i = byteAt args (17 + 17 * t + i) := by
  unfold byteAt tilePart
  rw [List.getD_eq_getElem?_getD, List.getElem?_take_of_lt h, List.getElem?_drop, ← List.getD_eq_getElem?_getD]

theorem u16At_tilePart (args : List Byte) (t : Nat) {i : Nat} (h : i + 1 < 17) :
    u16At (tilePart args t) i = u16At args (17 + 17 * t + i) := by
  unfold u16At
  rw [byteAt_tilePart args t h, byteAt_tilePart args t (Nat.lt_of_succ_lt h), Nat.add_assoc _ i]

theorem s16At_tilePart (args : List Byte) (t : Nat) {i : Nat} (h : i + 1 < 17) :
    s16At (tilePart args t) i = s16At args (17 + 17 * t + i) := by
  unfold s16At
  rw [u16At_tilePart args t h]

/-- The ranges of the ten fields of the tile part at an offset (R61). -/
def tileRanges (args : List Byte) (o : Nat) : List Prop :=
  [byteAt args o ≤ 255, u16At args (o + 1) < u16At args 5, u16At args (o + 3) < u16At args 7, byteAt args (o + 5) ≤ 1,
    -3000 ≤ s16At args (o + 6) ∧ s16At args (o + 6) ≤ 3000, byteAt args (o + 8) ≤ 1,
    byteAt args (o + 8) = 1 → u16At args (o + 9) ≤ 24575, byteAt args (o + 8) = 1 → u16At args (o + 11) ≤ 32767,
    byteAt args (o + 8) = 1 → 1 ≤ u16At args (o + 13) ∧ u16At args (o + 13) ≤ 24576,
    byteAt args (o + 8) = 1 → 1 ≤ u16At args (o + 15) ∧ u16At args (o + 15) ≤ 32768]

theorem tileFields_aligned (args : List Byte) (t : Nat) :
    Aligned (14 + 10 * t + 1) (tileFields args t) (tileRanges args (17 + 17 * t)) := by
  unfold tileFields
  simp (disch := decide) only [byteAt_tilePart, u16At_tilePart, s16At_tilePart]
  exact .field (iff_of_true rfl (Nat.le_of_lt_succ (byteAt_lt _ _))) <| .field decide_eq_true_iff <|
    .field decide_eq_true_iff <| .field within_zero_iff <| .field withinInt_iff <| .field within_zero_iff <|
    .field decide_eq_true_iff <| .field decide_eq_true_iff <| .field decide_eq_true_iff <|
    .field decide_eq_true_iff <| .nil _

/-- The tile parts' fields follow one another, ten a part. -/
theorem tilesFields_aligned (args : List Byte) (c : Nat) : Aligned 15 ((List.range c).flatMap (tileFields args))
    ((List.range c).flatMap fun t => tileRanges args (17 + 17 * t)) := by
  induction c with
  | zero => exact .nil 15
  | succ c ih =>
    have length : ((List.range c).flatMap fun t => tileRanges args (17 + 17 * t)).length = 10 * c := by
      simp [List.length_flatMap, tileRanges, Nat.mul_comm]
    rw [List.range_succ, List.flatMap_append, List.flatMap_append, List.flatMap_singleton, List.flatMap_singleton]
    refine ih.append ?_
    rw [length, show 15 + 10 * c = 14 + 10 * c + 1 by omega]
    exact tileFields_aligned args c

/-- The ranges of the fields 1 to 14 (R60). -/
def loadRanges (args : List Byte) : List Prop :=
  [u16At args 0 ≤ 511, 1 ≤ byteAt args 2 ∧ byteAt args 2 ≤ 255, byteAt args 3 ≤ 3, byteAt args 4 ≤ 7,
    288 ≤ u16At args 5 ∧ u16At args 5 ≤ 40960, 64 ≤ u16At args 7 ∧ u16At args 7 ≤ 32768, byteAt args 9 ≤ 31,
    1 ≤ byteAt args 10 ∧ byteAt args 10 ≤ 9, 1 ≤ byteAt args 11 ∧ byteAt args 11 ≤ 15, byteAt args 12 ≤ 1,
    byteAt args 13 ≤ 1, byteAt args 14 ≤ 1, byteAt args 15 ≤ 1, 1 ≤ byteAt args 16 ∧ byteAt args 16 ≤ 4]

/-- The tile count is in its range already when the frame has the shape of the command (R8). -/
theorem plateFields_aligned (shape : loadPlateLength args = some args.length) : Aligned 1 (plateFields args)
    (loadRanges args ++ (List.range (byteAt args 16)).flatMap fun t => tileRanges args (17 + 17 * t)) := by
  obtain ⟨-, least, most, -⟩ := loadPlateLength_eq_some.mp shape
  refine Aligned.append ?_ (tilesFields_aligned args _)
  exact .field within_zero_iff <| .field within_iff <| .field within_zero_iff <| .field within_zero_iff <|
    .field within_iff <| .field within_iff <| .field within_zero_iff <| .field within_iff <| .field within_iff <|
    .field within_zero_iff <| .field within_zero_iff <| .field within_zero_iff <| .field within_zero_iff <|
    .unexamined ⟨least, most⟩ <| .nil _

end

/-! ### The answers of LOAD_PLATE (R62) -/

section
variable {s t : State} {p q : Slot} {x : PlateLoad}

theorem exec_loadPlate_eq (s : State) : exec .loadPlate s = taking (0x20 : Byte).toNat (fun args s =>
    checked (plateFields args) s (runLoadPlate (slotOperand args) (plateOperand args) s)) s := rfl

/-- LOAD_PLATE with arguments of the right length is taken. -/
theorem exec_loadPlate_taken {f : ControlFrame} {args : List Byte} (h : s.Offers f 0x20 args)
    (shape : loadPlateLength args = some args.length) : exec .loadPlate s =
      let r := checked (plateFields args) s.dropControl (runLoadPlate (slotOperand args) (plateOperand args) s.dropControl)
      .next (r.1.placeReply f 0x20 r.2).finish := by
  have command : commandOf f.body ≠ none := by
    rw [h.body, commandOf_cons]
    exact ne_of_eq_of_ne (if_pos shape) (Option.some_ne_none _)
  rw [exec_loadPlate_eq, taking_of_offers _ h command]
  rfl

theorem PlateState.inFlight_iff {g : PlateState} :
    g.inFlight = true ↔ g = .queued ∨ g = .exposing ∨ g = .exposed := by
  cases g <;> simp [PlateState.inFlight]

theorem PlateState.not_inFlight {g : PlateState} (queued : g ≠ .queued) (exposing : g ≠ .exposing)
    (exposed : g ≠ .exposed) : ¬ g.inFlight = true := by
  rw [PlateState.inFlight_iff]
  exact not_or.mpr ⟨queued, not_or.mpr ⟨exposing, exposed⟩⟩

theorem runLoadPlate_protected (flight : (s.plate p).state.inFlight = true) :
    runLoadPlate p x s = refuse s .isProtected := if_pos flight

theorem runLoadPlate_absent (flight : ¬ (s.plate p).state.inFlight = true)
    (absent : (s.profile x.profile).present = false) : runLoadPlate p x s = refuse s .profileAbsent :=
  (if_neg flight).trans (if_pos absent)

theorem runLoadPlate_free (state : (s.plate p).state = .free) (present : (s.profile x.profile).present = true) :
    runLoadPlate p x s = carryOut (s.loadFree p x) := by
  unfold runLoadPlate
  rw [state, present]
  rfl

theorem runLoadPlate_replaces (flight : ¬ (s.plate p).state.inFlight = true)
    (present : (s.profile x.profile).present = true) (state : (s.plate p).state ≠ .free) :
    runLoadPlate p x s = carryOut (s.replacePlate p x) := by
  unfold runLoadPlate
  rw [if_neg flight, present, if_neg (by decide), if_neg state]

/-! ### What a load leaves (R62 to R64) -/

/-- In `u` the record of a slot holds the load and is PLANNED, out of the ready list, with its demand offered; all else that
a load speaks of is as in `s`, and its readiness is still to be evaluated. -/
structure Loaded (s : State) (p : Slot) (x : PlateLoad) (u : State) : Prop where
  record : u.plate p = (s.plate p).loaded x
  others : ∀ q, q ≠ p → u.plate q = s.plate q
  demand : ∀ k, (u.page k).demand = (s.page k).demand + x.keys.count k - (s.plate p).demandKeys.count k
  ready : u.ready = s.ready.filter fun q => decide (q ≠ p)
  told : u.told = s.told

theorem State.loadFree_eq (state : (s.plate p).state = .free) (out : p ∉ s.ready) :
    ∃ u, Loaded s p x u ∧ s.loadFree p x = u.evaluate p := by
  obtain ⟨ready, told, -⟩ := (s.setPlate p ((s.plate p).loaded x)).offerDemand_lists [] x.keys
  refine ⟨_, ⟨?_, fun q ne => ?_, fun k => ?_, ?_, told⟩, rfl⟩
  · rw [State.offerDemand_plate, State.plate_setPlate_self]
  · rw [State.offerDemand_plate, State.plate_setPlate, if_neg ne]
  · rw [State.offerDemand_page, PageEntry.netted_demand, PlateRecord.demandKeys, state]
    rfl
  · refine ready.trans (List.filter_eq_self.mpr fun q hq => ?_).symm
    rw [decide_eq_true_iff]
    rintro rfl
    exact out hq

theorem State.replacePlate_eq (s : State) (p : Slot) (x : PlateLoad) :
    ∃ u, Loaded s p x u ∧ s.replacePlate p x = u.evaluate p := by
  obtain ⟨ready, told, -⟩ := (s.leaveReady p).offerDemand_lists (s.plate p).demandKeys x.keys
  refine ⟨((s.leaveReady p).offerDemand (s.plate p).demandKeys x.keys).setPlate p ((s.plate p).loaded x),
    ⟨?_, fun q ne => ?_, fun k => ?_, ready, told⟩, rfl⟩
  · rw [State.plate_setPlate_self]
  · rw [State.plate_setPlate, if_neg ne, State.offerDemand_plate]
    rfl
  · rw [State.setPlate_page, State.offerDemand_page, PageEntry.netted_demand]
    rfl

section
variable {u : State} (h : Loaded s p x u)
include h

theorem Loaded.planned : (u.plate p).state = .planned := by
  rw [h.record]
  rfl

theorem Loaded.complete : u.pagesComplete p = (u.evaluate p).loadComplete x := by
  rw [State.pagesComplete_eq, h.record]
  unfold State.loadComplete State.page
  rw [State.evaluate_pages]
  rfl

theorem Loaded.evaluated_record : (u.evaluate p).plate p =
    { state := if (u.evaluate p).loadComplete x then .ready else .planned, load := x, pass := (s.plate p).pass } := by
  rw [State.evaluate_plate_self h.planned, h.complete, h.record]
  rfl

theorem Loaded.evaluated_others (ne : q ≠ p) : (u.evaluate p).plate q = s.plate q := by
  rw [State.evaluate_plate_ne ne, h.others q ne]

theorem Loaded.evaluated_demand (k : PageIx) : ((u.evaluate p).page k).demand =
    (s.page k).demand + x.keys.count k - (s.plate p).demandKeys.count k := by
  rw [State.page, State.evaluate_pages]
  exact h.demand k

/-- The classes of the other records are as before the load. -/
theorem Loaded.classes {q : Slot} (hq : q ∈ u.ready) : u.urgent q = s.urgent q := by
  rw [h.ready] at hq
  rw [State.urgent, State.urgent, h.others q (of_decide_eq_true (List.mem_filter.mp hq).2)]

theorem Loaded.evaluated_incomplete (incomplete : (u.evaluate p).loadComplete x = false) :
    (u.evaluate p).ready = (s.ready.filter fun q => decide (q ≠ p)) ∧ (u.evaluate p).told = s.told := by
  rw [State.evaluate_ready h.planned, State.evaluate_told h.planned, h.complete, incomplete, if_pos rfl, h.told,
    Bool.or_false]
  exact ⟨h.ready, rfl⟩

theorem Loaded.evaluated_complete (complete : (u.evaluate p).loadComplete x = true) :
    let others := s.ready.filter fun q => decide (q ≠ p)
    (u.evaluate p).told = true ∧ (x.priority = .normal → (u.evaluate p).ready = others ++ [p])
      ∧ (x.priority = .urgent →
        (u.evaluate p).ready = others.takeWhile s.urgent ++ p :: others.dropWhile s.urgent) := by
  obtain ⟨front, back⟩ := takeWhile_dropWhile_congr fun q hq => h.classes (q := q) hq
  rw [State.evaluate_ready h.planned, State.evaluate_told h.planned, h.complete, complete, Bool.or_true,
    if_neg (by decide), front, back, h.record, h.ready]
  refine ⟨rfl, fun normal => if_neg fun urgent => ?_, fun urgent => if_pos urgent⟩
  cases normal.symm.trans urgent

end

end

/-- Settles O20: the answers by the checks in their order, the fields by their tables, and the record by its evaluation. -/
theorem platesAreLoaded : Obligations.PlatesAreLoaded := by
  refine ⟨fun s f args h shape => ⟨fun i bad => ?_, fun ok => ⟨fun flight => ?_, fun queued exposing exposed =>
    ⟨fun absent => ?_, fun present free => ?_, fun present loaded => ?_⟩⟩, (plateFields_aligned shape).examines⟩,
    fun s p x t load => ?_⟩
  · rw [exec_loadPlate_taken h shape, checked_bad _ _ _ i bad]
    rfl
  · rw [exec_loadPlate_taken h shape, checked_ok _ _ _ ok,
      runLoadPlate_protected (s := s.dropControl) (PlateState.inFlight_iff.mpr flight)]
    rfl
  · rw [exec_loadPlate_taken h shape, checked_ok _ _ _ ok,
      runLoadPlate_absent (s := s.dropControl) (PlateState.not_inFlight queued exposing exposed) absent]
    rfl
  · rw [exec_loadPlate_taken h shape, checked_ok _ _ _ ok, runLoadPlate_free (s := s.dropControl) free present]
    rfl
  · rw [exec_loadPlate_taken h shape, checked_ok _ _ _ ok,
      runLoadPlate_replaces (s := s.dropControl) (PlateState.not_inFlight queued exposing exposed) present loaded]
    rfl
  · have evaluated : ∃ u, Loaded s p x u ∧ t = u.evaluate p := by
      rcases load with ⟨free, out, rfl⟩ | rfl
      · exact State.loadFree_eq free out
      · exact s.replacePlate_eq p x
    obtain ⟨u, h, rfl⟩ := evaluated
    refine ⟨h.evaluated_record, fun q => h.evaluated_others, fun k => ?_, h.evaluated_incomplete, h.evaluated_complete⟩
    rw [h.evaluated_demand, PlateRecord.demandKeys_eq]

end Sys2Proof.Machine
end

section
/-! SUPPORT. LOAD_PLATE and QUERY_PLATE byte by byte (R60, R61, R78): a field read from its bytes is written as the same
bytes. -/

namespace Sys2Proof.Machine

set_option Elab.async false

/-! ### One field -/

theorem u8_byteAt (bs : List Byte) (i : Nat) : u8 (byteAt bs i) = [bs.getD i 0] := by
  rw [u8, byteAt, BitVec.ofNat_toNat, BitVec.setWidth_eq]

theorem u16_u16At (bs : List Byte) (i : Nat) : u16 (u16At bs i) = [bs.getD i 0, bs.getD (i + 1) 0] := by
  have low := byteAt_lt bs i
  have lowByte : BitVec.ofNat 8 (u16At bs i) = bs.getD i 0 := BitVec.eq_of_toNat_eq (by
    rw [toNat_byte, u16At]
    exact (by omega : (byteAt bs i + 256 * byteAt bs (i + 1)) % 256 = byteAt bs i))
  have highByte : BitVec.ofNat 8 (u16At bs i / 256) = bs.getD (i + 1) 0 := BitVec.eq_of_toNat_eq (by
    have high := byteAt_lt bs (i + 1)
    rw [toNat_byte, u16At]
    exact (by omega : (byteAt bs i + 256 * byteAt bs (i + 1)) / 256 % 256 = byteAt bs (i + 1)))
  rw [u16, lowByte, highByte]

/-- A signed field, two's complement. -/
theorem s16_s16At (bs : List Byte) (i : Nat) : s16 (s16At bs i) = [bs.getD i 0, bs.getD (i + 1) 0] := by
  have bound : u16At bs i < 65536 := by
    have low := byteAt_lt bs i
    have high := byteAt_lt bs (i + 1)
    rw [u16At]
    omega
  have value : (s16At bs i % 65536).toNat = u16At bs i := by
    unfold s16At
    split <;> omega
  rw [s16, value, u16_u16At]

/-- A flag that is 0 or 1. -/
theorem flag_byteAt {bs : List Byte} {i : Nat} (h : byteAt bs i ≤ 1) :
    flag (decide (byteAt bs i = 1)) = [bs.getD i 0] := by
  rw [← u8_byteAt]
  rcases Nat.le_one_iff_eq_zero_or_eq_one.mp h with e | e <;> rw [e] <;> rfl

/-! ### Bytes one after another -/

theorem take_drop_eq_map_getD {bs : List Byte} {m n : Nat} (h : m + n ≤ bs.length) :
    (bs.drop m).take n = (List.range n).map fun i => bs.getD (m + i) 0 := by
  refine List.ext_getElem (by simp; omega) fun i hi _ => ?_
  have bound : m + i < bs.length := by
    rw [List.length_take, List.length_drop] at hi
    omega
  rw [List.getElem_take, List.getElem_drop, List.getElem_map, List.getElem_range, List.getD_eq_getElem _ _ bound]

/-- Parts of one length, one after another. -/
theorem flatMap_parts (bs : List Byte) (k c : Nat) :
    ((List.range c).flatMap fun t => (bs.drop (k * t)).take k) = bs.take (k * c) := by
  induction c with
  | zero => rw [Nat.mul_zero, List.take_zero, List.range_zero, List.flatMap_nil]
  | succ c ih => rw [List.range_succ, List.flatMap_append, ih, List.flatMap_singleton, Nat.mul_succ, List.take_add]

/-! ### A tile part (R61) -/

section
variable {b : List Byte}

theorem tileOf_isSome (b : List Byte) : (tileOf b).clip.isSome = decide (byteAt b 8 = 1) := by
  by_cases h : byteAt b 8 = 1 <;> simp [tileOf, h]

theorem tileOf_inverted (b : List Byte) : decide ((tileOf b).turn = .inverted) = decide (byteAt b 5 = 1) := by
  by_cases h : byteAt b 5 = 1 <;> simp [tileOf, h]

/-- The four clip values of a tile, 0 without a clip. -/
def Tile.clipBytes (t : Tile) : List Byte :=
  u16 ((t.clip.map Clip.cx).getD 0) ++ u16 ((t.clip.map Clip.cy).getD 0) ++ u16 ((t.clip.map Clip.cw).getD 0)
    ++ u16 ((t.clip.map Clip.ch).getD 0)

theorem Tile.encode_eq (t : Tile) : t.encode =
    (u8 t.page.val ++ u16 t.originX ++ u16 t.originY ++ flag (decide (t.turn = .inverted)) ++ s16 t.scale
      ++ flag t.clip.isSome) ++ t.clipBytes := rfl

theorem tileOf_clipBytes (length : b.length = 17) (clip : byteAt b 8 ≤ 1)
    (blank : byteAt b 8 = 0 → b.drop 9 = List.replicate 8 0) : (tileOf b).clipBytes = b.drop 9 := by
  rcases Nat.le_one_iff_eq_zero_or_eq_one.mp clip with without | present
  · have absent : (tileOf b).clip = none := if_neg (by rw [without]; decide)
    rw [blank without, Tile.clipBytes, absent]
    rfl
  · have window : (tileOf b).clip = some { cx := u16At b 9, cy := u16At b 11, cw := u16At b 13, ch := u16At b 15 } :=
      if_pos present
    have bytes := take_drop_eq_map_getD (bs := b) (m := 9) (n := 8) (by omega)
    rw [List.take_of_length_le (by rw [List.length_drop]; omega)] at bytes
    rw [bytes, Tile.clipBytes, window]
    simp only [Option.map_some, Option.getD_some, u16_u16At]
    rfl

/-- A tile part whose flags are in range is shown as it was loaded. -/
theorem tileOf_encode (length : b.length = 17) (turn : byteAt b 5 ≤ 1) (clip : byteAt b 8 ≤ 1)
    (blank : byteAt b 8 = 0 → b.drop 9 = List.replicate 8 0) : (tileOf b).encode = b := by
  have page : u8 (tileOf b).page.val = [b.getD 0 0] := by
    rw [← u8_byteAt]
    exact congrArg u8 (Nat.mod_eq_of_lt (byteAt_lt b 0))
  have scale : s16 (tileOf b).scale = [b.getD 6 0, b.getD 7 0] := s16_s16At b 6
  have originX : u16 (tileOf b).originX = [b.getD 1 0, b.getD 2 0] := u16_u16At b 1
  have originY : u16 (tileOf b).originY = [b.getD 3 0, b.getD 4 0] := u16_u16At b 3
  have bytes := take_drop_eq_map_getD (bs := b) (m := 0) (n := 9) (by omega)
  rw [List.drop_zero] at bytes
  conv_rhs => rw [← List.take_append_drop 9 b, bytes]
  rw [Tile.encode_eq, tileOf_clipBytes length clip blank, page, originX, originY, scale, tileOf_inverted, tileOf_isSome,
    flag_byteAt turn, flag_byteAt clip]
  rfl

end

/-! ### The fixed fields (R60) -/

/-- Bytes 1 to 15 of QUERY_PLATE are the loaded fields. -/
theorem PlateRecord.encode_load (r : PlateRecord) : (r.encode.drop 1).take 15 = r.load.encode := by
  simp only [PlateRecord.encode, PlateLoad.encode, u8, u16, flag, List.cons_append, List.nil_append]
  rfl

section
variable {args : List Byte}

theorem plateOperand_urgent (args : List Byte) :
    decide ((plateOperand args).priority = .urgent) = decide (byteAt args 12 = 1) := by
  by_cases h : byteAt args 12 = 1 <;> simp [plateOperand, h]

theorem plateOperand_abort (args : List Byte) :
    decide ((plateOperand args).action = .abort) = decide (byteAt args 14 = 1) := by
  by_cases h : byteAt args 14 = 1 <;> simp [plateOperand, h]

theorem plateOperand_manual (args : List Byte) :
    decide ((plateOperand args).remake = .manual) = decide (byteAt args 15 = 1) := by
  by_cases h : byteAt args 15 = 1 <;> simp [plateOperand, h]

/-- The fields 2 to 14 of a LOAD_PLATE whose fields are in range are shown with its bytes. -/
theorem plateOperand_encode (ranges : ∀ r ∈ loadRanges args, r) (length : 17 ≤ args.length) :
    (plateOperand args).encode = (args.drop 2).take 15 := by
  simp only [loadRanges, List.forall_mem_cons] at ranges
  obtain ⟨-, -, color, -, -, -, profile, dest, -, priority, hold, action, remake, -⟩ := ranges
  have colorByte : (plateOperand args).color.val = byteAt args 3 := Nat.mod_eq_of_lt (by omega)
  have profileByte : (plateOperand args).profile.val = byteAt args 9 := Nat.mod_eq_of_lt (by omega)
  have destByte : (plateOperand args).dest.val = byteAt args 10 := Nat.mod_eq_of_lt (by omega)
  have tiles : (plateOperand args).tiles.length = byteAt args 16 := by simp [plateOperand]
  rw [take_drop_eq_map_getD (by omega), PlateLoad.encode, colorByte, profileByte, destByte, tiles, plateOperand_urgent,
    plateOperand_abort, plateOperand_manual, flag_byteAt priority, flag_byteAt action, flag_byteAt remake]
  simp only [plateOperand, u8_byteAt, u16_u16At, flag_byteAt hold]
  rfl

theorem length_tilePart {t c : Nat} (length : args.length = 17 + 17 * c) (ht : t < c) : (tilePart args t).length = 17 := by
  rw [tilePart, List.length_take, List.length_drop]
  omega

/-- The tile parts are the bytes from 17 on. -/
theorem tileParts_eq_drop {c : Nat} (length : args.length = 17 + 17 * c) :
    (List.range c).flatMap (tilePart args) = args.drop 17 := by
  have parts := flatMap_parts (args.drop 17) 17 c
  rw [List.take_of_length_le (by rw [List.length_drop]; omega)] at parts
  rw [← parts]
  exact congrArg (fun f => List.flatMap f (List.range c)) (funext fun t => by rw [tilePart, List.drop_drop])

theorem plateOperand_tiles_encode (length : args.length = 17 + 17 * byteAt args 16)
    (ranges : ∀ t < byteAt args 16, ∀ r ∈ tileRanges args (17 + 17 * t), r)
    (blank : ∀ t < byteAt args 16, byteAt (tilePart args t) 8 = 0 → (tilePart args t).drop 9 = List.replicate 8 0) :
    (plateOperand args).tiles.flatMap Tile.encode = args.drop 17 := by
  rw [← tileParts_eq_drop length]
  show ((List.range (byteAt args 16)).map fun t => tileOf (tilePart args t)).flatMap Tile.encode = _
  rw [List.flatMap_map]
  refine List.flatMap_congr fun t ht => ?_
  have part := List.mem_range.mp ht
  have inRange := ranges t part
  simp only [tileRanges, List.forall_mem_cons] at inRange
  obtain ⟨-, -, -, turn, -, clip, -⟩ := inRange
  exact tileOf_encode (length_tilePart length part) ((byteAt_tilePart args t (by decide)).trans_le turn)
    ((byteAt_tilePart args t (by decide)).trans_le clip) (blank t part)

end

/-- Settles O21: the slot, the fixed fields and the tile parts are each written back as the bytes they were read from. -/
theorem loadedPlatesReadBack : Obligations.LoadedPlatesReadBack := by
  intro args shape ok blank
  obtain ⟨least, -, -, length⟩ := loadPlateLength_eq_some.mp shape
  obtain ⟨fixed, tiles⟩ := List.forall_mem_append.mp ((plateFields_aligned shape).firstBad_eq_none.mp ok)
  have parts : ∀ t < byteAt args 16, ∀ r ∈ tileRanges args (17 + 17 * t), r := fun t ht r hr =>
    tiles r (List.mem_flatMap.mpr ⟨t, List.mem_range.mpr ht, hr⟩)
  refine ⟨?_, fun r q shown => ?_⟩
  · have slot : u16At args 0 ≤ 511 := fixed _ List.mem_cons_self
    have operand : (slotOperand args).val = u16At args 0 := Nat.mod_eq_of_lt (by omega)
    rw [operand, u16_u16At, ← List.drop_zero (l := args), take_drop_eq_map_getD (by omega)]
    rfl
  · have load : q.load = plateOperand args := shown.elim (fun e => congrArg PlateRecord.load e) id
    rw [PlateRecord.encode_load, PlateRecord.encode_drop, load]
    exact ⟨plateOperand_encode fixed least, plateOperand_tiles_encode length parts blank⟩

end Sys2Proof.Machine
end

section
/-! SUPPORT. The fate of a stacked plate (R90, R164): one equation per route and doom, and what becomes of the record of
a plate that failed, remade or not. -/

namespace Sys2Proof.Machine

set_option Elab.async false

section
variable {s : State} {p q : Slot} {l : LineId} {b : BinId} {e : TransitEntry} {g : PlateState}
  {place : Option (LineId × BinId)} {c : Cause} {report : Report}

/-! ### What a remake touches (R69) -/

/-- A remake touches its record, the ready list and the word to the Dispatcher alone. -/
theorem State.remake_record (s : State) (p : Slot) : s.remake p = { s with
    plates := s.plates.set p.val
      { (s.plate p).renewed with state := if s.loadComplete (s.plate p).load then .ready else .planned }
    ready := (s.remake p).ready
    told := (s.remake p).told } := by
  rw [State.remake_eq, State.evaluate_planned (s.renewed_planned p), s.renewed_complete, State.plate_setPlate_self]
  cases s.loadComplete (s.plate p).load with
  | false => rfl
  | true =>
    have twice : ((s.setPlate p (s.plate p).renewed).setPlate p { (s.plate p).renewed with state := .ready }) =
        s.setPlate p { (s.plate p).renewed with state := .ready } := by
      simp only [State.setPlate, Vector.set_set]
    rw [if_pos rfl, if_pos rfl, twice]
    unfold State.joinBack
    split <;> rfl

/-! ### A plate that failed (R70, R90) -/

/-- The record of a plate that failed, before it is remade. -/
def PlateRecord.failed (r : PlateRecord) (g : PlateState) (place : Option (LineId × BinId)) (c : Cause) : PlateRecord :=
  { r.landed g place with lastCause := some c }

/-- A failed plate's record takes its state and its last cause, and its report is made. -/
def State.recordFailed (s : State) (p : Slot) (g : PlateState) (place : Option (LineId × BinId)) (c : Cause)
    (report : Report) : State :=
  (s.setPlate p ((s.plate p).failed g place c)).report report

/-- After its report a failed plate is remade when AUTO. -/
def State.failPlate (s : State) (p : Slot) (g : PlateState) (place : Option (LineId × BinId)) (c : Cause)
    (report : Report) : State :=
  (s.recordFailed p g place c report).autoRemake p

theorem State.recordFailed_plate_self : (s.recordFailed p g place c report).plate p = (s.plate p).failed g place c :=
  State.plate_setPlate_self s p _

theorem State.recordFailed_plate_ne (ne : q ≠ p) : (s.recordFailed p g place c report).plate q = s.plate q :=
  (State.plate_setPlate s p q _).trans (if_neg ne)

theorem State.recordFailed_urgent : (s.recordFailed p g place c report).urgent = s.urgent :=
  State.urgent_setPlate (r := (s.plate p).failed g place c) rfl

theorem State.recordFailed_complete (x : PlateLoad) :
    (s.recordFailed p g place c report).loadComplete x = s.loadComplete x := rfl

theorem State.failPlate_manual (manual : (s.plate p).load.remake = .manual) :
    s.failPlate p g place c report = s.recordFailed p g place c report :=
  State.autoRemake_manual (by rw [State.recordFailed_plate_self]; exact manual)

theorem State.failPlate_auto (auto : (s.plate p).load.remake = .auto) :
    s.failPlate p g place c report = (s.recordFailed p g place c report).remake p :=
  State.autoRemake_auto (by rw [State.recordFailed_plate_self]; exact auto)

/-- The record of a failed plate that has been remade: afresh but for its load, its pass and its last cause. -/
def PlateRecord.remade (r : PlateRecord) (c : Cause) (complete : Bool) : PlateRecord :=
  { state := if complete then .ready else .planned, load := r.load, pass := r.pass, lastCause := some c }

/-- The record of a remade plate is READY, at the back of its class, when its pages are complete, and PLANNED otherwise. -/
theorem State.failPlate_remade (auto : (s.plate p).load.remake = .auto) : s.failPlate p g place c report = { s with
    plates := s.plates.set p.val ((s.plate p).remade c (s.loadComplete (s.plate p).load))
    reports := s.reports.offer report
    ready := if s.loadComplete (s.plate p).load = false then s.ready
      else if (s.plate p).load.priority = .urgent then s.ready.takeWhile s.urgent ++ p :: s.ready.dropWhile s.urgent
      else s.ready ++ [p]
    told := s.told || s.loadComplete (s.plate p).load } := by
  have plates : ∀ x, (s.recordFailed p g place c report).plates.set p.val x = s.plates.set p.val x := fun _ =>
    Vector.set_set ..
  rw [State.failPlate_auto auto, State.remake_record, State.remake_ready, State.remake_told, State.recordFailed_complete,
    State.recordFailed_urgent, plates, State.recordFailed_plate_self]
  rfl

theorem State.failPlate_plate_ne (ne : q ≠ p) : (s.failPlate p g place c report).plate q = s.plate q := by
  cases remake : (s.plate p).load.remake with
  | manual => rw [State.failPlate_manual remake, State.recordFailed_plate_ne ne]
  | auto => rw [State.failPlate_auto remake, State.remake_plate_ne ne, State.recordFailed_plate_ne ne]

theorem State.failPlate_plate_manual (manual : (s.plate p).load.remake = .manual) :
    (s.failPlate p g place c report).plate p = (s.plate p).failed g place c := by
  rw [State.failPlate_manual manual, State.recordFailed_plate_self]

theorem State.failPlate_plate_auto (auto : (s.plate p).load.remake = .auto) :
    (s.failPlate p g place c report).plate p = (s.plate p).remade c (s.loadComplete (s.plate p).load) := by
  rw [State.failPlate_remade auto]
  exact s.plate_setPlate_self p _

/-! ### The fate by route and doom (R90) -/

theorem State.fate_delivered (route : e.route = .deliver) (doom : (s.plate e.slot).doom = none) :
    s.fate l b e = s.deliver l b e.slot := by
  unfold State.fate
  rw [route, doom]

theorem State.fate_obsolete {d : Doom} (route : e.route = .deliver) (doom : (s.plate e.slot).doom = some d) :
    s.fate l b e = s.obsoleteInBin l b e.slot := by
  unfold State.fate
  rw [route, doom]

theorem State.fate_rejected {turned : Cause} (route : e.route = .reject turned) :
    s.fate l b e = s.rejected l b e.slot (((s.plate e.slot).doom.map Doom.cause).getD turned) := by
  unfold State.fate
  rw [route]
  cases (s.plate e.slot).doom <;> rfl

/-- The first tile whose bound version is below its page's current one. -/
theorem State.passedPage_eq {r : PlateRecord} {k : PageIx} {v : Nat} {older newer : List (PageIx × Nat)}
    (tiles : r.load.keys.zip (r.bound.getD []) = older ++ (k, v) :: newer)
    (current : ∀ q ∈ older, (s.page q.1).version ≤ q.2) (passed : v < (s.page k).version) :
    s.passedPage r = some (k, (s.page k).version) := by
  have first : (older ++ (k, v) :: newer).find? (fun q => decide (q.2 < (s.page q.1).version)) = some (k, v) :=
    List.find?_eq_some_iff_append.mpr ⟨decide_eq_true passed, older, newer, rfl, fun q hq => by
      simpa using current q hq⟩
  rw [State.passedPage, tiles, first, Option.map_some]

theorem State.obsoleteInBin_eq {k : PageIx} {v : Nat} (passed : s.passedPage (s.plate p) = some (k, v)) :
    s.obsoleteInBin l b p = s.failPlate p .obsolete (some (l, b)) .obsolete
      { kind := .plateObsolete, slot := some p, line := some l, bin := some b, key := some (keyBytes k),
        version := some v } := by
  unfold State.obsoleteInBin
  simp only [passed]
  rfl

theorem State.rejected_eq (s : State) (l : LineId) (b : BinId) (p : Slot) (c : Cause) : s.rejected l b p c =
    s.failPlate p (if c = .obsolete then .obsolete else .spoiled) none c
      { kind := .plateRejected, slot := some p, line := some l, bin := some b, cause := some c } := rfl

theorem Doom.cause_eq_obsolete (d : Doom) : d.cause = .obsolete ↔ d = .obsolete := by cases d <;> decide

/-- A plate with a route other than DELIVER or with a doom fails. -/
theorem State.fate_fails (failing : e.route ≠ .deliver ∨ (s.plate e.slot).doom ≠ none) :
    ∃ g place c report, s.fate l b e = s.failPlate e.slot g place c report := by
  cases route : e.route with
  | reject turned => exact ⟨_, _, _, _, State.fate_rejected route⟩
  | deliver =>
    obtain ⟨d, doom⟩ := Option.ne_none_iff_exists'.mp (failing.resolve_left (not_not.mpr route))
    exact ⟨_, _, _, _, State.fate_obsolete route doom⟩

theorem State.deliver_plate (s : State) (l : LineId) (b : BinId) (p q : Slot) : (s.deliver l b p).plate q =
    if q = p then (s.plate p).landed .delivered (some (l, b)) else s.plate q := by
  unfold State.deliver
  rw [State.offerDemand_plate, State.report_plate, State.plate_setPlate]

/-- After every fate the record has no line, no doom and the pass it had, and the other records are as they were. -/
theorem State.fate_leaves (s : State) (l : LineId) (b : BinId) (e : TransitEntry) :
    ((s.fate l b e).plate e.slot).line = none ∧ ((s.fate l b e).plate e.slot).doom = none
    ∧ ((s.fate l b e).plate e.slot).pass = (s.plate e.slot).pass
    ∧ ∀ q : Slot, q ≠ e.slot → (s.fate l b e).plate q = s.plate q := by
  by_cases delivering : e.route = .deliver ∧ (s.plate e.slot).doom = none
  · obtain ⟨route, doom⟩ := delivering
    rw [State.fate_delivered route doom, State.deliver_plate, if_pos rfl]
    exact ⟨rfl, rfl, rfl, fun q ne => by rw [State.deliver_plate, if_neg ne]⟩
  · obtain ⟨g, place, c, report, fate⟩ := State.fate_fails (l := l) (b := b) (not_and_or.mp delivering)
    rw [fate]
    cases remake : (s.plate e.slot).load.remake with
    | manual =>
      rw [State.failPlate_plate_manual remake]
      exact ⟨rfl, rfl, rfl, fun q => State.failPlate_plate_ne⟩
    | auto =>
      rw [State.failPlate_plate_auto remake]
      exact ⟨rfl, rfl, rfl, fun q => State.failPlate_plate_ne⟩

end

/-- Settles O54: the equation of each route and doom, and a failed plate's record with its remake written out. -/
theorem stackingDecidesTheFate : Obligations.StackingDecidesTheFate := by
  intro s l b e p r remade joins failed
  have complete : joins = (remade && s.loadComplete r.load) := rfl
  have fails : ∀ g place c report, s.failPlate p g place c report = failed g place c report := by
    intro g place c report
    cases remake : r.load.remake with
    | manual =>
      have kept : remade = false := decide_eq_false fun auto => by cases remake.symm.trans auto
      rw [State.failPlate_manual remake]
      simp only [failed, complete, kept, Bool.false_and, Bool.or_false, Bool.false_eq_true, if_true, if_false]
      rfl
    | auto =>
      have again : remade = true := decide_eq_true remake
      rw [State.failPlate_remade remake]
      simp only [failed, complete, again, Bool.true_and, if_true]
      rfl
  refine ⟨fun route doom => ?_, fun d k v older newer route doom tiles current passed => ?_, fun c d route doom => ?_,
    fun failing auto => ?_, s.fate_leaves l b e⟩
  · rw [State.fate_delivered route doom]
    rfl
  · rw [State.fate_obsolete route doom, State.obsoleteInBin_eq (State.passedPage_eq tiles current passed), fails]
  · rw [State.fate_rejected route, doom, State.rejected_eq, fails]
    simp only [Option.map_some, Option.getD_some, Doom.cause_eq_obsolete]
    rfl
  · obtain ⟨g, place, c, report, fate⟩ := State.fate_fails (l := l) (b := b) failing
    rw [fate, State.failPlate_plate_auto (of_decide_eq_true auto), complete, auto, Bool.true_and]
    exact ⟨rfl, rfl, rfl⟩

end Sys2Proof.Machine
end

section
/-! SUPPORT. The Dispatcher's walk (R99 to R102): when a line is eligible, where the walk places a record, and that no record
it leaves in the ready list has an eligible line. -/

namespace Sys2Proof.Machine

set_option Elab.async false

section
variable {s t : State} {p q : Slot} {l : LineId}

/-! ### Eligibility (R99) -/

theorem LineMode.takesPlates_iff {m : LineMode} :
    m.takesPlates = true ↔ m = .running ∨ m = .pausing ∨ m = .paused ∨ m = .held := by
  cases m <;> decide

theorem LineConfig.expects_iff {c : LineConfig} {n : Nat} :
    c.expects n = true ↔ c.expected = none ∨ c.expected = some n := by
  unfold LineConfig.expects
  cases c.expected <;> simp

theorem State.eligible_iff : s.eligible p l = true ↔
    (s.plate p).load.mask.testBit l.val = true
    ∧ (s.line l).fitted = true
    ∧ ((s.line l).mode = .running ∨ (s.line l).mode = .pausing ∨ (s.line l).mode = .paused ∨ (s.line l).mode = .held)
    ∧ (s.line l).stock = some (s.plate p).load.sizeClass
    ∧ ((s.line l).config.expected = none ∨ (s.line l).config.expected = some (s.plate p).load.sizeClass)
    ∧ (s.line l).queue.length < 8 := by
  simp only [State.eligible, Bool.and_eq_true, decide_eq_true_eq, LineMode.takesPlates_iff, LineConfig.expects_iff,
    and_assoc]

/-! ### The line chosen (R101) -/

/-- The line that qualifies with the least figure, the lowest-numbered among equals, is the one chosen. -/
theorem leastLine_eq_some {q : LineId → Bool} {f : LineId → Nat} (qualifies : q l = true)
    (best : ∀ l', q l' = true → f l < f l' ∨ f l = f l' ∧ l ≤ l') : leastLine q f = some l := by
  cases chosen : leastLine q f with
  | none => rw [leastLine_none q f chosen l] at qualifies; cases qualifies
  | some l' =>
    obtain ⟨qualifies', best'⟩ := leastLine_some q f l' chosen
    have forth := best l' qualifies'
    have back := best' l qualifies
    rw [Fin.le_def] at forth back
    exact congrArg some (Fin.ext (by omega))

/-- Where no line qualifies none is chosen. -/
theorem leastLine_eq_none {q : LineId → Bool} {f : LineId → Nat} (barred : ∀ l, q l = false) : leastLine q f = none := by
  cases chosen : leastLine q f with
  | none => rfl
  | some l =>
    have qualifies := (leastLine_some q f l chosen).1
    rw [barred l] at qualifies
    cases qualifies

theorem State.walkOne_places (eligible : s.eligible p l = true) (best : ∀ l', s.eligible p l' = true →
    (s.line l).load < (s.line l').load ∨ (s.line l).load = (s.line l').load ∧ l ≤ l') : s.walkOne p = s.place p l := by
  rw [State.walkOne, leastLine_eq_some eligible best]

theorem State.walkOne_stays (barred : ∀ l, s.eligible p l = false) : s.walkOne p = s := by
  rw [State.walkOne, leastLine_eq_none barred]

/-- What the walk can do with one record. -/
theorem State.walkOne_cases (s : State) (p : Slot) :
    (s.walkOne p = s ∧ ∀ l, s.eligible p l = false) ∨ ∃ l, s.eligible p l = true ∧ s.walkOne p = s.place p l := by
  unfold State.walkOne
  split
  · rename_i chosen
    exact .inl ⟨rfl, leastLine_none _ _ chosen⟩
  · rename_i l chosen
    exact .inr ⟨l, (leastLine_some _ _ l chosen).1, rfl⟩

/-! ### Placement (R102) -/

/-- An URGENT record goes behind the URGENT records and ahead of the NORMAL ones. -/
theorem insertUrgent_between {urgent : Slot → Bool} {us ns : List Slot} (first : ∀ q ∈ us, urgent q = true)
    (last : ∀ q ∈ ns, urgent q = false) : insertUrgent urgent (us ++ ns) p = us ++ p :: ns := by
  induction us with
  | nil =>
    cases ns with
    | nil => rfl
    | cons n ns =>
      have absent : (n :: ns).any urgent = false := List.any_eq_false.mpr fun q hq => by rw [last q hq]; decide
      rw [List.nil_append, insertUrgent, absent]
      rfl
  | cons u us ih =>
    obtain ⟨head, tail⟩ := List.forall_mem_cons.mp first
    rw [List.cons_append, insertUrgent, List.any_cons, head, Bool.true_or, if_pos rfl, ih tail]
    rfl

/-- The state of a record's placement: the record is QUEUED, in the line's queue and out of the ready list. -/
theorem State.place_eq (s : State) (p : Slot) (l : LineId) : s.place p l = { s with
    ready := s.ready.filter fun q => decide (q ≠ p)
    plates := s.plates.set p.val { s.plate p with state := .queued, line := some l }
    lines := s.lines.set l.val { s.line l with queue := s.enqueue l p }
    reports := s.reports.offer { kind := .plateQueued, slot := some p, line := some l } } := by
  have classes : ((s.leaveReady p).setPlate p { s.plate p with state := .queued, line := some l }).urgent = s.urgent :=
    State.urgent_setPlate (s := s.leaveReady p) (r := { s.plate p with state := .queued, line := some l }) rfl
  have queue : ((s.leaveReady p).setPlate p { s.plate p with state := .queued, line := some l }).enqueue l p =
      s.enqueue l p := by
    unfold State.enqueue
    rw [classes]
    rfl
  unfold State.place
  dsimp only
  rw [State.leaveReady_plate, queue]
  rfl

theorem State.place_line (s : State) (p : Slot) (l m : LineId) : (s.place p l).line m =
    if m = l then { s.line l with queue := s.enqueue l p } else s.line m := by
  rw [State.place_eq]
  exact s.line_setLine l m _

theorem State.place_plate (s : State) (p q : Slot) (l : LineId) : (s.place p l).plate q =
    if q = p then { s.plate p with state := .queued, line := some l } else s.plate q := by
  rw [State.place_eq]
  exact s.plate_setPlate p q _

theorem State.place_ready (s : State) (p : Slot) (l : LineId) :
    (s.place p l).ready = s.ready.filter fun q => decide (q ≠ p) := by
  rw [State.place_eq]

theorem State.enqueue_normal (normal : s.urgent p = false) : s.enqueue l p = (s.line l).queue ++ [p] := by
  rw [State.enqueue, normal]
  rfl

theorem State.enqueue_urgent (urgent : s.urgent p = true) {us ns : List Slot} (queue : (s.line l).queue = us ++ ns)
    (first : ∀ q ∈ us, s.urgent q = true) (last : ∀ q ∈ ns, s.urgent q = false) : s.enqueue l p = us ++ p :: ns := by
  rw [State.enqueue, if_pos urgent, queue, insertUrgent_between first last]

/-! ### The walk (R101) -/

/-- A placement makes no line eligible: a queue has only grown. -/
theorem State.eligible_of_place {m : LineId} (h : (s.place p l).eligible q m = true) : s.eligible q m = true := by
  rw [State.eligible_iff] at h ⊢
  have load : ((s.place p l).plate q).load = (s.plate q).load := by
    rw [State.place_plate]
    split
    · rw [‹q = p›]
    · rfl
  rw [load, State.place_line] at h
  split at h
  · subst m
    obtain ⟨mask, fitted, mode, stock, expected, room⟩ := h
    refine ⟨mask, fitted, mode, stock, expected, Nat.lt_of_succ_lt ?_⟩
    rwa [(State.enqueue_perm s l p).length_eq] at room
  · exact h

theorem State.eligible_of_walkOne {m : LineId} (h : (s.walkOne p).eligible q m = true) : s.eligible q m = true := by
  obtain ⟨e, -⟩ | ⟨l, -, e⟩ := s.walkOne_cases p
  · rwa [e] at h
  · rw [e] at h
    exact State.eligible_of_place h

theorem State.mem_ready_of_walkOne (h : q ∈ (s.walkOne p).ready) : q ∈ s.ready := by
  obtain ⟨e, -⟩ | ⟨l, -, e⟩ := s.walkOne_cases p
  · rwa [e] at h
  · rw [e, State.place_ready] at h
    exact List.mem_of_mem_filter h

/-- The record walked over has left the ready list, or has no eligible line. -/
theorem State.walkOne_settles (left : p ∈ (s.walkOne p).ready) (l : LineId) : (s.walkOne p).eligible p l = false := by
  obtain ⟨e, stays⟩ | ⟨m, -, e⟩ := s.walkOne_cases p
  · rw [e]
    exact stays l
  · rw [e, State.place_ready] at left
    exact absurd rfl (of_decide_eq_true (List.mem_filter.mp left).2)

/-- Over the records of a list, the walk leaves in the ready list only records that had been there, makes no line eligible,
and leaves none of them there with an eligible line. -/
theorem State.foldl_walkOne (ps : List Slot) (s : State) :
    (∀ q ∈ (ps.foldl State.walkOne s).ready, q ∈ s.ready)
    ∧ (∀ q l, (ps.foldl State.walkOne s).eligible q l = true → s.eligible q l = true)
    ∧ ∀ q ∈ ps, q ∈ (ps.foldl State.walkOne s).ready → ∀ l, (ps.foldl State.walkOne s).eligible q l = false := by
  induction ps generalizing s with
  | nil => exact ⟨fun _ => id, fun _ _ => id, fun _ h => absurd h List.not_mem_nil⟩
  | cons p ps ih =>
    obtain ⟨ready, eligible, placed⟩ := ih (s.walkOne p)
    refine ⟨fun q hq => State.mem_ready_of_walkOne (ready q hq),
      fun q l h => State.eligible_of_walkOne (eligible q l h), fun q hq left l => ?_⟩
    rcases List.mem_cons.mp hq with rfl | hq
    · exact Bool.eq_false_iff.mpr fun h =>
        Bool.eq_false_iff.mp (State.walkOne_settles (ready q left) l) (eligible q l h)
    · exact placed q hq left l

/-- No record that the walk leaves in the ready list has an eligible line. -/
theorem State.walk_placed (s : State) : ∀ p ∈ s.walk.ready, ∀ l : LineId, s.walk.eligible p l = false := by
  obtain ⟨ready, -, placed⟩ := State.foldl_walkOne s.ready s
  exact fun p hp l => placed p (ready p hp) hp l

end

/-- Settles O27. -/
theorem eligibilityHasSixConditions : Obligations.EligibilityHasSixConditions := fun _ _ _ => State.eligible_iff

/-- Settles O26: the best eligible line is the one chosen, and a placement makes no line eligible. -/
theorem walkPlacesEveryRecord : Obligations.WalkPlacesEveryRecord := by
  refine ⟨fun s p l eligible best => ?_, fun s p => State.walkOne_stays, fun _ => rfl, State.walk_placed⟩
  have queue : ((s.walkOne p).line l).queue = s.enqueue l p := by
    rw [State.walkOne_places eligible best, State.place_line, if_pos rfl]
  refine ⟨?_, fun normal => ?_, fun us ns urgent parted first last => ?_⟩
  · rw [queue, State.walkOne_places eligible best, State.place_eq]
  · rw [queue, State.enqueue_normal normal]
  · rw [queue, State.enqueue_urgent urgent parted first last]

end Sys2Proof.Machine
end

section
/-! SUPPORT. What a line's queue gives back to the ready list (R97, R98), and the fault events of a line (R110, R156). -/

namespace Sys2Proof.Machine

set_option Elab.async false

section
variable {s : State} {p : Slot} {l : LineId} {c : Cause} {us ns : List Slot}

/-! ### The ready list in its classes (R97) -/

/-- URGENT records up to the first NORMAL one, if any. -/
def State.Parts (s : State) (us ns : List Slot) : Prop :=
  (∀ q ∈ us, s.urgent q = true) ∧ ∀ q, ns.head? = some q → s.urgent q = false

theorem State.Parts.takeWhile (h : s.Parts us ns) : (us ++ ns).takeWhile s.urgent = us := by
  rw [List.takeWhile_append_of_pos h.1]
  cases ns with
  | nil => exact List.append_nil us
  | cons n ns => rw [List.takeWhile_cons_of_neg (by rw [h.2 n rfl]; decide), List.append_nil]

theorem State.Parts.dropWhile (h : s.Parts us ns) : (us ++ ns).dropWhile s.urgent = ns := by
  rw [List.dropWhile_append_of_pos h.1]
  cases ns with
  | nil => rfl
  | cons n ns => exact List.dropWhile_cons_of_neg (by rw [h.2 n rfl]; decide)

/-- A list up to its first NORMAL record, and the rest. -/
theorem State.parts (s : State) (ps : List Slot) : s.Parts (ps.takeWhile s.urgent) (ps.dropWhile s.urgent) := by
  refine ⟨fun q hq => List.mem_takeWhile_imp hq, fun q hq => ?_⟩
  have first := List.head?_dropWhile_not s.urgent ps
  rw [hq] at first
  simpa using first

/-! ### Records returned (R98) -/

theorem State.returnToReady_urgent (s : State) (p : Slot) : (s.returnToReady p).urgent = s.urgent := by
  have classes := State.urgent_setPlate (s := s) (p := p) (r := { s.plate p with state := .ready, line := none }) rfl
  unfold State.returnToReady State.joinFront
  split <;> exact classes

theorem State.returnToReady_plate_self (s : State) (p : Slot) :
    (s.returnToReady p).plate p = { s.plate p with state := .ready, line := none } := by
  unfold State.returnToReady State.joinFront
  split <;> exact s.plate_setPlate_self p _

theorem State.returnToReady_ready (ready : s.ready = us ++ ns) (parts : s.Parts us ns) : (s.returnToReady p).ready =
    if s.urgent p then p :: (us ++ ns) else us ++ p :: ns := by
  have classes := State.urgent_setPlate (s := s) (p := p) (r := { s.plate p with state := .ready, line := none }) rfl
  unfold State.returnToReady State.joinFront
  rw [classes]
  split
  · exact congrArg (p :: ·) ready
  · unfold State.joinBetween
    rw [classes, State.setPlate_ready, ready, parts.takeWhile, parts.dropWhile]

/-- A return touches the records, the ready list and nothing else. -/
theorem State.returnToReady_only (s : State) (p : Slot) :
    ∃ plates ready, s.returnToReady p = { s with plates := plates, ready := ready } := by
  unfold State.returnToReady State.joinFront
  split <;> exact ⟨_, _, rfl⟩

theorem State.foldr_returnToReady_lists (ps : List Slot) (s : State) :
    ∃ plates ready, ps.foldr (fun p u => u.returnToReady p) s = { s with plates := plates, ready := ready } := by
  induction ps with
  | nil => exact ⟨_, _, rfl⟩
  | cons p ps ih =>
    obtain ⟨plates, ready, e⟩ := ih
    obtain ⟨plates', ready', e'⟩ := State.returnToReady_only { s with plates := plates, ready := ready } p
    exact ⟨plates', ready', by rw [List.foldr_cons, e, e']⟩

theorem State.foldr_returnToReady_plate (ps : List Slot) (s : State) (p : Slot) :
    (ps.foldr (fun p u => u.returnToReady p) s).plate p =
      if p ∈ ps then { s.plate p with state := .ready, line := none } else s.plate p := by
  induction ps with
  | nil => rfl
  | cons q ps ih =>
    rw [List.foldr_cons]
    by_cases same : p = q
    · subst same
      rw [State.returnToReady_plate_self, ih, if_pos List.mem_cons_self]
      split <;> rfl
    · rw [State.returnToReady_plate _ same, ih]
      simp only [List.mem_cons, same, false_or]

/-- The records returned keep their order within each class, at the front of the class. -/
theorem State.foldr_returnToReady_ready (ps : List Slot) (ready : s.ready = us ++ ns) (parts : s.Parts us ns) :
    (ps.foldr (fun p u => u.returnToReady p) s).urgent = s.urgent
    ∧ (ps.foldr (fun p u => u.returnToReady p) s).ready =
      (ps.filter s.urgent ++ us) ++ ((ps.filter fun q => !s.urgent q) ++ ns) := by
  induction ps with
  | nil => exact ⟨rfl, ready⟩
  | cons p ps ih =>
    obtain ⟨classes, list⟩ := ih
    have parted : (ps.foldr (fun p u => u.returnToReady p) s).Parts (ps.filter s.urgent ++ us)
        ((ps.filter fun q => !s.urgent q) ++ ns) := by
      rw [State.Parts, classes]
      refine ⟨fun q hq => ?_, fun q hq => ?_⟩
      · rcases List.mem_append.mp hq with hq | hq
        · exact (List.mem_filter.mp hq).2
        · exact parts.1 q hq
      · cases normal : ps.filter fun q => !s.urgent q with
        | nil => exact parts.2 q (by rwa [normal] at hq)
        | cons n rest =>
          rw [normal, List.cons_append, List.head?_cons, Option.some.injEq] at hq
          have mem : q ∈ ps.filter fun q => !s.urgent q := by rw [normal, hq]; exact List.mem_cons_self
          simpa using (List.mem_filter.mp mem).2
    rw [List.foldr_cons]
    refine ⟨(State.returnToReady_urgent _ p).trans classes, ?_⟩
    rw [State.returnToReady_ready list parted, classes]
    cases class' : s.urgent p <;> simp [class']

/-- The reports of records returned, and that nothing but the records, the ready list, the line's queue and the reports is
touched. -/
theorem State.returnEntries_eq (s : State) (l : LineId) {ps : List Slot} (given : ps ≠ []) : s.returnEntries l ps = { s with
    plates := (s.returnEntries l ps).plates
    ready := (s.returnEntries l ps).ready
    lines := s.lines.set l.val { s.line l with queue := (s.line l).queue.filter fun q => decide (q ∉ ps) }
    reports := (ps.map (unqueuedReport l)).foldl ReportQueue.offer s.reports
    told := true } := by
  unfold State.returnEntries
  rw [if_neg given]
  dsimp only
  obtain ⟨_, _, e⟩ := State.foldr_returnToReady_lists ps
    (s.setLine l { s.line l with queue := (s.line l).queue.filter fun q => decide (q ∉ ps) })
  rw [State.reportAll_eq, e]
  rfl

theorem State.returnEntries_plate (s : State) (l : LineId) (ps : List Slot) (p : Slot) : (s.returnEntries l ps).plate p =
    if p ∈ ps then { s.plate p with state := .ready, line := none } else s.plate p := by
  unfold State.returnEntries
  split
  · rename_i none_given
    rw [none_given, if_neg List.not_mem_nil]
  · dsimp only
    rw [State.reportAll_eq]
    exact State.foldr_returnToReady_plate ps _ p

theorem State.returnEntries_ready (l : LineId) (ps : List Slot) (ready : s.ready = us ++ ns) (parts : s.Parts us ns) :
    (s.returnEntries l ps).ready = (ps.filter s.urgent ++ us) ++ ((ps.filter fun q => !s.urgent q) ++ ns) := by
  unfold State.returnEntries
  split
  · rename_i none_given
    rw [none_given]
    exact ready
  · dsimp only
    rw [State.reportAll_eq]
    exact (State.foldr_returnToReady_ready
      (s := s.setLine l { s.line l with queue := (s.line l).queue.filter fun q => decide (q ∉ ps) }) ps ready parts).2

/-- The lines after the return of some of a queue's entries. -/
theorem State.returnEntries_line (s : State) (l m : LineId) (ps : List Slot) : (s.returnEntries l ps).line m =
    if m = l then { s.line l with queue := (s.line l).queue.filter fun q => decide (q ∉ ps) } else s.line m := by
  by_cases none_given : ps = []
  · subst none_given
    have all : (s.line l).queue.filter (fun q => decide (q ∉ [])) = (s.line l).queue := by simp
    rw [State.returnEntries, if_pos rfl, all]
    split
    · rw [‹m = l›]
    · rfl
  · rw [State.returnEntries_eq s l none_given]
    exact s.line_setLine l m _

/-- With its whole queue returned a line's queue is empty. -/
theorem State.returnQueue_line (s : State) (l m : LineId) : (s.returnEntries l (s.line l).queue).line m =
    if m = l then { s.line l with queue := [] } else s.line m := by
  have left : (s.line l).queue.filter (fun q => decide (q ∉ (s.line l).queue)) = [] :=
    List.filter_eq_nil_iff.mpr fun q hq => by simpa using hq
  rw [State.returnEntries_line, left]

/-! ### Fault events (R110) -/

/-- A line as a fault event leaves it, before its queue is returned (R110, R156). -/
def Line.faulted (ln : Line) (c : Cause) : Line :=
  { ln with
    mode := .faulted, faultCause := some c, transit := ln.transit.map fun e => { e with deadline := none } }

theorem State.faultLine_stops (notFaulted : (s.line l).mode ≠ .faulted) (o : Option Slot) : s.faultLine l c o =
    (State.returnEntries { s with
      lines := s.lines.set l.val ((s.line l).faulted c)
      reports := (s.reports.offer { kind := .lineFault, line := some l, slot := o, cause := some c }).offer
        { kind := .lineState, line := some l, cause := some (.lineState .faulted) } } l (s.line l).queue).tell := by
  have queue : ((s.setLine l ((s.line l).faulted c)).line l).queue = (s.line l).queue := by
    rw [State.line_setLine_self]
    rfl
  unfold State.faultLine
  rw [if_neg notFaulted]
  dsimp only
  rw [State.report_line, State.report_line]
  exact congrArg State.tell (congrArg (State.returnEntries _ l) queue)

theorem State.faultLine_line (notFaulted : (s.line l).mode ≠ .faulted) (o : Option Slot) (m : LineId) :
    (s.faultLine l c o).line m = if m = l then { (s.line l).faulted c with queue := [] } else s.line m := by
  have stopped : ∀ r, ({ s with lines := s.lines.set l.val ((s.line l).faulted c), reports := r } : State).line l =
      (s.line l).faulted c := fun _ => s.line_setLine_self l _
  have returned := fun r => State.returnQueue_line
    { s with lines := s.lines.set l.val ((s.line l).faulted c), reports := r } l m
  simp only [stopped] at returned
  rw [State.faultLine_stops notFaulted, State.tell_line]
  refine (returned _).trans ?_
  split
  · rfl
  · rename_i other
    exact (s.line_setLine l m _).trans (if_neg other)

end

/-- Settles O28. -/
theorem returnsKeepTheirOrder : Obligations.ReturnsKeepTheirOrder := by
  intro s l ps us ns given ready first last
  have parts : s.Parts us ns := ⟨first, fun q hq => last q (List.mem_of_mem_head? hq)⟩
  refine ⟨State.returnEntries_ready l ps ready parts, s.returnEntries_plate l ps, ?_, ?_, ?_⟩
  all_goals rw [State.returnEntries_eq s l given]
  rfl

/-- Settles O29. -/
theorem faultsStopTheLine : Obligations.FaultsStopTheLine := by
  refine fun s l c p => ⟨State.faultLine_faulted s l c p, fun notFaulted => ⟨State.faultLine_stops notFaulted p, ?_,
    fun m other => ?_⟩⟩
  · rw [State.faultLine_line notFaulted, if_pos rfl]
    rfl
  · rw [State.faultLine_line notFaulted, if_neg other]

end Sys2Proof.Machine
end

section
/-! SUPPORT. The line commands LINE_CONFIG, LINE_START, LINE_PAUSE and LINE_DRAIN (R105 to R107, R113): their answers in every
line state. -/

namespace Sys2Proof.Machine

set_option Elab.async false

section
variable {s : State} {l : LineId} {f : ControlFrame} {code : Byte} {args : List Byte}

/-! ### Commands of a line (R105) -/

/-- A line command that names a line above 3 is refused. -/
theorem taking_line_refused (run : List Byte → State → LineId → State × Answer) (h : s.Offers f code args)
    (hcode : code ≠ 0x20) (shape : (code.toNat, args.length) ∈ fixedShapes) (line : 3 < byteAt args 0) :
    taking code.toNat (fun args s => onLineCommand args s (run args s)) s =
      .next (s.replied f code { status := .badField, field := 1 }) := by
  have bad : firstBad (lineFields args) = some 1 := firstBad_singleton_bad (not_within_zero line)
  rw [taking_of_fixed _ h hcode shape, onLineCommand, checked_bad _ _ _ 1 bad]
  rfl

/-- A line command runs on the line it names. -/
theorem taking_line_runs (run : List Byte → State → LineId → State × Answer) (h : s.Offers f code args)
    (hcode : code ≠ 0x20) (shape : (code.toNat, args.length) ∈ fixedShapes) (line : byteAt args 0 = l.val) :
    taking code.toNat (fun args s => onLineCommand args s (run args s)) s =
      .next ((run args s.dropControl l).1.placeReply f code (run args s.dropControl l).2).finish := by
  have ok : firstBad (lineFields args) = none :=
    firstBad_singleton_ok (within_zero (by rw [line]; exact Nat.le_of_lt_succ l.isLt))
  have operand : lineOperand args = l := by
    apply Fin.ext
    show byteAt args 0 % 4 = l.val
    rw [line, Nat.mod_eq_of_lt l.isLt]
  rw [taking_of_fixed _ h hcode shape, onLineCommand, checked_ok _ _ _ ok, operand]

theorem length_u8 (n : Nat) : (u8 n).length = 1 := rfl

theorem byteAt_u8_line (l : LineId) : byteAt (u8 l.val) 0 = l.val := toNat_byte_of_lt (l.isLt.trans (by decide))

/-- A command that is answered OK and changes nothing. -/
theorem unchanged_next (s : State) (f : ControlFrame) (code : Byte) :
    (Host.Outcome.next ((unchanged s.dropControl).1.placeReply f code (unchanged s.dropControl).2).finish :
      Host.Outcome State Fault Refusal) = .next (s.replied f code {}) := rfl

theorem exec_lineConfig_eq (s : State) : exec .lineConfig s = taking (0x30 : Byte).toNat
    (fun args s => onLineCommand args s fun l => runLineConfig args l s) s := rfl

theorem exec_lineStart_eq (s : State) : exec .lineStart s = taking (0x31 : Byte).toNat
    (fun args s => onLineCommand args s fun l => runLineStart l s) s := rfl

theorem exec_linePause_eq (s : State) : exec .linePause s = taking (0x32 : Byte).toNat
    (fun args s => onLineCommand args s fun l => runLinePause l s) s := rfl

theorem exec_lineDrain_eq (s : State) : exec .lineDrain s = taking (0x33 : Byte).toNat
    (fun args s => onLineCommand args s fun l => runLineDrain l s) s := rfl

theorem exec_lineReset_eq (s : State) : exec .lineReset s = taking (0x34 : Byte).toNat
    (fun args s => onLineCommand args s fun l => carryOut (s.resetLine l)) s := rfl

theorem exec_lineClearFault_eq (s : State) : exec .lineClearFault s = taking (0x35 : Byte).toNat
    (fun args s => onLineCommand args s fun l => runLineClearFault l s) s := rfl

/-! ### LINE_START, LINE_PAUSE, LINE_DRAIN (R106, R107) -/

theorem runLineStart_refuses (h : (s.line l).fitted = false ∨ (s.line l).mode = .faulted) :
    runLineStart l s = refuse s .wrongState := if_pos h.symm

theorem runLineStart_running (fitted : (s.line l).fitted = true) (running : (s.line l).mode = .running) :
    runLineStart l s = unchanged s := by
  unfold runLineStart
  rw [if_neg (by simp [fitted, running]), if_pos running]

theorem runLineStart_starts (fitted : (s.line l).fitted = true) (faulted : (s.line l).mode ≠ .faulted)
    (running : (s.line l).mode ≠ .running) : runLineStart l s = carryOut ((s.setMode l .running).startTest l) := by
  unfold runLineStart
  rw [if_neg (by simp [fitted, faulted]), if_neg running]

theorem runLinePause_pauses (running : (s.line l).mode = .running) :
    runLinePause l s = carryOut (s.setMode l (if (s.line l).exposure = none then .paused else .pausing)) := by
  unfold runLinePause
  rw [running]

theorem runLinePause_unchanged (mode : (s.line l).mode = .pausing ∨ (s.line l).mode = .paused ∨ (s.line l).mode = .held) :
    runLinePause l s = unchanged s := by
  unfold runLinePause
  rcases mode with mode | mode | mode <;> rw [mode]

theorem runLinePause_refuses
    (mode : (s.line l).mode = .stopped ∨ (s.line l).mode = .draining ∨ (s.line l).mode = .faulted) :
    runLinePause l s = refuse s .wrongState := by
  unfold runLinePause
  rcases mode with mode | mode | mode <;> rw [mode]

theorem runLineDrain_drains (mode : (s.line l).mode = .running ∨ (s.line l).mode = .pausing ∨ (s.line l).mode = .paused
    ∨ (s.line l).mode = .held) :
    runLineDrain l s = carryOut (((s.setMode l .draining).drainTest l).startTest l) := by
  unfold runLineDrain
  rcases mode with mode | mode | mode | mode <;> rw [mode]

theorem runLineDrain_unchanged (mode : (s.line l).mode = .stopped ∨ (s.line l).mode = .draining) :
    runLineDrain l s = unchanged s := by
  unfold runLineDrain
  rcases mode with mode | mode <;> rw [mode]

theorem runLineDrain_refuses (faulted : (s.line l).mode = .faulted) : runLineDrain l s = refuse s .wrongState := by
  unfold runLineDrain
  rw [faulted]

/-- A line that is STOPPED starts nothing. -/
theorem State.startTest_stopped (stopped : (s.line l).mode = .stopped) : s.startTest l = s := by
  unfold State.startTest Line.startReady
  rw [stopped]
  rfl

/-- The LINE_STATE report of a line's new state. -/
def stateReport (l : LineId) (m : LineMode) : Report := { kind := .lineState, line := some l, cause := some (.lineState m) }

/-- A line in another state, its report made and the Dispatcher told. -/
def State.changed (s : State) (l : LineId) (m : LineMode) : State := { s with
  lines := s.lines.set l.val { s.line l with mode := m }
  reports := s.reports.offer (stateReport l m)
  told := true }

theorem State.setMode_eq_changed {m : LineMode} (other : (s.line l).mode ≠ m) : s.setMode l m = s.changed l m :=
  State.setMode_change s l m other

theorem State.changed_line (s : State) (l : LineId) (m : LineMode) : (s.changed l m).line l = { s.line l with mode := m } :=
  s.line_setLine_self l _

/-- A line set draining with nothing on it stops at once. -/
theorem State.drain_empty (draining : (s.line l).mode ≠ .draining) (queue : (s.line l).queue = [])
    (exposure : (s.line l).exposure = none) : ((s.setMode l .draining).drainTest l).startTest l = { s with
      lines := s.lines.set l.val { s.line l with mode := .stopped }
      reports := (s.reports.offer (stateReport l .draining)).offer (stateReport l .stopped)
      told := true } := by
  have line := s.changed_line l .draining
  have test : (s.changed l .draining).drainTest l = (s.changed l .draining).changed l .stopped := by
    unfold State.drainTest
    rw [if_pos (by rw [line]; exact ⟨rfl, queue, exposure⟩), State.setMode_eq_changed (by rw [line]; exact nofun)]
  have stopped : (((s.changed l .draining).changed l .stopped).line l).mode = .stopped := by rw [State.changed_line]
  rw [State.setMode_eq_changed draining, test, State.startTest_stopped stopped]
  unfold State.changed
  simp only [Vector.set_set]
  rw [show State.line { s with
    lines := s.lines.set l.val { s.line l with mode := .draining }
    reports := s.reports.offer (stateReport l .draining)
    told := true } l = { s.line l with mode := .draining } from line]

/-- A line set draining with something on it stays DRAINING. -/
theorem State.drain_busy (draining : (s.line l).mode ≠ .draining)
    (busy : (s.line l).queue ≠ [] ∨ (s.line l).exposure ≠ none) :
    (s.setMode l .draining).drainTest l = s.changed l .draining := by
  have line := s.changed_line l .draining
  rw [State.setMode_eq_changed draining]
  unfold State.drainTest
  rw [if_neg]
  rw [line]
  rintro ⟨-, queue, exposure⟩
  exact busy.elim (· queue) (· exposure)

/-! ### LINE_CONFIG (R113) -/

theorem capacityFields_aligned (args : List Byte) (n : Nat) :
    Aligned 6 ((List.range n).map fun b => (6 + b, within 1 60 (byteAt args (5 + b))))
      ((List.range n).map fun b => 1 ≤ byteAt args (5 + b) ∧ byteAt args (5 + b) ≤ 60) := by
  induction n with
  | zero => exact .nil 6
  | succ n ih =>
    rw [List.range_succ, List.map_append, List.map_append]
    refine ih.append ?_
    rw [List.length_map, List.length_range]
    exact .field within_iff (.nil _)

/-- The fields 2 to 15 are examined in order, the line field having been examined before them. -/
theorem configFields_examined (line : byteAt args 0 ≤ 3) : Examines (configFields args)
    ([byteAt args 0 ≤ 3, byteAt args 1 ≤ 8, 5 ≤ byteAt args 2 ∧ byteAt args 2 ≤ 250,
      5 ≤ byteAt args 3 ∧ byteAt args 3 ≤ 250, 5 ≤ byteAt args 4 ∧ byteAt args 4 ≤ 120]
      ++ (List.range 10).map fun b => 1 ≤ byteAt args (5 + b) ∧ byteAt args (5 + b) ≤ 60) :=
  Aligned.examines <| Aligned.append
    (.unexamined line <| .field within_zero_iff <| .field within_iff <| .field within_iff <| .field within_iff <| .nil _)
    (capacityFields_aligned args 10)

/-- A bin under its new capacity. -/
theorem Line.bin_withCapacities (ln : Line) (capacity : BinId → Nat) (b : BinId) :
    (ln.withCapacities capacity).bin b = { ln.bin b with capacity := capacity b } := by
  simp [Line.bin, Line.withCapacities]

/-- BIN_FULL is made for each bin that was not full and is full under its new capacity (R113). -/
theorem fullReports_withCapacities (l : LineId) (ln : Line) (c : LineConfig) (capacity : BinId → Nat) :
    fullReports l ln (({ ln with config := c }).withCapacities capacity) =
      ((List.finRange 10).filter fun b : BinId =>
        decide ((ln.bin b).count < (ln.bin b).capacity ∧ capacity b ≤ (ln.bin b).count)).map fun b =>
          { kind := .binFull, line := some l, bin := some b } := by
  unfold fullReports
  congr 1
  refine List.filter_congr fun b _ => ?_
  rw [Line.bin_withCapacities]
  show (!decide ((ln.bin b).capacity ≤ (ln.bin b).count) && decide (capacity b ≤ (ln.bin b).count)) = _
  rw [Bool.decide_and, ← decide_not]
  simp only [Nat.not_le]

theorem State.configure_eq (s : State) (l : LineId) (c : LineConfig) (capacity : BinId → Nat) :
    s.configure l c capacity = State.routeWaiting { s with
      lines := s.lines.set l.val (({ s.line l with config := c }).withCapacities capacity)
      reports := (((List.finRange 10).filter fun b : BinId =>
        decide (((s.line l).bin b).count < ((s.line l).bin b).capacity ∧ capacity b ≤ ((s.line l).bin b).count)).map
          fun b => ({ kind := .binFull, line := some l, bin := some b } : Report)).foldl ReportQueue.offer s.reports } l := by
  unfold State.configure
  dsimp only
  rw [State.reportAll_eq, fullReports_withCapacities]
  rfl

theorem runLineConfig_refuses (stopped : (s.line l).mode ≠ .stopped) : runLineConfig args l s = refuse s .wrongState :=
  if_neg stopped

theorem runLineConfig_checks (stopped : (s.line l).mode = .stopped) : runLineConfig args l s =
    checked (configFields args) s (carryOut (s.configure l (configOperand args) (capacityOperand args))) :=
  if_pos stopped

end

/-- Settles O31: each command by the line's state. -/
theorem linesStartPauseAndDrain : Obligations.LinesStartPauseAndDrain := by
  refine ⟨fun s f l h => ?_, fun s f l h => ?_, fun s f l h => ?_, fun s f args line => ?_⟩
  · rw [exec_lineStart_eq, taking_line_runs (fun _ s l => runLineStart l s) h (by decide)
      (by rw [length_u8]; decide) (byteAt_u8_line l)]
    refine ⟨fun fitted faulted running => ?_, fun fitted running => ?_, fun barred => ?_⟩
    · rw [runLineStart_starts (s := s.dropControl) fitted faulted running, carryOut_next,
        State.setMode_eq_changed (s := s.dropControl) running]
      rfl
    · rw [runLineStart_running (s := s.dropControl) fitted running, unchanged_next]
    · rw [runLineStart_refuses (s := s.dropControl) barred, refuse_next]
  · intro m
    rw [exec_linePause_eq, taking_line_runs (fun _ s l => runLinePause l s) h (by decide)
      (by rw [length_u8]; decide) (byteAt_u8_line l)]
    refine ⟨fun running => ?_, fun mode => ?_, fun mode => ?_⟩
    · have other : (s.dropControl.line l).mode ≠ m := by
        rw [State.dropControl_line, running]
        unfold m
        split <;> decide
      rw [runLinePause_pauses (s := s.dropControl) running, carryOut_next]
      exact congrArg (fun u => Host.Outcome.next (State.carried u f 0x32)) (State.setMode_eq_changed other)
    · rw [runLinePause_unchanged (s := s.dropControl) mode, unchanged_next]
    · rw [runLinePause_refuses (s := s.dropControl) mode, refuse_next]
  · intro draining stopped
    rw [exec_lineDrain_eq, taking_line_runs (fun _ s l => runLineDrain l s) h (by decide)
      (by rw [length_u8]; decide) (byteAt_u8_line l)]
    refine ⟨fun mode => ?_, fun mode => ?_, fun mode => ?_⟩
    · have other : (s.dropControl.line l).mode ≠ .draining := by
        rw [State.dropControl_line]
        rcases mode with mode | mode | mode | mode <;> rw [mode] <;> decide
      rw [runLineDrain_drains (s := s.dropControl) mode, carryOut_next]
      refine ⟨fun queue exposure => ?_, fun busy => ?_⟩
      · rw [State.drain_empty other queue exposure]
        rfl
      · rw [State.drain_busy other busy]
        rfl
    · rw [runLineDrain_unchanged (s := s.dropControl) mode, unchanged_next]
    · rw [runLineDrain_refuses (s := s.dropControl) mode, refuse_next]
  · refine ⟨fun h length => ?_, fun length => ⟨fun h => ?_, fun h => ?_, fun h => ?_, fun h => ?_, fun h => ?_⟩⟩
    · rw [exec_lineConfig_eq, taking_line_refused (fun args s l => runLineConfig args l s) h (by decide)
        (by rw [length]; decide) line]
    · rw [exec_lineStart_eq, taking_line_refused (fun _ s l => runLineStart l s) h (by decide)
        (by rw [length]; decide) line]
    · rw [exec_linePause_eq, taking_line_refused (fun _ s l => runLinePause l s) h (by decide)
        (by rw [length]; decide) line]
    · rw [exec_lineDrain_eq, taking_line_refused (fun _ s l => runLineDrain l s) h (by decide)
        (by rw [length]; decide) line]
    · rw [exec_lineReset_eq, taking_line_refused (fun _ s l => carryOut (s.resetLine l)) h (by decide)
        (by rw [length]; decide) line]
    · rw [exec_lineClearFault_eq, taking_line_refused (fun _ s l => runLineClearFault l s) h (by decide)
        (by rw [length]; decide) line]

/-- Settles O30: the state is examined before the fields, and the fields in the order of R113. -/
theorem lineConfigAnswers : Obligations.LineConfigAnswers := by
  intro s f args l h length line after newlyFull
  rw [exec_lineConfig_eq, taking_line_runs (fun args s l => runLineConfig args l s) h (by decide)
    (by rw [length]; decide) line]
  refine ⟨fun stopped => ?_, fun i stopped bad => ?_, fun stopped ok => ?_,
    configFields_examined (by rw [line]; exact Nat.le_of_lt_succ l.isLt)⟩
  · rw [runLineConfig_refuses (s := s.dropControl) stopped, refuse_next]
  · rw [runLineConfig_checks (s := s.dropControl) stopped, checked_bad _ _ _ i bad]
    rfl
  · rw [runLineConfig_checks (s := s.dropControl) stopped, checked_ok _ _ _ ok, carryOut_next, State.configure_eq]
    rfl

end Sys2Proof.Machine
end

section
/-! SUPPORT. LINE_RESET and LINE_CLEAR_FAULT (R111, R112, R157, R158): the spoiling of all records on a line, and what the two
commands leave of the line, of the records and of the ready list. -/

namespace Sys2Proof.Machine

set_option Elab.async false

section
variable {s t : State} {p q : Slot} {l : LineId} {c : Cause} {us ns : List Slot}

/-! ### One record spoiled (R70, R75) -/

/-- A record as spoiling leaves it: SPOILED, or remade when AUTO. -/
def PlateRecord.ruined (r : PlateRecord) (c : Cause) (complete : Bool) : PlateRecord :=
  match r.load.remake with
  | .manual => r.spoilt c
  | .auto => r.remade c complete

theorem PlateRecord.ruined_manual {r : PlateRecord} (manual : r.load.remake = .manual) (c : Cause) (complete : Bool) :
    r.ruined c complete = r.spoilt c := by
  unfold PlateRecord.ruined
  rw [manual]

theorem PlateRecord.ruined_auto {r : PlateRecord} (auto : r.load.remake = .auto) (c : Cause) (complete : Bool) :
    r.ruined c complete = r.remade c complete := by
  unfold PlateRecord.ruined
  rw [auto]

/-- What every spoiling leaves of a record, remade or not. -/
theorem PlateRecord.ruined_fields (r : PlateRecord) (c : Cause) (complete : Bool) :
    (r.ruined c complete).line = none ∧ (r.ruined c complete).doom = none ∧ (r.ruined c complete).withdraw = false
    ∧ (r.ruined c complete).lastCause = some c ∧ (r.ruined c complete).pass = r.pass
    ∧ (r.ruined c complete).load = r.load := by
  unfold PlateRecord.ruined
  cases r.load.remake <;> exact ⟨rfl, rfl, rfl, rfl, rfl, rfl⟩

/-- A record spoiled twice is as after the first time. -/
theorem PlateRecord.ruined_ruined (r : PlateRecord) (c : Cause) (complete : Bool) :
    (r.ruined c complete).ruined c complete = r.ruined c complete := by
  cases remake : r.load.remake with
  | manual =>
    rw [PlateRecord.ruined_manual remake]
    exact PlateRecord.ruined_manual (r := r.spoilt c) remake c complete
  | auto =>
    rw [PlateRecord.ruined_auto remake]
    exact PlateRecord.ruined_auto (r := r.remade c complete) remake c complete

/-- A spoiled record comes back to the ready list: it is remade, and every page of its tiles is COMPLETE. -/
def State.comesBack (s : State) (p : Slot) : Bool :=
  decide ((s.plate p).load.remake = .auto) && s.loadComplete (s.plate p).load

/-- A spoiling touches its record, the ready list and the word to the Dispatcher alone. -/
theorem State.spoil_eq (s : State) (p : Slot) (c : Cause) : s.spoil p c = { s with
    plates := s.plates.set p.val ((s.plate p).ruined c (s.loadComplete (s.plate p).load))
    ready := if s.comesBack p then
        if s.urgent p then s.ready.takeWhile s.urgent ++ p :: s.ready.dropWhile s.urgent else s.ready ++ [p]
      else s.ready
    told := s.told || s.comesBack p } := by
  cases remake : (s.plate p).load.remake with
  | manual =>
    have stays : s.comesBack p = false := by simp [State.comesBack, remake]
    rw [State.spoil_manual remake, PlateRecord.ruined_manual remake, stays, Bool.or_false]
    rfl
  | auto =>
    have comes : s.comesBack p = s.loadComplete (s.plate p).load := by simp [State.comesBack, remake]
    have classes := State.urgent_setPlate (s := s) (p := p) (r := (s.plate p).spoilt c) rfl
    rw [State.spoil_auto remake, State.remake_record, State.remake_ready, State.remake_told, classes,
      State.plate_setPlate_self, PlateRecord.ruined_auto remake, comes]
    have plates : ∀ x, (s.setPlate p ((s.plate p).spoilt c)).plates.set p.val x = s.plates.set p.val x := fun _ =>
      Vector.set_set ..
    have complete : (s.setPlate p ((s.plate p).spoilt c)).loadComplete ((s.plate p).spoilt c).load =
      s.loadComplete (s.plate p).load := rfl
    rw [plates, complete]
    cases s.loadComplete (s.plate p).load with
    | false => rfl
    | true =>
      have test : (if s.urgent p then s.ready.takeWhile s.urgent ++ p :: s.ready.dropWhile s.urgent else s.ready ++ [p]) =
          if (s.plate p).load.priority = .urgent then s.ready.takeWhile s.urgent ++ p :: s.ready.dropWhile s.urgent
          else s.ready ++ [p] := by
        simp only [State.urgent, decide_eq_true_eq]
      rw [if_pos rfl, if_pos rfl, if_neg (by decide), test]
      rfl

theorem State.spoil_plate (s : State) (p q : Slot) (c : Cause) : (s.spoil p c).plate q =
    if q = p then (s.plate p).ruined c (s.loadComplete (s.plate p).load) else s.plate q := by
  rw [State.spoil_eq]
  exact s.plate_setPlate p q _

theorem State.spoil_load (s : State) (p q : Slot) (c : Cause) : ((s.spoil p c).plate q).load = (s.plate q).load := by
  rw [State.spoil_plate]
  split
  · rw [(PlateRecord.ruined_fields _ c _).2.2.2.2.2, ‹q = p›]
  · rfl

theorem State.spoil_urgent (s : State) (p : Slot) (c : Cause) : (s.spoil p c).urgent = s.urgent := by
  funext q
  rw [State.urgent, State.urgent, State.spoil_load]

theorem State.spoil_loadComplete (s : State) (p : Slot) (c : Cause) : (s.spoil p c).loadComplete = s.loadComplete := by
  rw [State.spoil_eq]
  rfl

theorem State.spoil_comesBack (s : State) (p : Slot) (c : Cause) : (s.spoil p c).comesBack = s.comesBack := by
  funext q
  rw [State.comesBack, State.comesBack, State.spoil_load, State.spoil_loadComplete]

/-- A spoiling does not look at the lines. -/
theorem State.spoil_setLine (s : State) (p : Slot) (c : Cause) (l : LineId) (ln : Line) :
    (s.setLine l ln).spoil p c = (s.spoil p c).setLine l ln := by
  rw [State.spoil_eq, State.spoil_eq s]
  rfl

/-! ### Several records spoiled -/

/-- The records of several slots are spoiled, one after another. -/
def State.spoilAll (s : State) (ps : List Slot) (c : Cause) : State := ps.foldl (fun u p => u.spoil p c) s

theorem State.spoilAll_cons (s : State) (p : Slot) (ps : List Slot) (c : Cause) :
    s.spoilAll (p :: ps) c = (s.spoil p c).spoilAll ps c := rfl

theorem State.spoilAll_only (s : State) (ps : List Slot) (c : Cause) :
    ∃ plates ready told, s.spoilAll ps c = { s with plates := plates, ready := ready, told := told } := by
  induction ps generalizing s with
  | nil => exact ⟨_, _, _, rfl⟩
  | cons p ps ih =>
    obtain ⟨plates, ready, told, e⟩ := ih (s.spoil p c)
    refine ⟨plates, ready, told, ?_⟩
    rw [State.spoilAll_cons, e, State.spoil_eq]

theorem State.spoilAll_setLine (s : State) (ps : List Slot) (c : Cause) (l : LineId) (ln : Line) :
    (s.setLine l ln).spoilAll ps c = (s.spoilAll ps c).setLine l ln := by
  induction ps generalizing s with
  | nil => rfl
  | cons p ps ih => rw [State.spoilAll_cons, State.spoilAll_cons, State.spoil_setLine, ih]

theorem State.spoilAll_line (s : State) (ps : List Slot) (c : Cause) (m : LineId) :
    (s.spoilAll ps c).line m = s.line m := by
  obtain ⟨_, _, _, e⟩ := s.spoilAll_only ps c
  rw [e]
  rfl

theorem State.spoilAll_plate (s : State) (ps : List Slot) (c : Cause) (q : Slot) : (s.spoilAll ps c).plate q =
    if q ∈ ps then (s.plate q).ruined c (s.loadComplete (s.plate q).load) else s.plate q := by
  induction ps generalizing s with
  | nil => rfl
  | cons p ps ih =>
    rw [State.spoilAll_cons, ih, State.spoil_load, State.spoil_loadComplete, State.spoil_plate]
    by_cases same : q = p
    · subst same
      rw [if_pos rfl, PlateRecord.ruined_ruined, ite_self, if_pos List.mem_cons_self]
    · rw [if_neg same]
      simp only [List.mem_cons, same, false_or]

/-- The records remade READY join the ready list at the back of their classes. -/
theorem State.spoilAll_ready (ps : List Slot) (c : Cause) (ready : s.ready = us ++ ns) (parts : s.Parts us ns) :
    (s.spoilAll ps c).urgent = s.urgent
    ∧ (s.spoilAll ps c).Parts (us ++ (ps.filter s.comesBack).filter s.urgent)
      (ns ++ (ps.filter s.comesBack).filter fun q => !s.urgent q)
    ∧ (s.spoilAll ps c).ready = (us ++ (ps.filter s.comesBack).filter s.urgent)
      ++ (ns ++ (ps.filter s.comesBack).filter fun q => !s.urgent q) := by
  induction ps generalizing s us ns with
  | nil =>
    simp only [List.filter_nil, List.append_nil]
    exact ⟨rfl, parts, ready⟩
  | cons p ps ih =>
    have list : (s.spoil p c).ready = if s.comesBack p then
        if s.urgent p then us ++ p :: ns else us ++ ns ++ [p] else us ++ ns := by
      rw [State.spoil_eq, ready, parts.takeWhile, parts.dropWhile]
    have classes := s.spoil_urgent p c
    have back := s.spoil_comesBack p c
    have step : ∀ us' ns', (s.spoil p c).ready = us' ++ ns' → s.Parts us' ns' → _ := fun us' ns' ready' parts' =>
      ih (s := s.spoil p c) (us := us') (ns := ns') ready' (by rw [State.Parts, classes]; exact parts')
    simp only [classes, back] at step
    rw [State.spoilAll_cons]
    cases comes : s.comesBack p with
    | false =>
      rw [comes] at list
      simpa only [List.filter_cons, comes, Bool.false_eq_true, if_false] using step us ns list parts
    | true =>
      cases urgent : s.urgent p with
      | true =>
        rw [comes, urgent] at list
        have joined := step (us ++ [p]) ns (by rw [list]; simp) ⟨fun q hq => ?_, parts.2⟩
        · simpa only [List.filter_cons, comes, urgent, if_true, List.append_assoc, List.cons_append, List.nil_append,
            Bool.not_true, Bool.false_eq_true, if_false] using joined
        · rcases List.mem_append.mp hq with hq | hq
          · exact parts.1 q hq
          · rw [List.mem_singleton.mp hq, urgent]
      | false =>
        rw [comes, urgent] at list
        have joined := step us (ns ++ [p]) (by rw [list]; simp) ⟨parts.1, fun q hq => ?_⟩
        · simpa only [List.filter_cons, comes, urgent, if_true, List.append_assoc, List.cons_append, List.nil_append,
            Bool.not_false, Bool.false_eq_true, if_false] using joined
        · cases ns with
          | nil =>
            rw [List.nil_append, List.head?_cons, Option.some.injEq] at hq
            rw [← hq, urgent]
          | cons n ns => exact parts.2 q hq

/-! ### The transit list cleared (R111, R157) -/

theorem State.setLine_line_self (s : State) (l : LineId) : s.setLine l (s.line l) = s := by
  unfold State.setLine State.line
  rw [Vector.set_getElem_self]

theorem State.clearEntry_eq (s : State) (l : LineId) (c : Cause) (e : TransitEntry) :
    State.clearEntry l c s e = (s.spoil e.slot c).setLine l ((s.line l).dropEntry e.slot) :=
  s.spoil_setLine e.slot c l _

/-- The entries of a list are removed and their records spoiled. -/
theorem State.foldl_clearEntry (es : List TransitEntry) (s : State) (l : LineId) (c : Cause) :
    es.foldl (State.clearEntry l c) s = (s.setLine l { s.line l with
      transit := (s.line l).transit.filter fun e => decide (e.slot ∉ es.map TransitEntry.slot) }).spoilAll
        (es.map TransitEntry.slot) c := by
  induction es generalizing s with
  | nil =>
    have all : (s.line l).transit.filter (fun e => decide (e.slot ∉ [].map TransitEntry.slot)) = (s.line l).transit := by
      simp
    rw [all, State.spoilAll_setLine]
    exact (s.setLine_line_self l).symm
  | cons e es ih =>
    have left : (s.line l).transit.filter (fun f => decide (f.slot ∉ (e :: es).map TransitEntry.slot)) =
        ((s.line l).dropEntry e.slot).transit.filter fun f => decide (f.slot ∉ es.map TransitEntry.slot) := by
      rw [Line.dropEntry, List.filter_filter]
      refine List.filter_congr fun f _ => ?_
      simp [Bool.and_comm]
    rw [List.foldl_cons, ih, State.clearEntry_eq, State.line_setLine_self, State.setLine_setLine, left,
      List.map_cons, State.spoilAll_cons, State.spoil_setLine]
    rfl

/-- Every record in transit is spoiled, and the transit list is empty. -/
theorem State.clearTransit_eq (s : State) (l : LineId) (c : Cause) : s.clearTransit l c =
    (s.setLine l { s.line l with transit := [] }).spoilAll ((s.line l).transit.map TransitEntry.slot) c := by
  have none_left : (s.line l).transit.filter
      (fun e => decide (e.slot ∉ (s.line l).transit.map TransitEntry.slot)) = [] :=
    List.filter_eq_nil_iff.mpr fun e he => by simpa using ⟨e, he, rfl⟩
  rw [State.clearTransit, State.foldl_clearEntry, none_left]

/-! ### The line stopped (R111, R112) -/

theorem State.stopLine_eq (s : State) (l : LineId) : s.stopLine l = { s with
    lines := s.lines.set l.val { s.line l with faultCause := none, mode := .stopped }
    reports := if (s.line l).mode = .stopped then s.reports else s.reports.offer (stateReport l .stopped)
    told := s.told || decide ((s.line l).mode ≠ .stopped) } := by
  have line := s.line_setLine_self l { s.line l with faultCause := none }
  unfold State.stopLine
  by_cases stopped : (s.line l).mode = .stopped
  · have same : { s.line l with faultCause := none, mode := .stopped } = { s.line l with faultCause := none } := by
      rw [← stopped]
    rw [State.setMode_same _ _ _ (by rw [line]; exact stopped), same, if_pos stopped, stopped]
    simp [State.setLine]
  · rw [State.setMode_eq_changed (by rw [line]; exact stopped), State.changed, line, if_neg stopped]
    simp [State.setLine, stopped, Vector.set_set]

theorem State.stopLine_line (s : State) (l m : LineId) : (s.stopLine l).line m =
    if m = l then { s.line l with faultCause := none, mode := .stopped } else s.line m := by
  rw [State.stopLine_eq]
  exact s.line_setLine l m _

/-! ### LINE_CLEAR_FAULT (R111, R157) -/

theorem runLineClearFault_refuses (mode : (s.line l).mode ≠ .faulted) : runLineClearFault l s = refuse s .wrongState :=
  if_neg mode

theorem runLineClearFault_busy (mode : (s.line l).mode = .faulted) (exposure : (s.line l).exposure ≠ none) :
    runLineClearFault l s = refuse s .busy := by
  rw [runLineClearFault, if_pos mode, if_neg exposure]

theorem runLineClearFault_clears (mode : (s.line l).mode = .faulted) (exposure : (s.line l).exposure = none) :
    runLineClearFault l s = carryOut ((s.clearTransit l .lineFault).stopLine l) := by
  rw [runLineClearFault, if_pos mode, if_pos exposure]

theorem State.clearTransit_line (s : State) (l m : LineId) (c : Cause) : (s.clearTransit l c).line m =
    if m = l then { s.line l with transit := [] } else s.line m := by
  rw [State.clearTransit_eq, State.spoilAll_line]
  exact s.line_setLine l m _

/-- The fault cleared: the records, the ready list and the line apart, the LINE_STATE report is all that changes. -/
theorem State.clearFault_eq (faulted : (s.line l).mode = .faulted) (c : Cause) : (s.clearTransit l c).stopLine l = { s with
    plates := ((s.clearTransit l c).stopLine l).plates
    ready := ((s.clearTransit l c).stopLine l).ready
    lines := ((s.clearTransit l c).stopLine l).lines
    told := true
    reports := s.reports.offer (stateReport l .stopped) } := by
  have mode : ((s.clearTransit l c).line l).mode = .faulted := by rw [State.clearTransit_line, if_pos rfl]; exact faulted
  obtain ⟨_, _, _, e⟩ := (s.setLine l { s.line l with transit := [] }).spoilAll_only
    ((s.line l).transit.map TransitEntry.slot) c
  rw [State.stopLine_eq, mode, if_neg (by decide), decide_eq_true (by decide), Bool.or_true, State.clearTransit_eq, e]
  rfl

theorem State.clearFault_plate (s : State) (l : LineId) (c : Cause) (p : Slot) :
    ((s.clearTransit l c).stopLine l).plate p = if p ∈ (s.line l).transit.map TransitEntry.slot then
      (s.plate p).ruined c (s.loadComplete (s.plate p).load) else s.plate p := by
  rw [State.stopLine_eq, State.clearTransit_eq]
  exact State.spoilAll_plate _ _ c p

/-! ### LINE_RESET (R112, R158) -/

/-- The slots imaged and in transit on a line. -/
def Line.imaged (ln : Line) : List Slot := (ln.exposure.map Exposure.slot).toList ++ ln.transit.map TransitEntry.slot

/-- A line with neither an exposure in flight nor plates in transit. -/
def Line.emptied (ln : Line) : Line :=
  { ln with
    exposure := none, transit := []
    composer := if ln.exposure = none then ln.composer else {}
    feed := if ln.exposure = none then ln.feed else []
    resetAbort := ln.resetAbort || ln.exposure.isSome }

/-- The Raster Store once the exposure of a line has given up its holds and its read. -/
def State.storeWithout (s : State) (l : LineId) : RasterStore :=
  match (s.line l).exposure with
  | none => s.store
  | some c => (s.closeExposure l c).store

/-- The line emptied, before the records that were on it are spoiled. -/
def State.emptyLine (s : State) (l : LineId) : State := { s with
  lines := s.lines.set l.val (s.line l).emptied
  store := s.storeWithout l
  out := s.out ++ if (s.line l).exposure = none then [] else [.station l .exposeAbort] }

theorem State.emptyLine_line (s : State) (l m : LineId) :
    (s.emptyLine l).line m = if m = l then (s.line l).emptied else s.line m := s.line_setLine l m _

/-- The exposure abandoned and the transit list cleared: the line emptied, and every record that was on it spoiled. -/
theorem State.abandon_clear (s : State) (l : LineId) (c : Cause) (same : c = .lineReset) :
    (s.abandonExposure l).clearTransit l c = (s.emptyLine l).spoilAll (s.line l).imaged c := by
  subst same
  cases exposure : (s.line l).exposure with
  | none =>
    have emptied : (s.line l).emptied = { s.line l with transit := [] } := by
      rw [Line.emptied, exposure, if_pos rfl, if_pos rfl, Option.isSome_none, Bool.or_false, ← exposure]
    have base : s.emptyLine l = s.setLine l { s.line l with transit := [] } := by
      rw [State.emptyLine, State.storeWithout, emptied, exposure, if_pos rfl, List.append_nil]
      rfl
    have kept : s.abandonExposure l = s := by rw [State.abandonExposure, exposure]
    rw [kept, State.clearTransit_eq, base, Line.imaged, exposure]
    rfl
  | some e =>
    have emptied : (s.line l).emptied = { s.line l with
        exposure := none, transit := [], composer := {}, feed := [], resetAbort := true } := by
      rw [Line.emptied, exposure, if_neg nofun, if_neg nofun, Option.isSome_some, Bool.or_true]
    have base : s.emptyLine l = ((s.send l .exposeAbort).closeExposure l e).setLine l (s.line l).emptied := by
      rw [State.emptyLine, State.storeWithout, exposure, if_neg nofun]
      unfold State.closeExposure
      simp only [State.setLine_setLine]
      rfl
    have closed := (s.send l .exposeAbort).closeExposure_line l e
    have abandoned : s.abandonExposure l = (((s.send l .exposeAbort).closeExposure l e).setLine l
        { (s.line l).emptied with transit := (s.line l).transit }).spoil e.slot .lineReset := by
      rw [State.abandonExposure, exposure, State.spoil_setLine]
      dsimp only
      rw [State.line, State.spoil_lines, ← State.line, closed, emptied]
      rfl
    have line : (s.abandonExposure l).line l = { (s.line l).emptied with transit := (s.line l).transit } := by
      rw [abandoned, State.line, State.spoil_lines]
      exact State.line_setLine_self _ l _
    rw [State.clearTransit_eq, line, abandoned, base, Line.imaged, exposure, ← State.spoil_setLine, State.setLine_setLine]
    rfl

/-- LINE_RESET in its parts: the records on the line spoiled, the queue returned, the line stopped. -/
theorem State.resetLine_eq (s : State) (l : LineId) : s.resetLine l =
    ((((((s.emptyLine l).spoilAll (s.line l).imaged .lineReset).returnEntries l (s.line l).queue).setLine l
      { (s.line l).emptied with queue := [], stationProfile := none }).stopLine l).tell) := by
  have line : ((s.emptyLine l).spoilAll (s.line l).imaged .lineReset).line l = (s.line l).emptied := by
    rw [State.spoilAll_line, State.emptyLine_line, if_pos rfl]
  have returned := State.returnQueue_line ((s.emptyLine l).spoilAll (s.line l).imaged .lineReset) l l
  rw [if_pos rfl, line] at returned
  unfold State.resetLine
  dsimp only
  rw [s.abandon_clear l _ rfl, line, returned]
  rfl

theorem State.resetLine_line (s : State) (l m : LineId) : (s.resetLine l).line m = if m = l then
    { (s.line l).emptied with
      queue := [], stationProfile := none, faultCause := none, mode := .stopped } else s.line m := by
  rw [State.resetLine_eq, State.tell_line, State.stopLine_line, State.line_setLine_self]
  split
  · rfl
  · rename_i other
    rw [State.line_setLine, if_neg other, State.returnEntries_line, if_neg other, State.spoilAll_line,
      State.emptyLine_line, if_neg other]

/-- A record after LINE_RESET: spoiled when it was on the line, and READY when it was in its queue. -/
theorem State.resetLine_plate (s : State) (l : LineId) (p : Slot) : (s.resetLine l).plate p =
    let r := if p ∈ (s.line l).imaged then (s.plate p).ruined .lineReset (s.loadComplete (s.plate p).load) else s.plate p
    if p ∈ (s.line l).queue then { r with state := .ready, line := none } else r := by
  have spoilt := (s.emptyLine l).spoilAll_plate (s.line l).imaged .lineReset p
  have returned := ((s.emptyLine l).spoilAll (s.line l).imaged .lineReset).returnEntries_plate l (s.line l).queue p
  rw [spoilt] at returned
  rw [State.resetLine_eq, State.tell_plate, State.stopLine_eq]
  exact returned

theorem State.resetLine_ready (s : State) (l : LineId) : (s.resetLine l).ready =
    ((s.line l).queue.filter s.urgent
      ++ (s.ready.takeWhile s.urgent ++ (((s.line l).imaged.filter s.comesBack).filter s.urgent)))
    ++ (((s.line l).queue.filter fun q => !s.urgent q)
      ++ (s.ready.dropWhile s.urgent ++ (((s.line l).imaged.filter s.comesBack).filter fun q => !s.urgent q))) := by
  obtain ⟨classes, parts, list⟩ := State.spoilAll_ready (s := s.emptyLine l) (s.line l).imaged .lineReset
    (List.takeWhile_append_dropWhile (p := s.urgent)).symm (s.parts s.ready)
  have returned := State.returnEntries_ready l (s.line l).queue list parts
  rw [classes] at returned
  rw [State.resetLine_eq, State.tell_ready, State.stopLine_eq]
  exact returned

/-- What LINE_RESET leaves of all else. -/
theorem State.resetLine_frame (s : State) (l : LineId) : s.resetLine l = { s with
    plates := (s.resetLine l).plates
    ready := (s.resetLine l).ready
    lines := (s.resetLine l).lines
    reports := if (s.line l).mode = .stopped then ((s.line l).queue.map (unqueuedReport l)).foldl ReportQueue.offer s.reports
      else (((s.line l).queue.map (unqueuedReport l)).foldl ReportQueue.offer s.reports).offer (stateReport l .stopped)
    out := s.out ++ if (s.line l).exposure = none then [] else [.station l .exposeAbort]
    store := s.storeWithout l
    told := true } := by
  obtain ⟨_, _, told, e⟩ := (s.emptyLine l).spoilAll_only (s.line l).imaged .lineReset
  rw [State.resetLine_eq, State.stopLine_eq, State.line_setLine_self]
  by_cases queue : (s.line l).queue = []
  · rw [queue, State.returnEntries, if_pos rfl, e]
    rfl
  · rw [State.returnEntries_eq _ l queue, e]
    rfl

/-- A record that was on the line, after LINE_RESET. -/
theorem State.resetLine_imaged (mem : p ∈ (s.line l).imaged) :
    ((s.resetLine l).plate p).line = none ∧ ((s.resetLine l).plate p).doom = none
    ∧ ((s.resetLine l).plate p).withdraw = false ∧ ((s.resetLine l).plate p).lastCause = some .lineReset
    ∧ ((s.resetLine l).plate p).pass = (s.plate p).pass ∧ ((s.resetLine l).plate p).load = (s.plate p).load
    ∧ ((s.plate p).load.remake = .manual → ((s.resetLine l).plate p).bound = (s.plate p).bound
      ∧ (p ∉ (s.line l).queue → ((s.resetLine l).plate p).state = .spoiled))
    ∧ ((s.plate p).load.remake = .auto → ((s.resetLine l).plate p).bound = none ∧ ((s.resetLine l).plate p).place = none
      ∧ (p ∉ (s.line l).queue → ((s.resetLine l).plate p).state =
        if s.loadComplete (s.plate p).load then .ready else .planned)) := by
  obtain ⟨line, doom, withdraw, cause, pass, load⟩ :=
    (s.plate p).ruined_fields .lineReset (s.loadComplete (s.plate p).load)
  rw [State.resetLine_plate]
  simp only [if_pos mem]
  by_cases waits : p ∈ (s.line l).queue
  · rw [if_pos waits]
    refine ⟨rfl, doom, withdraw, cause, pass, load, fun manual => ⟨?_, fun absent => absurd waits absent⟩,
      fun auto => ⟨?_, ?_, fun absent => absurd waits absent⟩⟩
    · rw [PlateRecord.ruined_manual manual]
      rfl
    all_goals
      rw [PlateRecord.ruined_auto auto]
      rfl
  · rw [if_neg waits]
    refine ⟨line, doom, withdraw, cause, pass, load, fun manual => ?_, fun auto => ?_⟩
    · rw [PlateRecord.ruined_manual manual]
      exact ⟨rfl, fun _ => rfl⟩
    · rw [PlateRecord.ruined_auto auto]
      exact ⟨rfl, rfl, fun _ => rfl⟩

end

/-- A test of the elements with a condition that holds anyway. -/
theorem filter_decide_and_of_true {P : Prop} {u : Slot → Bool} [DecidablePred fun p => u p = true ∧ P] (h : P)
    (ps : List Slot) : ps.filter (fun p => decide (u p = true ∧ P)) = ps.filter u :=
  List.filter_congr fun p _ => by simp [h]

/-- Settles O32: the records on a line are spoiled one after another, and then its queue returns and the line stops. In the
statement the conditions that follow each ready list stand, by the reach of `fun`, within the test of its last filter;
they hold by `State.resetLine_frame` and `State.clearFault_eq`, so that the test is that of the class. -/
theorem linesAreResetAndCleared : Obligations.LinesAreResetAndCleared := by
  refine ⟨fun s f l => ⟨fun h => ?_, ?_⟩, fun s f l => ⟨fun h => ?_, fun faulted => ?_⟩⟩
  · rw [exec_lineReset_eq, taking_line_runs (fun _ s l => carryOut (s.resetLine l)) h (by decide)
      (by rw [length_u8]; decide) (byteAt_u8_line l), carryOut_next]
  · intro t queue imaged complete back unqueued
    have frame := s.resetLine_frame l
    refine ⟨?_, fun m other => ?_, fun p => State.resetLine_imaged, fun p mem => ?_, fun p other waits => ?_, ?_⟩
    · exact (s.resetLine_line l l).trans (if_pos rfl)
    · exact (s.resetLine_line l m).trans (if_neg other)
    · have plate := s.resetLine_plate l p
      simp only [if_pos (show p ∈ (s.line l).queue from mem)] at plate
      have after : t.plate p = _ := plate
      rw [after]
      exact ⟨rfl, rfl, fun other => by rw [if_neg (show p ∉ (s.line l).imaged from other)]⟩
    · have plate := s.resetLine_plate l p
      simp only [if_neg (show p ∉ (s.line l).queue from waits), if_neg (show p ∉ (s.line l).imaged from other)] at plate
      exact plate
    · refine Eq.trans ?_ (congrArg (_ ++ ·) (filter_decide_and_of_true (u := fun p => !s.urgent p) ?_ back).symm)
      · exact (s.resetLine_ready l).trans (by simp only [List.append_assoc]; rfl)
      · refine ⟨congrArg State.reports frame, congrArg State.out frame, fun c exposure => ?_, fun exposure => ?_, ?_⟩
        · exact (congrArg State.store frame).trans (by simp only [State.storeWithout, exposure])
        · exact (congrArg State.store frame).trans (by simp only [State.storeWithout, exposure])
        · show s.resetLine l = { s with
            plates := (s.resetLine l).plates, ready := (s.resetLine l).ready, lines := (s.resetLine l).lines
            reports := (s.resetLine l).reports, out := (s.resetLine l).out, store := (s.resetLine l).store, told := true }
          rw [congrArg State.reports frame, congrArg State.out frame, congrArg State.store frame]
          exact frame
  · rw [exec_lineClearFault_eq, taking_line_runs (fun _ s l => runLineClearFault l s) h (by decide)
      (by rw [length_u8]; decide) (byteAt_u8_line l)]
    refine ⟨fun mode => ?_, fun mode exposure => ?_, fun mode exposure => ?_⟩
    · rw [runLineClearFault_refuses (s := s.dropControl) mode, refuse_next]
    · rw [runLineClearFault_busy (s := s.dropControl) mode exposure, refuse_next]
    · rw [runLineClearFault_clears (s := s.dropControl) mode exposure, carryOut_next]
  · intro t spoiled complete back
    have line : ∀ m, t.line m = if m = l then { s.line l with transit := [], faultCause := none, mode := .stopped }
        else s.line m := fun m => by
      have stopped := (s.clearTransit l .lineFault).stopLine_line l m
      rw [State.clearTransit_line, State.clearTransit_line, if_pos rfl] at stopped
      refine stopped.trans ?_
      split <;> rfl
    refine ⟨(line l).trans (if_pos rfl), fun m other => (line m).trans (if_neg other), fun p mem => ?_,
      fun p other => (s.clearFault_plate l _ p).trans (if_neg other), ?_⟩
    · have plate := (s.clearFault_plate l .lineFault p).trans (if_pos mem)
      exact ⟨fun manual => plate.trans (PlateRecord.ruined_manual manual _ _),
        fun auto => plate.trans (PlateRecord.ruined_auto auto _ _)⟩
    · refine Eq.trans ?_ (congrArg (_ ++ ·) (filter_decide_and_of_true (u := fun p => !s.urgent p) ?_ back).symm)
      · obtain ⟨-, -, list⟩ := State.spoilAll_ready (s := s.setLine l { s.line l with transit := [] })
          ((s.line l).transit.map TransitEntry.slot) .lineFault
          (List.takeWhile_append_dropWhile (p := s.urgent)).symm (s.parts s.ready)
        rw [← State.clearTransit_eq] at list
        show ((s.clearTransit l .lineFault).stopLine l).ready = _
        rw [State.stopLine_eq]
        exact list.trans (by simp only [List.append_assoc]; rfl)
      · exact State.clearFault_eq faulted .lineFault

end Sys2Proof.Machine
end

section
/-! SUPPORT. The start of a line and the begin of an exposure (R49, R72, R108, R131), and what the setup of its tiles reports
(R115, R116, R121, R122, R125). -/

namespace Sys2Proof.Machine

set_option Elab.async false

section
variable {s : State} {p : Slot} {l : LineId} {rest : List Slot} {x : PlateLoad} {f : Profile} {t : Tile} {d : DescId}
  {c : Clip} {pw ph w h : Nat} {dx dy : Int}

/-! ### The start conditions (R108) -/

theorem Line.startReady_iff {ln : Line} : ln.startReady = true ↔ (ln.mode = .running ∨ ln.mode = .draining)
    ∧ ln.exposure = none ∧ ln.resetAbort = false ∧ ln.queue ≠ [] ∧ ln.unitReady = true ∧ ln.transit.length < 6 := by
  simp only [Line.startReady, Bool.and_eq_true, Bool.or_eq_true, decide_eq_true_eq, Bool.not_eq_true', and_assoc]

theorem State.startTest_of_not_ready (h : (s.line l).startReady = false) : s.startTest l = s :=
  if_neg (by rw [h]; decide)

/-! ### The begin (R131) -/

/-- The state in which an exposure has begun, before the Composer goes on. -/
def State.exposing (s : State) (l : LineId) (p : Slot) (rest : List Slot) : State :=
  let x := (s.plate p).load
  { s.begun l p (s.starting l p rest) with
    reports := (s.setupReports l p x (s.profile x.profile)).foldl ReportQueue.offer s.reports
    out := s.out ++ [.station l (.exposeBegin p x.width x.height x.sizeClass (markValue p (nextPass (s.plate p).pass)))]
    told := true }

theorem State.startTest_eq (ready : (s.line l).startReady = true) (queue : (s.line l).queue = p :: rest) :
    s.startTest l = (s.exposing l p rest).feedLine l := by
  rw [State.startTest, if_pos ready, State.beginExposure_eq queue, State.reportAll_eq]
  rfl

/-- Each raster of the record's pages takes one hold (R49). -/
theorem State.exposing_desc (s : State) (l : LineId) (p : Slot) (rest : List Slot) (d : DescId) :
    (s.exposing l p rest).store.desc d = { s.store.desc d with
      expHolds := (s.store.desc d).expHolds + if d ∈ s.rastersOf (s.plate p).load then 1 else 0 } := by
  refine (s.begun_desc l p _ d).trans ?_
  split <;> rfl

/-! ### The setup of a tile (R115, R116, R121) -/

theorem State.tileSetup_absent (raster : (s.page (x.keyOf t)).raster = none) : s.tileSetup x f t = .empty none := by
  unfold State.tileSetup
  rw [raster]

theorem State.tileSetup_off (raster : (s.page (x.keyOf t)).raster = some d)
    (off : t.setupOn x.width x.height (s.store.desc d).width (s.store.desc d).height f.dx f.dy = none) :
    s.tileSetup x f t = .empty (some d) := by
  unfold State.tileSetup
  simp only [raster, off]

theorem State.tileSetup_on {g : TileGeometry} (raster : (s.page (x.keyOf t)).raster = some d)
    (on : t.setupOn x.width x.height (s.store.desc d).width (s.store.desc d).height f.dx f.dy = some g) :
    s.tileSetup x f t = .active d g := by
  unfold State.tileSetup
  simp only [raster, on]

theorem Clip.off_iff : c.off w h = true ↔ w ≤ c.cx ∨ h ≤ c.cy := decide_eq_true_iff

/-- A window on the raster is reduced where it passes the raster's right or lower edge. -/
theorem Clip.reduced_iff (on : ¬ (w ≤ c.cx ∨ h ≤ c.cy)) :
    c.reduced w h = true ↔ w < c.cx + c.cw ∨ h < c.cy + c.ch := by
  unfold Clip.reduced Clip.width Clip.height
  rw [decide_eq_true_iff]
  omega

/-- The rectangle of a tile on the plate, upright or inverted. -/
theorem Tile.geometryOn_rectangle (t : Tile) (pw ph w h : Nat) (dx dy : Int) :
    (t.geometryOn pw ph w h dx dy).x = t.originX + dx ∧ (t.geometryOn pw ph w h dx dy).y = t.originY + dy
    ∧ (t.geometryOn pw ph w h dx dy).ws = scaledWidth ((t.window w h).width w) t.scale
    ∧ (t.geometryOn pw ph w h dx dy).ch = (t.window w h).height h := by
  unfold Tile.geometryOn
  cases t.turn <;> exact ⟨rfl, rfl, rfl, rfl⟩

theorem TileGeometry.offPlate_iff {g : TileGeometry} : g.offPlate pw ph = true ↔
    g.x < 0 ∨ g.y < 0 ∨ (pw : Int) < g.x + g.ws ∨ (ph : Int) < g.y + g.ch := decide_eq_true_iff

/-! ### The reports of a setup (R122) -/

theorem PlateLoad.keyBytes_keyOf (x : PlateLoad) (t : Tile) :
    keyBytes (x.keyOf t) = (BitVec.ofNat 8 t.page.val, BitVec.ofNat 8 x.color.val) := by
  have hc := x.color.isLt
  have page : (t.page.val * 4 + x.color.val) / 4 = t.page.val := by omega
  have color : (t.page.val * 4 + x.color.val) % 4 = x.color.val := by omega
  show (BitVec.ofNat 8 ((t.page.val * 4 + x.color.val) / 4), BitVec.ofNat 8 ((t.page.val * 4 + x.color.val) % 4)) = _
  rw [page, color]

theorem State.tileReports_absent (raster : (s.page (x.keyOf t)).raster = none) :
    s.tileReports l p x f t = [clampedReport l p (x.keyOf t) .clipEmpty] := by
  unfold State.tileReports
  rw [State.tileSetup_absent raster]

/-- The reports of a tile whose page has a raster: CLIP_EMPTY alone, or CLIP_REDUCED and OFF_PLATE. -/
theorem State.tileReports_present (raster : (s.page (x.keyOf t)).raster = some d) (width : (s.store.desc d).width = w)
    (height : (s.store.desc d).height = h) : s.tileReports l p x f t =
      if w ≤ (t.window w h).cx ∨ h ≤ (t.window w h).cy then [clampedReport l p (x.keyOf t) .clipEmpty]
      else
        (if w < (t.window w h).cx + (t.window w h).cw ∨ h < (t.window w h).cy + (t.window w h).ch then
          [clampedReport l p (x.keyOf t) .clipReduced] else [])
        ++ if t.originX + f.dx < 0 ∨ t.originY + f.dy < 0
            ∨ (x.width : Int) < t.originX + f.dx + scaledWidth ((t.window w h).width w) t.scale
            ∨ (x.height : Int) < t.originY + f.dy + (t.window w h).height h then
          [clampedReport l p (x.keyOf t) .offPlate] else [] := by
  subst width height
  unfold State.tileReports
  by_cases off : (s.store.desc d).width ≤ (t.window (s.store.desc d).width (s.store.desc d).height).cx
      ∨ (s.store.desc d).height ≤ (t.window (s.store.desc d).width (s.store.desc d).height).cy
  · rw [if_pos off, State.tileSetup_off raster (if_pos (Clip.off_iff.mpr off))]
  · obtain ⟨x', y', ws, ch⟩ :=
      t.geometryOn_rectangle x.width x.height (s.store.desc d).width (s.store.desc d).height f.dx f.dy
    rw [if_neg off, State.tileSetup_on raster (if_neg fun h => off (Clip.off_iff.mp h))]
    simp only [Clip.reduced_iff off, TileGeometry.offPlate_iff, x', y', ws, ch]

/-- A mark that does not fit is omitted (R125). -/
theorem markFits_iff {mx my : Nat} : markFits pw ph mx my = true ↔ ¬ (pw < mx + 288 ∨ ph < my + 64) := by
  unfold markFits
  rw [decide_eq_true_iff]
  omega

end

/-- Settles O33: the begin step by step, and the setup's reports tile by tile. -/
theorem exposuresBegin : Obligations.ExposuresBegin := by
  refine ⟨fun s l => ⟨Line.startReady_iff, State.startTest_of_not_ready, fun p rest ready queue => ?_⟩,
    fun s l p x f => ⟨fun t => ⟨State.tileSetup_absent, fun d raster => ?_⟩, ?_⟩⟩
  · intro x f pass m holds
    exact ⟨s.exposing l p rest, State.startTest_eq ready queue, s.nodup_rastersOf x, fun d => State.mem_rastersOf,
      s.exposing_desc l p rest, rfl, rfl, rfl, rfl, rfl, rfl, rfl, rfl⟩
  · intro found
    exact ⟨State.tileSetup_off raster, fun g => State.tileSetup_on raster⟩
  · have omitted : (if markFits x.width x.height f.mx f.my = true then ([] : List Report)
        else [{ kind := .markOmitted, slot := some p, line := some l }]) =
        if x.width < f.mx + 288 ∨ x.height < f.my + 64 then [{ kind := .markOmitted, slot := some p, line := some l }]
        else [] := by
      simp only [markFits_iff, ite_not]
    unfold State.setupReports
    rw [omitted]
    congr 1
    refine List.flatMap_congr fun t _ => ?_
    split
    · rename_i raster
      rw [State.tileReports_absent raster, clampedReport, x.keyBytes_keyOf]
    · rename_i d raster
      rw [State.tileReports_present raster rfl rfl]
      simp only [clampedReport, x.keyBytes_keyOf]
      rfl

end Sys2Proof.Machine
end

section
/-! SUPPORT. What the execution of a command comes to, said once with all that its taking has tested: an effect, and what
every command ends with. The effects are those of `Happens` and `Carries`; here each carries the condition of the line under
which it is received or carried out (R105 to R111, R149, log 16). -/

namespace Sys2Proof.Machine

set_option Elab.async false

/-- The effect of a message of a line's station. -/
inductive Message (l : LineId) (s : State) : State → Prop
  | beginAccept : Message l s (s.takeAccept l)
  | beginRefuse : Message l s (s.takeRefuse l)
  | beginRefuseLocal : Message l s (s.takeRefuseLocal l)
  | lineRequest : Message l s (s.takeLineRequest l)
  | exposeEnd (cause : EndCause) : Message l s (s.takeEnd l cause)
  | exposeEndFault : Message l s (s.takeEndFault l)
  | unitStatus (ready : Bool) (stock : Option Nat) (unitLocal : Bool) : Message l s (s.takeStatus l ready stock unitLocal)
  | pbArrival (mark : Option Nat) : Message l s (s.takeArrival l mark)
  | pbSetupDone : Message l s (s.takeSetupDone l)
  | pbDone : Message l s (s.takeDone l)
  | pbFault : Message l s (s.takePunchFault l)
  | soArrival : Message l s (s.takeSorterArrival l)
  | soStacked (bin : Nat) : Message l s (s.takeStacked l bin)
  | soBinEmptied (bin : Nat) : Message l s (s.takeEmptied l bin)
  | soFault (p : Option Slot) : Message l s (s.faultLine l .sorterFault p)

/-- The effect of an event: a completion of the arbiter, a timer that runs, or a message from a port that is fitted. -/
inductive Event (s : State) : State → Prop
  | bandWritten (w : BandWrite) : Event s (s.writeLands w).beginHanding.writeHanded
  | readCompletes (r : ScanRead) : Event s (s.readCompletes r)
  | beginTimeout (l : LineId) (c : Exposure) : (s.line l).exposure = some c → Event s (s.timeoutBegin l c)
  | deadline (l : LineId) (p : Slot) (e : TransitEntry) : (s.line l).runningDeadline p = some e →
      Event s (s.faultLine l e.stage.expiryCause (some p))
  | message {t : State} (l : LineId) : (s.line l).fitted = true → Message l s t → Event s t

/-- The effect of a control command that is carried out, with what its answers have tested. -/
inductive Does (s : State) : State → Prop
  | releasePage (k : PageIx) : Does s (s.releasePage k)
  | discardPage (k : PageIx) : Does s (s.discardPage k)
  | loadFree (p : Slot) (x : PlateLoad) : (s.plate p).state = .free → Does s (s.loadFree p x)
  | replacePlate (p : Slot) (x : PlateLoad) : Does s (s.replacePlate p x)
  | dropPlate (p : Slot) : Does s (s.dropPlate p)
  | remakeDelivered (p : Slot) : Does s ((s.offerDemand [] (s.plate p).load.keys).remake p)
  | remake (p : Slot) : Does s (s.remake p)
  | lineConfig (l : LineId) (c : LineConfig) (capacity : BinId → Nat) : (s.line l).mode = .stopped →
      Does s (s.configure l c capacity)
  | lineStart (l : LineId) : (s.line l).fitted = true → (s.line l).mode ≠ .faulted → (s.line l).mode ≠ .running →
      Does s ((s.setMode l .running).startTest l)
  | linePause (l : LineId) : (s.line l).mode = .running →
      Does s (s.setMode l (if (s.line l).exposure = none then .paused else .pausing))
  | lineDrain (l : LineId) : (s.line l).mode = .running ∨ (s.line l).mode = .pausing ∨ (s.line l).mode = .paused
      ∨ (s.line l).mode = .held → Does s (((s.setMode l .draining).drainTest l).startTest l)
  | lineReset (l : LineId) : Does s (s.resetLine l)
  | lineClearFault (l : LineId) : (s.line l).mode = .faulted → (s.line l).exposure = none →
      Does s ((s.clearTransit l .lineFault).stopLine l)
  | loadProfile (f : ProfileId) (x : Profile) : Does s (s.loadProfile f x)
  | binOpen (l : LineId) (b : BinId) : Does s ((s.setClosed l b false).routeWaiting l)
  | binClose (l : LineId) (b : BinId) : Does s (s.setClosed l b true)

/-- The state that the execution of a command answers. -/
inductive Executes (s : State) : State → Prop
  | idle : Executes s s
  | linkDown {t : State} : LinkOnly s t → Executes s t
  | received (bytes : List Byte) : Executes s (s.receive bytes)
  | answered {t : State} : LinkOnly s t → Executes s t.finish
  | event {t : State} : Event s t → Executes s t.finish
  | carried {t u : State} : Does s.dropControl t → LinkOnly t.wakeIntake.settle u → Executes s u.finish
  | powerOn : Executes s ({ s.resetBlocks with powerCycle := s.powerCycle + 1 } : State).finish
  | engineReset : Executes s s.engineReset.finish

section
variable {s t u : State} {l : LineId}

/-! ### The control commands -/

/-- What the run of a control command comes to: nothing, or an effect with the waking and the walk after it. -/
def Runs (s u : State) : Prop := u = s ∨ ∃ t, Does s t ∧ u = t.wakeIntake.settle

theorem Runs.carryOut (h : Does s t) : Runs s (carryOut t).1 := .inr ⟨t, h, rfl⟩

theorem Runs.checked {fields : List FieldCheck} {run : State × Answer} (h : Runs s run.1) :
    Runs s (Machine.checked fields s run).1 := by
  unfold Machine.checked
  split
  · exact .inl rfl
  · exact h

theorem Runs.onLineCommand {args : List Byte} {run : LineId → State × Answer} (h : ∀ l, Runs s (run l).1) :
    Runs s (Machine.onLineCommand args s run).1 := Runs.checked (h _)

theorem runReleasePage_runs (k : PageIx) (s : State) : Runs s (runReleasePage k s).1 := by
  unfold runReleasePage
  split
  · split
    · exact .carryOut (.releasePage k)
    · exact .inl rfl
  · exact .inl rfl

theorem runDiscardPage_runs (k : PageIx) (s : State) : Runs s (runDiscardPage k s).1 := by
  unfold runDiscardPage
  split
  · exact .inl rfl
  · exact .carryOut (.discardPage k)

theorem runLoadPlate_runs (p : Slot) (x : PlateLoad) (s : State) : Runs s (runLoadPlate p x s).1 := by
  unfold runLoadPlate
  split
  · exact .inl rfl
  · split
    · exact .inl rfl
    · split
      · exact .carryOut (.loadFree p x ‹_›)
      · exact .carryOut (.replacePlate p x)

theorem runDropPlate_runs (p : Slot) (s : State) : Runs s (runDropPlate p s).1 := by
  unfold runDropPlate
  split
  case h_1 | h_2 | h_3 => exact .inl rfl
  all_goals exact .carryOut (.dropPlate p)

theorem runRemakePlate_runs (p : Slot) (s : State) : Runs s (runRemakePlate p s).1 := by
  unfold runRemakePlate
  split
  case h_1 => exact .carryOut (.remakeDelivered p)
  case h_2 | h_3 => exact .carryOut (.remake p)
  all_goals exact .inl rfl

theorem runLineConfig_runs (args : List Byte) (l : LineId) (s : State) : Runs s (runLineConfig args l s).1 := by
  unfold runLineConfig
  split
  · exact .checked (.carryOut (.lineConfig l _ _ ‹_›))
  · exact .inl rfl

theorem runLineStart_runs (l : LineId) (s : State) : Runs s (runLineStart l s).1 := by
  unfold runLineStart
  split
  · exact .inl rfl
  · rename_i taken
    split
    · exact .inl rfl
    · rw [not_or, Bool.not_eq_false] at taken
      exact .carryOut (.lineStart l taken.2 taken.1 ‹_›)

theorem runLinePause_runs (l : LineId) (s : State) : Runs s (runLinePause l s).1 := by
  unfold runLinePause
  split
  case h_1 => exact .carryOut (.linePause l ‹_›)
  all_goals exact .inl rfl

theorem runLineDrain_runs (l : LineId) (s : State) : Runs s (runLineDrain l s).1 := by
  unfold runLineDrain
  split
  case h_1 | h_2 | h_3 => exact .inl rfl
  all_goals
    rename_i mode
    exact .carryOut (.lineDrain l (by rw [mode]; decide))

theorem runLineClearFault_runs (l : LineId) (s : State) : Runs s (runLineClearFault l s).1 := by
  unfold runLineClearFault
  split
  · split
    · exact .carryOut (.lineClearFault l ‹_› ‹_›)
    · exact .inl rfl
  · exact .inl rfl

theorem runLoadProfile_runs (f : ProfileId) (x : Profile) (s : State) : Runs s (runLoadProfile f x s).1 := by
  unfold runLoadProfile
  split
  · exact .inl rfl
  · exact .carryOut (.loadProfile f x)

/-! ### Every command -/

theorem Executes.of_idle (h : Host.Outcome.next (φ := Fault) (ρ := Refusal) s = .next t) : Executes s t :=
  Host.Outcome.next.inj h ▸ .idle

/-- The taking of a control command. -/
theorem Executes.taking {code : Nat} {run : List Byte → State → State × Answer} (hrun : ∀ args u, Runs u (run args u).1)
    (h : taking code run s = .next t) : Executes s t := by
  unfold Machine.taking at h
  split at h
  · exact .of_idle h
  · rename_i args _
    obtain rfl := Host.Outcome.next.inj h
    rcases hrun args s.dropControl with e | ⟨v, does, e⟩
    · exact .answered (t := State.placeReply _ _ _ _) (by rw [e]; exact ⟨_, _, _, rfl⟩)
    · exact .carried does (u := State.placeReply _ _ _ _) (by rw [e]; exact ⟨_, _, _, rfl⟩)

/-- A message of a line's station. -/
theorem Executes.onLine {effect : State → State} (message : Message l s (effect s)) (h : onLine s l effect = .next t) :
    Executes s t := by
  unfold Machine.onLine at h
  split at h
  · obtain rfl := Host.Outcome.next.inj h
    exact .event (.message l ‹_› message)
  · exact .of_idle h

theorem execLinkDown_executes (h : execLinkDown s = .next t) : Executes s t := by
  unfold execLinkDown at h
  split at h
  · obtain rfl := Host.Outcome.next.inj h
    exact .linkDown ⟨_, _, _, rfl⟩
  · exact .of_idle h

theorem execLinkUp_executes (h : execLinkUp s = .next t) : Executes s t := by
  unfold execLinkUp at h
  split at h
  · exact .of_idle h
  · obtain rfl := Host.Outcome.next.inj h
    exact .answered ⟨_, _, _, rfl⟩

theorem execFrameArrival_executes {bytes : List Byte} (h : execFrameArrival bytes s = .next t) : Executes s t := by
  unfold execFrameArrival at h
  split at h
  · obtain rfl := Host.Outcome.next.inj h
    exact .received bytes
  · exact .of_idle h

theorem State.endTransmission_link (s : State) (x : Transmission) : LinkOnly s (s.endTransmission x) := by
  unfold State.endTransmission
  dsimp only
  split
  · exact ⟨_, _, _, rfl⟩
  · split <;> exact ⟨_, _, _, rfl⟩
  · split <;> exact ⟨_, _, _, rfl⟩

theorem execTransmissionEnd_executes (h : execTransmissionEnd s = .next t) : Executes s t := by
  unfold execTransmissionEnd at h
  split at h
  · exact .of_idle h
  · obtain rfl := Host.Outcome.next.inj h
    exact .answered (s.endTransmission_link _)

theorem execBadFrame_executes (h : execBadFrame s = .next t) : Executes s t := by
  unfold execBadFrame at h
  split at h
  · exact .of_idle h
  · split at h
    · exact .of_idle h
    · obtain rfl := Host.Outcome.next.inj h
      exact .answered ⟨_, _, _, rfl⟩

theorem execEngineReset_executes (h : execEngineReset s = .next t) : Executes s t := by
  unfold execEngineReset at h
  split at h
  · exact .of_idle h
  · obtain rfl := Host.Outcome.next.inj h
    exact .engineReset

theorem execBandWriteCompletion_executes (h : execBandWriteCompletion s = .next t) : Executes s t := by
  unfold execBandWriteCompletion at h
  split at h
  · obtain rfl := Host.Outcome.next.inj h
    exact .event (.bandWritten _)
  · exact .of_idle h

theorem execScanReadCompletion_executes (h : execScanReadCompletion s = .next t) : Executes s t := by
  unfold execScanReadCompletion at h
  split at h
  · obtain rfl := Host.Outcome.next.inj h
    exact .event (.readCompletes _)
  · exact .of_idle h

theorem execBeginTimeout_executes (h : execBeginTimeout l s = .next t) : Executes s t := by
  unfold execBeginTimeout at h
  split at h
  · exact .of_idle h
  · split at h
    · obtain rfl := Host.Outcome.next.inj h
      exact .event (.beginTimeout l _ ‹_›)
    · exact .of_idle h

theorem execDeadlineExpiry_executes {p : Slot} (h : execDeadlineExpiry l p s = .next t) : Executes s t := by
  unfold execDeadlineExpiry at h
  split at h
  · exact .of_idle h
  · obtain rfl := Host.Outcome.next.inj h
    exact .event (.deadline l p _ ‹_›)

/-- What the execution of every command comes to. -/
theorem exec_executes (c : Instr) (h : exec c s = .next t) : Executes s t := by
  cases c with
  | powerOn => exact Host.Outcome.next.inj h ▸ .powerOn
  | engineReset => exact execEngineReset_executes h
  | linkDown => exact execLinkDown_executes h
  | linkUp => exact execLinkUp_executes h
  | frameArrival bytes => exact execFrameArrival_executes h
  | damagedFrame bytes => exact execFrameArrival_executes (bytes := bytes) h
  | transmissionEnd => exact execTransmissionEnd_executes h
  | badFrame => exact execBadFrame_executes h
  | engineInfo => exact .taking (fun _ _ => .inl rfl) (show execEngineInfo s = _ from h)
  | releasePage => exact .taking (fun _ u => .checked (runReleasePage_runs _ u)) (show execReleasePage s = _ from h)
  | discardPage => exact .taking (fun _ u => .checked (runDiscardPage_runs _ u)) (show execDiscardPage s = _ from h)
  | queryPage => exact .taking (fun _ _ => .checked (.inl rfl)) (show execQueryPage s = _ from h)
  | loadPlate => exact .taking (fun _ u => .checked (runLoadPlate_runs _ _ u)) (show execLoadPlate s = _ from h)
  | dropPlate => exact .taking (fun _ u => .checked (runDropPlate_runs _ u)) (show execDropPlate s = _ from h)
  | remakePlate => exact .taking (fun _ u => .checked (runRemakePlate_runs _ u)) (show execRemakePlate s = _ from h)
  | queryPlate => exact .taking (fun _ _ => .checked (.inl rfl)) (show execQueryPlate s = _ from h)
  | lineConfig =>
    exact .taking (fun args u => .onLineCommand fun l => runLineConfig_runs args l u) (show execLineConfig s = _ from h)
  | lineStart => exact .taking (fun _ u => .onLineCommand fun l => runLineStart_runs l u) (show execLineStart s = _ from h)
  | linePause => exact .taking (fun _ u => .onLineCommand fun l => runLinePause_runs l u) (show execLinePause s = _ from h)
  | lineDrain => exact .taking (fun _ u => .onLineCommand fun l => runLineDrain_runs l u) (show execLineDrain s = _ from h)
  | lineReset => exact .taking (fun _ _ => .onLineCommand fun l => .carryOut (.lineReset l)) (show execLineReset s = _ from h)
  | lineClearFault =>
    exact .taking (fun _ u => .onLineCommand fun l => runLineClearFault_runs l u) (show execLineClearFault s = _ from h)
  | queryLine => exact .taking (fun _ _ => .onLineCommand fun _ => .inl rfl) (show execQueryLine s = _ from h)
  | loadProfile => exact .taking (fun _ u => .checked (runLoadProfile_runs _ _ u)) (show execLoadProfile s = _ from h)
  | binOpen => exact .taking (fun _ _ => .checked (.carryOut (.binOpen _ _))) (show execBinOpen s = _ from h)
  | binClose => exact .taking (fun _ _ => .checked (.carryOut (.binClose _ _))) (show execBinClose s = _ from h)
  | bandWriteCompletion => exact execBandWriteCompletion_executes h
  | scanReadCompletion => exact execScanReadCompletion_executes h
  | beginTimeout l => exact execBeginTimeout_executes h
  | deadlineExpiry l p => exact execDeadlineExpiry_executes h
  | beginAccept l => exact .onLine .beginAccept (show execBeginAccept l s = _ from h)
  | beginRefuse l cause => exact .onLine .beginRefuse (show execBeginRefuse l cause s = _ from h)
  | beginRefuseLocal l => exact .onLine .beginRefuseLocal (show execBeginRefuseLocal l s = _ from h)
  | lineRequest l => exact .onLine .lineRequest (show execLineRequest l s = _ from h)
  | exposeEnd l cause => exact .onLine (.exposeEnd cause) (show execExposeEnd l cause s = _ from h)
  | exposeEndFault l => exact .onLine .exposeEndFault (show execExposeEndFault l s = _ from h)
  | unitStatusReport l ready stock unitLocal =>
    exact .onLine (.unitStatus ready stock unitLocal) (show execUnitStatusReport l ready stock unitLocal s = _ from h)
  | pbArrival l mark => exact .onLine (.pbArrival mark) (show execPbArrival l mark s = _ from h)
  | pbSetupDone l => exact .onLine .pbSetupDone (show execPbSetupDone l s = _ from h)
  | pbDone l => exact .onLine .pbDone (show execPbDone l s = _ from h)
  | pbFault l => exact .onLine .pbFault (show execPbFault l s = _ from h)
  | soArrival l => exact .onLine .soArrival (show execSoArrival l s = _ from h)
  | soStacked l bin => exact .onLine (.soStacked bin) (show execSoStacked l bin s = _ from h)
  | soBinEmptied l bin => exact .onLine (.soBinEmptied bin) (show execSoBinEmptied l bin s = _ from h)
  | soFault l => exact .onLine (.soFault _) (show execSoFault l s = _ from h)

/-- A predicate that the frames arrived, one by one, keep is kept by the reception of bytes. -/
theorem State.receive_keeps {P : State → Prop} (link : ∀ {u v : State}, P u → LinkOnly u v → P v)
    (band : ∀ {u : State} (body : List Byte), P u → P (u.bandArrives body)) (finish : ∀ {u : State}, P u → P u.finish)
    (h : P s) (bytes : List Byte) : P (s.receive bytes) := by
  refine List.foldlRecOn (motive := P) _ _ (link h ⟨_, _, _, rfl⟩) fun u hu f _ => ?_
  rcases u.frameArrives_cases f with e | e | e <;> rw [e]
  · exact finish (band _ hu)
  · refine finish ?_
    unfold State.controlArrives
    split
    · exact link hu ⟨_, _, _, rfl⟩
    · exact hu
  · exact hu

end

end Sys2Proof.Machine
end

section
/-! SUPPORT. The agreement of line states and contents, and the rest of the Dispatcher: nothing left to place or to start,
unless it has been told. The operations that rules share, with all of Band Intake and of a supersession, carry both from one
state to the next, as `Orderly` says. -/

namespace Sys2Proof.Machine

set_option Elab.async false

/-! ### One line -/

/-- A line takes plates of a size class (R99): the conditions of eligibility but the record's mask. -/
def Line.Admits (ln : Line) (n : Nat) : Prop :=
  ln.fitted = true ∧ ln.mode.takesPlates = true ∧ ln.stock = some n ∧ ln.config.expects n = true
  ∧ ln.queue.length < Config.queueSlots

theorem State.eligible_iff_admits {s : State} {p : Slot} {l : LineId} : s.eligible p l = true ↔
    (s.plate p).load.mask.testBit l.val = true ∧ (s.line l).Admits (s.plate p).load.sizeClass := by
  simp only [State.eligible, Line.Admits, Bool.and_eq_true, decide_eq_true_eq, and_assoc]

/-- Line `b` agrees with its state where line `a` does, starts only where `a` starts, and takes only plates that `a` takes. -/
structure Line.Quieter (a b : Line) : Prop where
  consistent : a.Consistent → b.Consistent
  starts : b.startReady = true → a.startReady = true
  admits : ∀ n, b.Admits n → a.Admits n

theorem Line.Quieter.refl (a : Line) : a.Quieter a := ⟨id, id, fun _ => id⟩

theorem Line.Quieter.trans {a b c : Line} (h : a.Quieter b) (k : b.Quieter c) : a.Quieter c :=
  ⟨k.consistent ∘ h.consistent, h.starts ∘ k.starts, fun n => h.admits n ∘ k.admits n⟩

/-- A line changed in its transit list, but for its length and for the deadlines on a FAULTED line, and in what neither its
state nor the Dispatcher looks at. -/
theorem Line.Quieter.entries {a b : Line} (transit : b.transit.length = a.transit.length)
    (deadlines : a.mode = .faulted → (∀ e ∈ a.transit, e.deadline = none) → ∀ e ∈ b.transit, e.deadline = none)
    (mode : b.mode = a.mode := by rfl) (faultCause : b.faultCause = a.faultCause := by rfl)
    (fitted : b.fitted = a.fitted := by rfl) (config : b.config = a.config := by rfl)
    (unitReady : b.unitReady = a.unitReady := by rfl) (stock : b.stock = a.stock := by rfl)
    (queue : b.queue = a.queue := by rfl) (exposure : b.exposure.isSome = a.exposure.isSome := by rfl)
    (resetAbort : b.resetAbort = a.resetAbort := by rfl) : a.Quieter b := by
  have idle : b.exposure = none ↔ a.exposure = none := by
    rw [← Option.not_isSome_iff_eq_none, ← Option.not_isSome_iff_eq_none, exposure]
  refine ⟨fun h => ?_, ?_, fun n => ?_⟩
  · obtain ⟨cause, empty, free, stopped, absent⟩ := h
    unfold Line.Consistent
    rw [mode, faultCause, fitted, queue, idle]
    refine ⟨cause, empty, free, fun faulted => deadlines faulted (stopped faulted), fun unfitted => ?_⟩
    obtain ⟨still, none_left⟩ := absent unfitted
    rw [none_left, List.length_nil, List.length_eq_zero_iff] at transit
    exact ⟨still, transit⟩
  · rw [Line.startReady_iff, Line.startReady_iff, mode, queue, idle, resetAbort, unitReady, transit]
    exact id
  · unfold Line.Admits
    rw [mode, fitted, config, stock, queue]
    exact id

/-- A line changed in what neither its state nor the Dispatcher looks at. -/
theorem Line.Quieter.same {a b : Line} (transit : b.transit = a.transit := by rfl) (mode : b.mode = a.mode := by rfl)
    (faultCause : b.faultCause = a.faultCause := by rfl) (fitted : b.fitted = a.fitted := by rfl)
    (config : b.config = a.config := by rfl) (unitReady : b.unitReady = a.unitReady := by rfl)
    (stock : b.stock = a.stock := by rfl) (queue : b.queue = a.queue := by rfl)
    (exposure : b.exposure.isSome = a.exposure.isSome := by rfl) (resetAbort : b.resetAbort = a.resetAbort := by rfl) :
    a.Quieter b :=
  Line.Quieter.entries (by rw [transit]) (fun _ h => by rw [transit]; exact h) mode faultCause fitted config unitReady
    stock queue exposure resetAbort

/-- Every entry of a transit list rewritten, with no deadline given on a FAULTED line. -/
theorem Line.quieter_map (ln : Line) (g : TransitEntry → TransitEntry)
    (deadline : ln.mode = .faulted → ∀ e ∈ ln.transit, e.deadline = none → (g e).deadline = none) :
    ln.Quieter { ln with transit := ln.transit.map g } :=
  Line.Quieter.entries (List.length_map _) fun faulted stopped e he => by
    obtain ⟨e', he', rfl⟩ := List.mem_map.mp he
    exact deadline faulted e' he' (stopped e' he')

theorem Line.quieter_mapEntry (ln : Line) (p : Slot) (g : TransitEntry → TransitEntry)
    (deadline : ∀ e, (g e).deadline = e.deadline) : ln.Quieter (ln.mapEntry p g) :=
  ln.quieter_map _ fun _ e _ he => by
    split
    · rw [deadline, he]
    · exact he

/-- An entry enters a stage on a line that is not FAULTED. -/
theorem Line.quieter_enterStage (ln : Line) (p : Slot) (g : Stage) (deadline : Option Nat) (running : ln.mode ≠ .faulted) :
    ln.Quieter (ln.enterStage p g deadline) :=
  (ln.quieter_map _ fun faulted => absurd faulted running).trans .same

theorem Line.quieter_resumeDeadlines (ln : Line) (running : ln.mode ≠ .faulted) : ln.Quieter ln.resumeDeadlines := by
  unfold Line.resumeDeadlines
  split
  · exact .refl ln
  · exact ln.quieter_map _ fun faulted => absurd faulted running

theorem Line.quieter_holdDeadlines (ln : Line) : ln.Quieter ln.holdDeadlines :=
  ln.quieter_map _ fun _ e _ he => by
    split
    · rfl
    · exact he

/-- A line that is not FAULTED in another state that is not FAULTED. -/
theorem Line.Consistent.setMode {ln : Line} (h : ln.Consistent) (m : LineMode) (notFaulted : ln.mode ≠ .faulted)
    (notFaulted' : m ≠ .faulted) (fitted : ln.fitted = true) (queue : m = .stopped → ln.queue = [])
    (exposure : m = .stopped ∨ m = .paused ∨ m = .held → ln.exposure = none) : ({ ln with mode := m } : Line).Consistent := by
  obtain ⟨cause, -, -, -, -⟩ := h
  refine ⟨?_, fun idle => queue (idle.resolve_right notFaulted'), exposure, fun faulted => absurd faulted notFaulted',
    fun unfitted => ?_⟩
  · exact cause.trans (iff_of_false notFaulted notFaulted')
  · rw [show ln.fitted = false from unfitted] at fitted
    cases fitted

/-- A line whose port is not fitted is STOPPED. -/
theorem Line.Consistent.fitted_of_mode {ln : Line} (h : ln.Consistent) (mode : ln.mode ≠ .stopped) : ln.fitted = true := by
  obtain ⟨-, -, -, -, absent⟩ := h
  by_contra unfitted
  exact mode (absent (by simpa using unfitted)).1

/-- A line with an exposure in flight is RUNNING, PAUSING, DRAINING or FAULTED. -/
theorem Line.Consistent.mode_of_exposure {ln : Line} (h : ln.Consistent) (c : Exposure) (exposure : ln.exposure = some c) :
    ln.mode ≠ .stopped ∧ ln.mode ≠ .paused ∧ ln.mode ≠ .held := by
  obtain ⟨-, -, free, -, -⟩ := h
  refine ⟨fun mode => ?_, fun mode => ?_, fun mode => ?_⟩
  all_goals
    have := free (by rw [mode]; decide)
    rw [exposure] at this
    cases this

/-- Fewer entries in the queue of a line. -/
theorem Line.Consistent.filterQueue {ln : Line} (h : ln.Consistent) (keep : Slot → Bool) :
    ({ ln with queue := ln.queue.filter keep } : Line).Consistent := by
  obtain ⟨cause, empty, free, stopped, absent⟩ := h
  exact ⟨cause, fun idle => by rw [show ln.queue = [] from empty idle]; rfl, free, stopped, absent⟩

/-! ### The state -/

/-- Unless the Dispatcher has been told, no record of the ready list has an eligible line and no line, those of `but`
excepted, has its start conditions (R100). -/
def State.Rests (but : LineId → Prop) (s : State) : Prop :=
  s.told = false → (∀ p ∈ s.ready, ∀ l : LineId, s.eligible p l = false) ∧ ∀ l : LineId, ¬ but l → (s.line l).startReady = false

/-- From `s` to `t` the lines' states still agree with what they hold, and the Dispatcher still rests. -/
structure Orderly (s t : State) : Prop where
  lines : s.LinesConsistent → t.LinesConsistent
  rests : ∀ but : LineId → Prop, s.Rests but → t.Rests but

section
variable {s t u : State} {l : LineId}

theorem Orderly.refl (s : State) : Orderly s s := ⟨id, fun _ => id⟩

theorem Orderly.trans (h : Orderly s t) (k : Orderly t u) : Orderly s u :=
  ⟨k.lines ∘ h.lines, fun but => k.rests but ∘ h.rests but⟩

theorem Orderly.foldl {α : Type} {f : State → α → State} (hf : ∀ u a, Orderly s u → Orderly s (f u a)) (as : List α)
    (h : Orderly s t) : Orderly s (as.foldl f t) :=
  List.foldlRecOn (motive := Orderly s) as f h fun u hu a _ => hf u a hu

/-- Where the Dispatcher has been told it need not rest. -/
theorem State.Rests.told {but : LineId → Prop} (told : s.told = true) : s.Rests but := fun h => by
  rw [told] at h
  cases h

theorem Orderly.told (lines : s.LinesConsistent → t.LinesConsistent) (told : t.told = true) : Orderly s t :=
  ⟨lines, fun _ _ => .told told⟩

/-- A change under which no more is eligible and no more starts. -/
theorem State.Rests.mono {but : LineId → Prop} (h : s.Rests but) (told : s.told = true → t.told = true)
    (ready : t.told = false → ∀ p ∈ t.ready, p ∈ s.ready)
    (eligible : t.told = false → ∀ p ∈ t.ready, ∀ l, t.eligible p l = true → s.eligible p l = true)
    (starts : ∀ l, ¬ but l → (t.line l).startReady = true → (s.line l).startReady = true) : t.Rests but := by
  intro untold
  obtain ⟨placed, started⟩ := h (Bool.eq_false_iff.mpr fun h => Bool.eq_false_iff.mp untold (told h))
  refine ⟨fun p hp l => Bool.eq_false_iff.mpr fun he => ?_, fun l hl => Bool.eq_false_iff.mpr fun hs => ?_⟩
  · exact Bool.eq_false_iff.mp (placed p (ready untold p hp) l) (eligible untold p hp l he)
  · exact Bool.eq_false_iff.mp (started l hl) (starts l hl hs)

/-- A change of no line and of no loaded fields, with no record more in the ready list unless the Dispatcher is told. -/
theorem Orderly.frame' (h : Orderly s t) (lines : u.lines = t.lines) (told : t.told = true → u.told = true)
    (ready : u.told = false → ∀ p ∈ u.ready, p ∈ t.ready) (load : ∀ p, (u.plate p).load = (t.plate p).load) :
    Orderly s u := by
  have line : ∀ l, u.line l = t.line l := fun l => by rw [State.line, State.line, lines]
  refine h.trans ⟨fun hl l => by rw [line]; exact hl l, fun but hr => hr.mono told ready (fun _ p _ l => ?_) fun l _ => ?_⟩
  · rw [State.eligible_iff_admits, State.eligible_iff_admits, line, load]
    exact id
  · rw [line]
    exact id

/-- A change of what the lines and the Dispatcher do not look at. -/
theorem Orderly.frame (h : Orderly s t) (lines : u.lines = t.lines := by rfl) (told : u.told = t.told := by rfl)
    (ready : u.ready = t.ready := by rfl) (plates : u.plates = t.plates := by rfl) : Orderly s u :=
  h.frame' lines (fun h => told.trans h) (fun _ p hp => ready ▸ hp) fun p => by rw [State.plate, State.plate, plates]

theorem Orderly.directory (h : Orderly s t) (k : DirectoryOnly t u) : Orderly s u := by
  obtain ⟨_, _, _, rfl, -⟩ := k
  exact h.frame

theorem LinkOnly.orderly (h : LinkOnly s t) : Orderly s t := by
  obtain ⟨_, _, _, rfl⟩ := h
  exact (Orderly.refl s).frame

theorem State.LinesConsistent.setLine (h : s.LinesConsistent) {ln : Line} (hl : ln.Consistent) :
    (s.setLine l ln).LinesConsistent := by
  intro m
  rw [State.line_setLine]
  split
  · exact hl
  · exact h m

theorem Orderly.setLine (h : Orderly s t) (l : LineId) {ln : Line} (hl : (t.line l).Quieter ln) :
    Orderly s (t.setLine l ln) := by
  have line : ∀ m, (t.line m).Quieter ((t.setLine l ln).line m) := fun m => by
    rw [State.line_setLine]
    split
    · rename_i same
      rw [same]
      exact hl
    · exact .refl _
  refine h.trans ⟨fun hc => hc.setLine (hl.consistent (hc l)), fun but hr =>
    hr.mono id (fun _ _ => id) (fun _ p _ m => ?_) fun m _ => (line m).starts⟩
  rw [State.eligible_iff_admits, State.eligible_iff_admits]
  exact And.imp_right ((line m).admits _)

theorem Orderly.setPlate (h : Orderly s t) (p : Slot) {r : PlateRecord} (load : r.load = (t.plate p).load := by rfl) :
    Orderly s (t.setPlate p r) :=
  h.frame' rfl id (fun _ _ => id) fun q => by
    rw [State.plate_setPlate]
    split
    · rw [load, ‹q = p›]
    · rfl

theorem Orderly.leaveReady (h : Orderly s t) (p : Slot) : Orderly s (t.leaveReady p) :=
  h.frame' rfl id (fun _ _ => List.mem_of_mem_filter) fun _ => rfl

theorem Orderly.tell (h : Orderly s t) : Orderly s t.tell := .told h.lines rfl
theorem Orderly.report (h : Orderly s t) (r : Report) : Orderly s (t.report r) := h.frame
theorem Orderly.send (h : Orderly s t) (l : LineId) (m : StationMessage) : Orderly s (t.send l m) := h.frame
theorem Orderly.setPage (h : Orderly s t) (k : PageIx) (e : PageEntry) : Orderly s (t.setPage k e) := h.frame

theorem Orderly.reportAll (h : Orderly s t) (rs : List Report) : Orderly s (t.reportAll rs) := by
  rw [State.reportAll_eq]
  exact h.frame

/-! ### The Plate Plan -/

theorem State.joinBack_lists (s : State) (p : Slot) : ∃ ready, s.joinBack p = { s with ready := ready } := by
  unfold State.joinBack
  split <;> exact ⟨_, rfl⟩

theorem Orderly.evaluate (h : Orderly s t) (p : Slot) : Orderly s (t.evaluate p) := by
  rcases t.evaluate_cases p with e | ⟨-, -, e⟩
  · rw [e]
    exact h
  · obtain ⟨_, joined⟩ := State.joinBack_lists (t.setPlate p { t.plate p with state := .ready }) p
    rw [e, joined]
    exact .told h.lines rfl

theorem Orderly.offerDemand (h : Orderly s t) (removed added : List PageIx) : Orderly s (t.offerDemand removed added) :=
  h.directory (t.offerDemand_only removed added)

theorem Orderly.remake (h : Orderly s t) (p : Slot) : Orderly s (t.remake p) := (h.setPlate p).evaluate p

theorem Orderly.autoRemake (h : Orderly s t) (p : Slot) : Orderly s (t.autoRemake p) := by
  unfold State.autoRemake
  split
  · exact h.remake p
  · exact h

theorem Orderly.spoil (h : Orderly s t) (p : Slot) (c : Cause) : Orderly s (t.spoil p c) := (h.setPlate p).autoRemake p

theorem State.LinesConsistent.returnEntries (h : s.LinesConsistent) (l : LineId) (ps : List Slot) :
    (s.returnEntries l ps).LinesConsistent := by
  intro m
  rw [State.returnEntries_line]
  split
  · exact (h l).filterQueue _
  · exact h m

theorem Orderly.returnEntries (h : Orderly s t) (l : LineId) (ps : List Slot) : Orderly s (t.returnEntries l ps) := by
  by_cases given : ps = []
  · rw [State.returnEntries, if_pos given]
    exact h
  · exact h.trans (.told (fun hc => hc.returnEntries l ps) (by rw [State.returnEntries_eq t l given]))

theorem Orderly.leaveQueue (h : Orderly s t) (l : LineId) (p : Slot) : Orderly s (t.leaveQueue l p) :=
  h.trans (.told (fun hc => (hc.setLine ((hc l).filterQueue _) : (t.setLine l _).LinesConsistent)) rfl)

/-- A line's change of state, where the line agrees with its new state. -/
theorem State.LinesConsistent.setMode (h : s.LinesConsistent) (l : LineId) (m : LineMode)
    (hm : (s.line l).mode ≠ m → ({ s.line l with mode := m } : Line).Consistent) : (s.setMode l m).LinesConsistent := by
  by_cases same : (s.line l).mode = m
  · rwa [State.setMode_same s l m same]
  · rw [State.setMode_change s l m same]
    exact h.setLine (hm same)

theorem Orderly.setMode (h : Orderly s t) (l : LineId) (m : LineMode)
    (hm : (t.line l).Consistent → (t.line l).mode ≠ m → ({ t.line l with mode := m } : Line).Consistent) :
    Orderly s (t.setMode l m) := by
  refine h.trans ⟨fun hc => hc.setMode l m (hm (hc l)), fun but hr => ?_⟩
  by_cases same : (t.line l).mode = m
  · rwa [State.setMode_same t l m same]
  · exact .told (by rw [State.setMode_change t l m same]; rfl)

theorem Orderly.drainTest (h : Orderly s t) (l : LineId) : Orderly s (t.drainTest l) := by
  rcases t.drainTest_cases l with e | ⟨mode, queue, exposure, e⟩ <;> rw [e]
  · exact h
  · exact h.setMode l _ fun hc _ => hc.setMode _ (by rw [mode]; decide) (by decide)
      (hc.fitted_of_mode (by rw [mode]; decide)) (fun _ => queue) fun _ => exposure

/-- A fault event on a line whose port is fitted (R110, R156). -/
theorem State.LinesConsistent.faultLine (h : s.LinesConsistent) (fitted : (s.line l).fitted = true) (c : Cause)
    (o : Option Slot) : (s.faultLine l c o).LinesConsistent := by
  by_cases faulted : (s.line l).mode = .faulted
  · rw [State.faultLine_faulted s l c o faulted]
    exact h
  · intro m
    rw [State.faultLine_line faulted]
    split
    · refine ⟨iff_of_true rfl rfl, fun _ => rfl, fun idle => ?_, fun _ e he => ?_, fun unfitted => ?_⟩
      · rcases idle with idle | idle | idle <;> cases idle
      · obtain ⟨_, -, rfl⟩ := List.mem_map.mp he
        rfl
      · rw [show (s.line l).fitted = false from unfitted] at fitted
        cases fitted
    · exact h m

theorem State.faultLine_rests {but : LineId → Prop} (h : s.Rests but) (l : LineId) (c : Cause) (o : Option Slot) :
    (s.faultLine l c o).Rests but := by
  by_cases faulted : (s.line l).mode = .faulted
  · rw [State.faultLine_faulted s l c o faulted]
    exact h
  · exact .told (by rw [State.faultLine_stops faulted]; rfl)

theorem Orderly.faultLine (h : Orderly s t) (fitted : (t.line l).fitted = true) (c : Cause) (o : Option Slot) :
    Orderly s (t.faultLine l c o) :=
  h.trans ⟨fun hc => hc.faultLine fitted c o, fun _ hr => State.faultLine_rests hr l c o⟩

/-! ### Composing and starting -/

theorem Orderly.compose (h : Orderly s t) (n : Nat) (l : LineId) : Orderly s (State.compose n l t) := by
  induction n generalizing t with
  | zero => exact h
  | succ n ih =>
    unfold State.compose
    dsimp only
    split
    · split
      · split
        · exact h
        · exact h.frame
      · exact ih (h.setLine l .same)
    · exact h

end

end Sys2Proof.Machine
end

section
/-! SUPPORT. The Composer, a start, the walk and what every command ends with, as `Orderly` says; after a walk that was called
for the Dispatcher rests (R100, R101, R108), and what a command ends with leaves the rest of the engine (R49, R102, R131). -/

namespace Sys2Proof.Machine

set_option Elab.async false

section
variable {s t u : State} {l : LineId}

/-! ### Composing -/

/-- Composing touches the line, the arbiter and what has been sent. -/
theorem State.compose_only (n : Nat) (l : LineId) (s : State) :
    ∃ lines store, State.compose n l s = { s with lines := lines, store := store } := by
  induction n generalizing s with
  | zero => exact ⟨_, _, rfl⟩
  | succ n ih =>
    unfold State.compose
    dsimp only
    split
    · split
      · split <;> exact ⟨_, _, rfl⟩
      · obtain ⟨lines, store, e⟩ := ih (s.setLine l ((s.line l).formLine (s.exposed l).width))
        exact ⟨lines, store, e⟩
    · exact ⟨_, _, rfl⟩

theorem State.feedLine_only (s : State) (l : LineId) :
    ∃ lines store out, s.feedLine l = { s with lines := lines, store := store, out := out } := by
  obtain ⟨lines, store, e⟩ := State.compose_only (Config.feedLines + 1) l s
  unfold State.feedLine State.goTest
  rw [e]
  split
  · exact ⟨_, _, _, rfl⟩
  · split <;> exact ⟨_, _, _, rfl⟩

theorem State.feedLine_told (s : State) (l : LineId) : (s.feedLine l).told = s.told := by
  obtain ⟨_, _, _, e⟩ := s.feedLine_only l
  rw [e]

theorem Orderly.goTest (h : Orderly s t) (l : LineId) : Orderly s (t.goTest l) := by
  unfold State.goTest
  split
  · exact h
  · rename_i exposure
    split
    · exact (h.setLine l (.same (exposure := by rw [exposure]; rfl))).send l _
    · exact h

theorem Orderly.feedLine (h : Orderly s t) (l : LineId) : Orderly s (t.feedLine l) := (h.compose _ l).goTest l

theorem Orderly.abortExposure (h : Orderly s t) (l : LineId) : Orderly s (t.abortExposure l) := by
  unfold State.abortExposure
  split
  · exact h
  · rename_i exposure
    split
    · exact h
    · exact (h.setLine l (.same (exposure := by rw [exposure]; rfl))).send l _

/-! ### A start (R108, R131) -/

/-- A line that starts tells the Dispatcher, whose walk is then owed. -/
theorem State.startTest_cases (s : State) (l : LineId) :
    (s.startTest l = s ∧ (s.line l).startReady = false)
    ∨ ∃ p rest, (s.line l).startReady = true ∧ (s.line l).queue = p :: rest
      ∧ s.startTest l = (s.exposing l p rest).feedLine l := by
  cases ready : (s.line l).startReady with
  | false => exact .inl ⟨State.startTest_of_not_ready ready, rfl⟩
  | true =>
    obtain ⟨-, -, -, queue, -, -⟩ := Line.startReady_iff.mp ready
    obtain ⟨p, rest, entries⟩ := List.exists_cons_of_ne_nil queue
    exact .inr ⟨p, rest, rfl, entries, State.startTest_eq ready entries⟩

theorem State.exposing_told_feedLine (s : State) (p : Slot) (rest : List Slot) :
    ((s.exposing l p rest).feedLine l).told = true := State.feedLine_told _ l

theorem State.LinesConsistent.startTest (h : s.LinesConsistent) (l : LineId) : (s.startTest l).LinesConsistent := by
  obtain ⟨e, -⟩ | ⟨p, rest, ready, queue, e⟩ := s.startTest_cases l
  · rwa [e]
  · rw [e]
    obtain ⟨mode, -, -, -, -, -⟩ := Line.startReady_iff.mp ready
    obtain ⟨cause, -, -, -, absent⟩ := h l
    have starts : (s.starting l p rest).Consistent := by
      refine ⟨cause, fun idle => ?_, fun idle => ?_, fun faulted => ?_, absent⟩
      · rcases mode with mode | mode <;> rcases idle with idle | idle <;> cases mode.symm.trans idle
      · rcases mode with mode | mode <;> rcases idle with idle | idle | idle <;> cases mode.symm.trans idle
      · rcases mode with mode | mode <;> cases mode.symm.trans faulted
    exact ((Orderly.refl _).feedLine l).lines fun m => by
      refine (s.begun_line l m p (s.starting l p rest)).symm ▸ ?_
      split
      · exact starts
      · exact h m

theorem Orderly.startTest (h : Orderly s t) (l : LineId) : Orderly s (t.startTest l) := by
  refine h.trans ⟨fun hc => hc.startTest l, fun but hr => ?_⟩
  obtain ⟨e, -⟩ | ⟨p, rest, -, -, e⟩ := t.startTest_cases l <;> rw [e]
  · exact hr
  · exact .told (t.exposing_told_feedLine p rest)

/-- A line that was excepted is tested. -/
theorem State.Rests.startTest {but : LineId → Prop} (h : s.Rests fun m => m = l ∨ but m) : (s.startTest l).Rests but := by
  obtain ⟨e, idle⟩ | ⟨p, rest, -, -, e⟩ := s.startTest_cases l <;> rw [e]
  · intro untold
    obtain ⟨placed, started⟩ := h untold
    refine ⟨placed, fun m hm => ?_⟩
    by_cases same : m = l
    · rw [same]
      exact idle
    · exact started m fun k => hm (k.resolve_left same)
  · exact .told (s.exposing_told_feedLine p rest)

theorem State.foldl_startTest_told (ls : List LineId) (told : s.told = true) : (ls.foldl State.startTest s).told = true :=
  List.foldlRecOn (motive := fun u : State => u.told = true) ls _ told fun u hu l _ => by
    obtain ⟨e, -⟩ | ⟨p, rest, -, -, e⟩ := u.startTest_cases l <;> rw [e]
    · exact hu
    · exact u.exposing_told_feedLine p rest

/-- Where the tests of some lines have told nothing, none of them has started. -/
theorem State.foldl_startTest_untold (ls : List LineId) (s : State) (untold : (ls.foldl State.startTest s).told = false) :
    ls.foldl State.startTest s = s ∧ ∀ l ∈ ls, (s.line l).startReady = false := by
  induction ls generalizing s with
  | nil => exact ⟨rfl, fun _ h => absurd h List.not_mem_nil⟩
  | cons l ls ih =>
    rw [List.foldl_cons] at untold ⊢
    obtain ⟨e, idle⟩ | ⟨p, rest, -, -, e⟩ := s.startTest_cases l <;> rw [e] at untold ⊢
    · obtain ⟨same, others⟩ := ih s untold
      exact ⟨same, List.forall_mem_cons.mpr ⟨idle, others⟩⟩
    · rw [State.foldl_startTest_told ls (s.exposing_told_feedLine p rest)] at untold
      cases untold

/-! ### The walk (R100, R101) -/

/-- No record of the ready list has an eligible line, and no line has its start conditions. -/
def State.AtRest (s : State) : Prop :=
  (∀ p ∈ s.ready, ∀ l : LineId, s.eligible p l = false) ∧ ∀ l : LineId, (s.line l).startReady = false

theorem State.LinesConsistent.walkOne (h : s.LinesConsistent) (p : Slot) : (s.walkOne p).LinesConsistent := by
  obtain ⟨e, -⟩ | ⟨l, eligible, e⟩ := s.walkOne_cases p
  · rwa [e]
  · rw [e]
    intro m
    rw [State.place_line]
    split
    · obtain ⟨-, -, mode, -⟩ := State.eligible_iff.mp eligible
      obtain ⟨cause, -, exposure, deadlines, absent⟩ := h l
      refine ⟨cause, fun idle => ?_, exposure, deadlines, absent⟩
      rcases idle with idle | idle <;> rcases mode with mode | mode | mode | mode <;> cases idle.symm.trans mode
    · exact h m

theorem State.LinesConsistent.round (h : s.LinesConsistent) : ({ s with told := false }.walk).startLines.LinesConsistent := by
  have walked : ({ s with told := false } : State).walk.LinesConsistent :=
    List.foldlRecOn (motive := State.LinesConsistent) _ _ h fun u hu p _ => hu.walkOne p
  exact List.foldlRecOn (motive := State.LinesConsistent) _ _ walked fun u hu l _ => hu.startTest l

theorem State.LinesConsistent.walks (h : s.LinesConsistent) (n : Nat) : (State.walks n s).LinesConsistent := by
  induction n generalizing s with
  | zero => exact h
  | succ n ih =>
    unfold State.walks
    dsimp only
    split
    · exact ih h.round
    · exact h.round

/-- Walks that have come to rest. -/
theorem State.walks_atRest (n : Nat) (s : State) (told : s.told = true) (untold : (State.walks n s).told = false) :
    (State.walks n s).AtRest := by
  induction n generalizing s with
  | zero =>
    rw [State.walks, told] at untold
    cases untold
  | succ n ih =>
    unfold State.walks at untold ⊢
    dsimp only at untold ⊢
    split
    · rename_i again
      rw [if_pos again] at untold
      exact ih _ again untold
    · rename_i rest
      rw [if_neg rest] at untold
      obtain ⟨same, idle⟩ := State.foldl_startTest_untold allLines _ untold
      rw [State.startLines, same]
      exact ⟨State.walk_placed _, fun l => idle l (List.mem_finRange l)⟩

/-- A walk that was called for leaves nothing to place and nothing to start. -/
theorem State.settle_atRest (told : s.told = true) : s.settle.AtRest := by
  have untold := s.settle_told
  rw [State.settle, if_pos told] at untold ⊢
  exact State.walks_atRest 5 s told untold

theorem Orderly.settle (h : Orderly s t) : Orderly s t.settle := by
  refine h.trans ⟨fun hc => ?_, fun but hr => ?_⟩
  · unfold State.settle
    split
    · exact hc.walks 5
    · exact hc
  · cases told : t.told with
    | false => rwa [t.settle_untold told]
    | true =>
      obtain ⟨placed, started⟩ := State.settle_atRest told
      exact fun _ => ⟨placed, fun l _ => started l⟩

/-! ### What every command ends with -/

theorem Orderly.endHanding (h : Orderly s t) : Orderly s t.endHanding := by
  unfold State.endHanding
  split
  · exact h.frame
  · exact h

theorem Orderly.transmit (h : Orderly s t) : Orderly s t.transmit := by
  rw [State.transmit_eq]
  exact h.frame

theorem Orderly.finish (h : Orderly s t) : Orderly s t.finish := h.settle.endHanding.transmit

/-- The arbiter's grant and the transmitter leave what the Dispatcher looks at. -/
theorem State.finish_dispatcher (s : State) :
    s.finish.lines = s.settle.lines ∧ s.finish.plates = s.settle.plates ∧ s.finish.ready = s.settle.ready := by
  unfold State.finish
  rw [State.transmit_eq]
  unfold State.endHanding
  split <;> exact ⟨rfl, rfl, rfl⟩

/-- A walk that was called for has placed every record it could and started every line it could. -/
theorem State.finish_atRest (told : s.told = true) : s.finish.AtRest := by
  obtain ⟨lines, plates, ready⟩ := s.finish_dispatcher
  have line : ∀ l, s.finish.line l = s.settle.line l := fun l => by rw [State.line, State.line, lines]
  have plate : ∀ p, s.finish.plate p = s.settle.plate p := fun p => by rw [State.plate, State.plate, plates]
  obtain ⟨placed, started⟩ := State.settle_atRest told
  refine ⟨fun p hp l => ?_, fun l => by rw [line]; exact started l⟩
  rw [State.eligible, line, plate]
  exact placed p (ready ▸ hp) l

/-! ### The frame of what a command ends with -/

/-- A line but for its queue, its exposure, its Composer and its feed buffer. -/
def Line.standing (ln : Line) : Line := { ln with queue := [], exposure := none, composer := {}, feed := [] }

/-- From `s` to `t` descriptors have changed in their exposure holds alone, records in neither their loaded fields nor their
pass, and lines in what `Line.standing` leaves out alone. -/
structure Dispatched (s t : State) : Prop where
  desc : ∀ d : DescId, { t.store.desc d with expHolds := 0 } = { s.store.desc d with expHolds := 0 }
  plate : ∀ p : Slot, (t.plate p).load = (s.plate p).load ∧ (t.plate p).pass = (s.plate p).pass
  line : ∀ l : LineId, (t.line l).standing = (s.line l).standing

theorem Dispatched.refl (s : State) : Dispatched s s := ⟨fun _ => rfl, fun _ => ⟨rfl, rfl⟩, fun _ => rfl⟩

theorem Dispatched.trans (h : Dispatched s t) (k : Dispatched t u) : Dispatched s u where
  desc d := (k.desc d).trans (h.desc d)
  plate p := ⟨(k.plate p).1.trans (h.plate p).1, (k.plate p).2.trans (h.plate p).2⟩
  line l := (k.line l).trans (h.line l)

theorem Dispatched.foldl {α : Type} {f : State → α → State} (hf : ∀ u a, Dispatched s u → Dispatched s (f u a))
    (as : List α) (h : Dispatched s t) : Dispatched s (as.foldl f t) :=
  List.foldlRecOn (motive := Dispatched s) as f h fun u hu a _ => hf u a hu

theorem Dispatched.frame (h : Dispatched s t) (table : u.store.table = t.store.table := by rfl)
    (plates : u.plates = t.plates := by rfl) (lines : u.lines = t.lines := by rfl) : Dispatched s u :=
  h.trans
    { desc := fun d => by rw [RasterStore.desc, RasterStore.desc, table]
      plate := fun p => by rw [State.plate, State.plate, plates]; exact ⟨rfl, rfl⟩
      line := fun l => by rw [State.line, State.line, lines] }

theorem Dispatched.setLine (h : Dispatched s t) (l : LineId) {ln : Line}
    (standing : ln.standing = (t.line l).standing := by rfl) : Dispatched s (t.setLine l ln) :=
  h.trans
    { Dispatched.refl t with
      line := fun m => by
        rw [State.line_setLine]
        split
        · rw [standing, ‹m = l›]
        · rfl }

theorem Dispatched.compose (h : Dispatched s t) (n : Nat) (l : LineId) : Dispatched s (State.compose n l t) := by
  induction n generalizing t with
  | zero => exact h
  | succ n ih =>
    unfold State.compose
    dsimp only
    split
    · split
      · split
        · exact h
        · exact h.frame (RasterStore.request_mem _ _).2.2
      · exact ih (h.setLine l)
    · exact h

theorem Dispatched.send (h : Dispatched s t) (l : LineId) (m : StationMessage) : Dispatched s (t.send l m) := h.frame

theorem Dispatched.goTest (h : Dispatched s t) (l : LineId) : Dispatched s (t.goTest l) := by
  unfold State.goTest
  split
  · exact h
  · split
    · exact (h.setLine l).send l _
    · exact h

theorem Dispatched.feedLine (h : Dispatched s t) (l : LineId) : Dispatched s (t.feedLine l) := (h.compose _ l).goTest l

theorem Dispatched.startTest (h : Dispatched s t) (l : LineId) : Dispatched s (t.startTest l) := by
  obtain ⟨e, -⟩ | ⟨p, rest, -, -, e⟩ := t.startTest_cases l <;> rw [e]
  · exact h
  · refine (h.trans ⟨fun d => ?_, fun q => ?_, fun m => ?_⟩).feedLine l
    · rw [State.exposing_desc]
    · refine (t.begun_plate l p q (t.starting l p rest)).symm ▸ ?_
      split
      · rw [‹q = p›]
        exact ⟨rfl, rfl⟩
      · exact ⟨rfl, rfl⟩
    · refine (t.begun_line l m p (t.starting l p rest)).symm ▸ ?_
      split
      · rw [‹m = l›]
        rfl
      · rfl

theorem Dispatched.walkOne (h : Dispatched s t) (p : Slot) : Dispatched s (t.walkOne p) := by
  obtain ⟨e, -⟩ | ⟨l, -, e⟩ := t.walkOne_cases p <;> rw [e]
  · exact h
  · refine h.trans ⟨fun d => by rw [State.place_eq], fun q => ?_, fun m => ?_⟩
    · rw [State.place_plate]
      split
      · rw [‹q = p›]
        exact ⟨rfl, rfl⟩
      · exact ⟨rfl, rfl⟩
    · rw [State.place_line]
      split
      · rw [‹m = l›]
        rfl
      · rfl

theorem Dispatched.walks (h : Dispatched s t) (n : Nat) : Dispatched s (State.walks n t) := by
  induction n generalizing t with
  | zero => exact h
  | succ n ih =>
    have untold : Dispatched s { t with told := false } := h.frame
    have round : Dispatched s ({ t with told := false }.walk).startLines :=
      (untold.foldl (fun _ p hu => hu.walkOne p) _).foldl (fun _ l hu => hu.startTest l) _
    unfold State.walks
    dsimp only
    split
    · exact ih round
    · exact round

theorem State.finish_dispatched (s : State) : Dispatched s s.finish := by
  have settled : Dispatched s s.settle := by
    unfold State.settle
    split
    · exact (Dispatched.refl s).walks 5
    · exact Dispatched.refl s
  unfold State.finish
  rw [State.transmit_eq]
  unfold State.endHanding
  split
  · exact settled.frame (RasterStore.grant_mem _ _).2.2
  · exact settled.frame

end

end Sys2Proof.Machine
end

section
/-! SUPPORT. Supersession (R77 to R89) and Band Intake (R19 to R36, R51), as `Orderly` says. -/

namespace Sys2Proof.Machine

set_option Elab.async false

section
variable {s t u : State} {l : LineId}

theorem Orderly.onStore (h : Orderly s t) (f : RasterStore → RasterStore) : Orderly s (t.onStore f) := h.frame
theorem Orderly.popHead (h : Orderly s t) : Orderly s t.popHead := h.frame
theorem Orderly.endStall (h : Orderly s t) : Orderly s t.endStall := h.frame
theorem Orderly.beginHanding (h : Orderly s t) : Orderly s t.beginHanding := h.frame

/-! ### Routing at the sorter (R162, R163) -/

theorem Orderly.enterStage (h : Orderly s t) (l : LineId) (p : Slot) (g : Stage) (deadline : Option Nat)
    (running : (t.line l).mode ≠ .faulted) : Orderly s (t.setLine l ((t.line l).enterStage p g deadline)) :=
  h.setLine l ((t.line l).quieter_enterStage p g deadline running)

theorem Orderly.routeEntry (h : Orderly s t) (p : Slot) (b : BinId) (running : (t.line l).mode ≠ .faulted) :
    Orderly s (t.routeEntry l p b) := (h.enterStage l p _ _ running).send l _

theorem State.routeIfRoom_mode (s : State) (l : LineId) (e : TransitEntry) :
    ((s.routeIfRoom l e).line l).mode = (s.line l).mode := by
  unfold State.routeIfRoom State.routeEntry
  split
  · rw [State.send_line, State.line_setLine_self]
    rfl
  · rfl

theorem Orderly.routeIfRoom (h : Orderly s t) (e : TransitEntry) (running : (t.line l).mode ≠ .faulted) :
    Orderly s (t.routeIfRoom l e) := by
  unfold State.routeIfRoom
  split
  · exact h.routeEntry _ _ running
  · exact h

theorem Orderly.foldl_routeIfRoom (h : Orderly s t) (running : (t.line l).mode ≠ .faulted) (es : List TransitEntry) :
    Orderly s (es.foldl (fun u e => u.routeIfRoom l e) t)
    ∧ ((es.foldl (fun u e => u.routeIfRoom l e) t).line l).mode ≠ .faulted := by
  induction es generalizing t with
  | nil => exact ⟨h, running⟩
  | cons e es ih => exact ih (h.routeIfRoom e running) ((t.routeIfRoom_mode l e).trans_ne running)

theorem Orderly.routeWaiting (h : Orderly s t) (l : LineId) : Orderly s (t.routeWaiting l) := by
  unfold State.routeWaiting
  split
  · exact h
  · rename_i waits
    obtain ⟨running, -⟩ := not_or.mp waits
    obtain ⟨routed, running'⟩ := h.foldl_routeIfRoom running _
    exact routed.setLine l (Line.quieter_resumeDeadlines _ running')

/-! ### One record superseded (R80 to R89) -/

theorem Orderly.applyAction (h : Orderly s t) (p : Slot) (l : LineId) : Orderly s (t.applyAction p l) := by
  unfold State.applyAction
  dsimp only
  split
  · exact (h.setPlate p).abortExposure l
  · exact h.setPlate p

theorem Orderly.supersedeQueued (h : Orderly s t) (p : Slot) (l : LineId) : Orderly s (t.supersedeQueued p l) :=
  (((h.leaveQueue l p).setPlate p).report _).drainTest l

theorem Orderly.supersedeExposing (h : Orderly s t) (p : Slot) (l : LineId) : Orderly s (t.supersedeExposing p l) := by
  unfold State.supersedeExposing
  split
  · exact h
  · split
    · exact h.applyAction p l
    · exact h.setPlate p

theorem Orderly.supersedeExposed (h : Orderly s t) (p : Slot) (l : LineId) : Orderly s (t.supersedeExposed p l) := by
  unfold State.supersedeExposed
  split
  · exact h
  · dsimp only
    split
    · exact h.setPlate p
    · exact (h.setPlate p).setLine l (Line.quieter_mapEntry _ p _ fun _ => rfl)

theorem Orderly.supersedeDelivered (h : Orderly s t) (k : PageIx) (w : Nat) (p : Slot) :
    Orderly s (t.supersedeDelivered k w p) := (((h.setPlate p).report _).offerDemand _ _).autoRemake p

theorem Orderly.supersedeOne (h : Orderly s t) (k : PageIx) (w : Nat) (p : Slot) :
    Orderly s (State.supersedeOne k w t p) := by
  unfold State.supersedeOne
  split
  case h_1 => exact ((h.leaveReady p).setPlate p).tell
  case h_2 =>
    split
    · exact h.supersedeQueued p _
    · exact h
  case h_3 =>
    split
    · exact h.supersedeExposing p _
    · exact h
  case h_4 =>
    split
    · exact h.supersedeExposed p _
    · exact h
  case h_5 => exact h.supersedeDelivered k w p
  all_goals exact h

theorem Orderly.supersede (h : Orderly s t) (k : PageIx) (w : Nat) : Orderly s (t.supersede k w) :=
  Orderly.foldl (fun _ l hu => hu.routeWaiting l) _ (h.foldl (fun _ p hu => hu.supersedeOne k w p) _)

/-! ### Band Intake -/

theorem Orderly.stallReport (h : Orderly s t) (b : Band) : Orderly s (t.stallReport b) := by
  unfold State.stallReport
  split
  · exact h
  · exact h.frame

theorem Orderly.breakPage (h : Orderly s t) (k : PageIx) (c : Cause) : Orderly s (t.breakPage k c) :=
  h.directory (t.breakPage_only k c)

theorem Orderly.evaluateOn (h : Orderly s t) (k : PageIx) : Orderly s (t.evaluateOn k) :=
  h.foldl (fun _ p hu => hu.evaluate p) _

theorem Orderly.completePage (h : Orderly s t) (k : PageIx) : Orderly s (t.completePage k) := by
  unfold State.completePage
  dsimp only
  split
  · exact (((h.setPage k _).onStore _).report _).evaluateOn k
  · exact ((h.setPage k _).report _).evaluateOn k

theorem Orderly.newReception (h : Orderly s t) (b : Band) : Orderly s (t.newReception b).1 := by
  cases free : t.store.firstFree with
  | none =>
    rw [State.newReception_waits free]
    exact h
  | some d =>
    have received := h.directory (t.received_only b d)
    rw [State.newReception_takes free]
    split
    · exact received
    · exact (received.report _).supersede _ _

theorem Orderly.judge (h : Orderly s t) (b : Band) : Orderly s (t.judge b).1 := by
  rcases t.judge_cases b with ⟨c, e⟩ | ⟨-, e⟩ | ⟨-, e | e⟩ | ⟨-, -, -, e⟩ | ⟨-, -, e⟩ <;> rw [e]
  · exact h.report _
  · exact h.breakPage _ _
  · exact h
  · exact h.directory (t.restartReception_only b)
  · exact h.directory (t.receiveAgain_only b)
  · exact h.newReception b

theorem Orderly.startRow (h : Orderly s t) (b : Band) : Orderly s (t.startRow b) := by
  unfold State.startRow State.requestWrite
  split
  · exact h
  · dsimp only
    split
    · split
      · exact Orderly.stallReport h.frame b
      · exact h.frame
    · exact h.frame

theorem Orderly.lastBandDecision (h : Orderly s t) (b : Band) : Orderly s (t.lastBandDecision b) := by
  unfold State.lastBandDecision
  dsimp only
  split
  · split
    · exact h.completePage _
    · exact h.breakPage _ _
  · exact h.breakPage _ _

theorem Orderly.acceptBand (h : Orderly s t) (b : Band) : Orderly s (t.acceptBand b).1 := by
  unfold State.acceptBand
  split
  · exact h.breakPage _ _
  · have accepted : Orderly s (t.acceptInto b) := h.setPage _ _
    dsimp only
    split
    · exact accepted.lastBandDecision b
    · exact Orderly.startRow accepted.frame b

theorem Orderly.takeHeads (h : Orderly s t) (n : Nat) : Orderly s (t.takeHeads n) := by
  induction n generalizing t with
  | zero => exact h
  | succ n ih =>
    unfold State.takeHeads
    split
    · exact h
    · split
      · exact h
      · rename_i b _ _
        have judged := h.judge b
        split
        · rename_i verdict
          rw [verdict] at judged
          exact Orderly.stallReport judged.frame b
        · rename_i verdict
          rw [verdict] at judged
          exact ih judged.endStall.popHead
        · rename_i verdict
          rw [verdict] at judged
          have accepted := judged.endStall.acceptBand b
          split
          · rename_i disposed
            rw [disposed] at accepted
            exact ih accepted.popHead
          · rename_i writing
            rw [writing] at accepted
            exact accepted

theorem Orderly.runIntake (h : Orderly s t) : Orderly s t.runIntake := h.takeHeads _

theorem Orderly.wakeIntake (h : Orderly s t) : Orderly s t.wakeIntake := by
  unfold State.wakeIntake
  split
  · split
    · exact h
    · exact Orderly.startRow h.frame _
  · split
    · exact h
    · exact Orderly.runIntake h.frame
  · exact h

theorem Orderly.abandonHead (h : Orderly s t) (k : PageIx) : Orderly s (t.abandonHead k) := by
  unfold State.abandonHead
  split
  · split
    · exact h.frame
    · exact h
  · split
    · exact h.frame
    · exact h
  · exact h

theorem Orderly.disposeAbandoned (h : Orderly s t) : Orderly s t.disposeAbandoned := by
  unfold State.disposeAbandoned
  split
  · exact h.popHead.runIntake
  · exact h

theorem Orderly.overrunBand (h : Orderly s t) (b : Band) : Orderly s (t.overrunBand b) := by
  unfold State.overrunBand
  dsimp only
  split
  · exact (((h.report _).breakPage _ _).abandonHead _).wakeIntake.disposeAbandoned
  · exact h.report _

theorem Orderly.bandArrives (h : Orderly s t) (body : List Byte) : Orderly s (t.bandArrives body) := by
  unfold State.bandArrives State.offerBand
  split
  · exact h.report _
  · split
    · exact Orderly.runIntake h.frame
    · exact h.overrunBand _

theorem Orderly.rowWritten (h : Orderly s t) (b : Band) : Orderly s (t.rowWritten b) := by
  have advanced : Orderly s (t.setPage b.key { t.page b.key with rows := (t.page b.key).rows + 1 }) := h.setPage _ _
  unfold State.rowWritten
  dsimp only
  split
  · exact Orderly.startRow advanced.frame b
  · split
    · exact (Orderly.lastBandDecision advanced.frame b).popHead.runIntake
    · exact Orderly.runIntake advanced.frame

theorem Orderly.writeHanded (h : Orderly s t) : Orderly s t.writeHanded := by
  unfold State.writeHanded
  split
  · exact h.rowWritten _
  · exact h.popHead.runIntake
  · exact h

theorem Orderly.discardPage (h : Orderly s t) (k : PageIx) : Orderly s (t.discardPage k) := by
  unfold State.discardPage
  dsimp only
  split
  · exact (((h.onStore _).abandonHead k).setPage k _).disposeAbandoned
  · exact ((h.abandonHead k).setPage k _).disposeAbandoned

end

end Sys2Proof.Machine
end

section
/-! SUPPORT. The events of the exposure unit, the punch-bender and the sorter, as `Orderly` says: an end of an exposure makes
its line ready to start, and tells the Dispatcher or tests the line (R100, R108). -/

namespace Sys2Proof.Machine

set_option Elab.async false

section
variable {s t u : State} {l : LineId} {p : Slot} {c : Exposure}

/-! ### A line that may become ready to start -/

/-- A line takes the place of a line; it takes no more plates than that one, and it may have become ready to start. -/
theorem State.Rests.except {but : LineId → Prop} (h : s.Rests but) {ln : Line}
    (admits : ∀ n, ln.Admits n → (s.line l).Admits n) : (s.setLine l ln).Rests fun m => m = l ∨ but m := by
  intro untold
  obtain ⟨placed, started⟩ := h untold
  refine ⟨fun q hq m => Bool.eq_false_iff.mpr fun eligible => Bool.eq_false_iff.mp (placed q hq m) ?_, fun m hm => ?_⟩
  · rw [State.eligible_iff_admits, State.line_setLine] at eligible
    rw [State.eligible_iff_admits]
    obtain ⟨mask, takes⟩ := eligible
    split at takes
    · rename_i same
      subst same
      exact ⟨mask, admits _ takes⟩
    · exact ⟨mask, takes⟩
  · obtain ⟨other, excepted⟩ := not_or.mp hm
    rw [State.line_setLine, if_neg other]
    exact started m excepted

theorem Orderly.clearAbort (h : Orderly s t) (l : LineId) : Orderly s (t.clearAbort l) := by
  unfold State.clearAbort
  split
  · refine h.trans ⟨fun hc => ?_, fun but hr => ?_⟩
    · exact (hc.setLine (l := l) (ln := { t.line l with resetAbort := false }) (hc l)).startTest l
    · exact (hr.except (l := l) (ln := { t.line l with resetAbort := false }) fun _ => id).startTest
  · exact h

/-! ### BEGIN_ACCEPT, reads and line requests (R127, R133, R137) -/

theorem Orderly.takeAccept (h : Orderly s t) (l : LineId) : Orderly s (t.takeAccept l) := by
  unfold State.takeAccept
  split
  · exact h
  · rename_i c exposure
    split
    · exact h
    · have answered := ((h.setLine l (ln := { t.line l with exposure := some c.accepted })
        (.same (exposure := by rw [exposure]; rfl))).setPlate c.slot
          (r := { t.plate c.slot with pass := c.pass, withdraw := false })).report
            { kind := .exposureStarted, slot := some c.slot, line := some l, pass := some c.pass }
      unfold State.acceptBegin
      dsimp only
      split
      · exact (answered.applyAction _ l).goTest l
      · exact answered.goTest l

theorem Orderly.readCompletes (h : Orderly s t) (r : ScanRead) : Orderly s (t.readCompletes r) := by
  unfold State.readCompletes State.readHanded
  split
  · exact h.beginHanding.feedLine _
  · split
    · exact h.beginHanding
    · split
      · exact h.beginHanding
      · exact (h.beginHanding.setLine _ .same).feedLine _

theorem Orderly.takeLineRequest (h : Orderly s t) (l : LineId) : Orderly s (t.takeLineRequest l) := by
  unfold State.takeLineRequest
  split
  · exact h
  · rename_i exposure
    split
    · split
      · exact (h.setPlate _).abortExposure l
      · exact ((h.setLine l (.same (exposure := by rw [exposure]; rfl))).send l _).feedLine l
    · exact h

/-! ### An exposure closed (R49, R129) -/

theorem Line.Consistent.idle {ln : Line} (h : ln.Consistent) (feed : List (List Byte)) (composer : Composer) :
    ({ ln with feed := feed, composer := composer, exposure := none } : Line).Consistent := by
  obtain ⟨cause, empty, -, deadlines, absent⟩ := h
  exact ⟨cause, empty, fun _ => rfl, deadlines, absent⟩

theorem State.LinesConsistent.closeExposure (h : s.LinesConsistent) (l : LineId) (c : Exposure) :
    (s.closeExposure l c).LinesConsistent :=
  State.LinesConsistent.setLine (s := s.onStore _) h ((h l).idle [] {})

theorem State.LinesConsistent.tell (h : s.LinesConsistent) : s.tell.LinesConsistent := h

theorem State.LinesConsistent.wakeIntake (h : s.LinesConsistent) : s.wakeIntake.LinesConsistent :=
  (Orderly.refl s).wakeIntake.lines h

theorem State.LinesConsistent.drainTest (h : s.LinesConsistent) (l : LineId) : (s.drainTest l).LinesConsistent :=
  ((Orderly.refl s).drainTest l).lines h

theorem State.LinesConsistent.spoil (h : s.LinesConsistent) (p : Slot) (cause : Cause) :
    (s.spoil p cause).LinesConsistent := ((Orderly.refl s).spoil p cause).lines h

theorem State.LinesConsistent.withdrawRecord (h : s.LinesConsistent) (l : LineId) (p : Slot) :
    (s.withdrawRecord l p).LinesConsistent := (((Orderly.refl s).setPlate p).report _ |>.evaluate p).lines h

theorem State.returnToReady_line (s : State) (p : Slot) (m : LineId) : (s.returnToReady p).line m = s.line m := by
  rw [State.line, State.returnToReady_lines, ← State.line]

theorem State.LinesConsistent.returnToReady (h : s.LinesConsistent) (p : Slot) : (s.returnToReady p).LinesConsistent :=
  fun m => by
    rw [State.returnToReady_line]
    exact h m

/-- An exposure in flight is on a line whose port is fitted. -/
theorem State.LinesConsistent.fitted (h : s.LinesConsistent) (exposure : (s.line l).exposure = some c) :
    (s.line l).fitted = true := (h l).fitted_of_mode ((h l).mode_of_exposure c exposure).1

theorem State.spoil_line (s : State) (p : Slot) (cause : Cause) (m : LineId) : (s.spoil p cause).line m = s.line m := by
  rw [State.line, State.spoil_lines, ← State.line]

/-- The plate of a failed exposure is spoiled, and its line faulted (R132, R141). -/
theorem State.LinesConsistent.failExposure (h : s.LinesConsistent) (exposure : (s.line l).exposure = some c)
    (cause : Cause) (o : Option Slot) :
    (((s.closeExposure l c).spoil c.slot cause).faultLine l cause o).LinesConsistent := by
  refine ((h.closeExposure l c).spoil c.slot cause).faultLine ?_ cause o
  rw [State.spoil_line, State.closeExposure_line]
  exact h.fitted exposure

theorem Orderly.timeoutBegin (h : Orderly s t) (exposure : (t.line l).exposure = some c) :
    Orderly s (t.timeoutBegin l c) := by
  unfold State.timeoutBegin
  refine h.trans (.told (fun hc => ?_) (State.tell_told _))
  have aborted := hc.setLine (l := l) (ln := { t.line l with resetAbort := true }) (hc l)
  have in_flight : ((t.setLine l { t.line l with resetAbort := true }).line l).exposure = some c := by
    rw [State.line_setLine_self]
    exact exposure
  exact (State.LinesConsistent.failExposure (s := (t.send l .exposeAbort).setLine l { t.line l with resetAbort := true })
    aborted in_flight .unitSilent _).wakeIntake.tell

theorem Orderly.takeEndFault (h : Orderly s t) (l : LineId) : Orderly s (t.takeEndFault l) := by
  unfold State.takeEndFault
  split
  · exact h.clearAbort l
  · rename_i exposure
    unfold State.failExposure
    exact h.trans (.told (fun hc => (hc.failExposure exposure .unitFault _).wakeIntake.tell) (State.tell_told _))

/-! ### The end of a pause and of a drain (R107, R109) -/

theorem State.LinesConsistent.endPause (h : s.LinesConsistent) (idle : (s.line l).exposure = none) :
    (s.endPause l).LinesConsistent := by
  unfold State.endPause
  split
  · rename_i mode
    exact h.setMode l _ fun _ => (h l).setMode _ (by rw [mode]; decide) (by decide)
      ((h l).fitted_of_mode (by rw [mode]; decide)) nofun fun _ => idle
  · exact h

theorem State.setMode_idle (m : LineMode) (idle : (s.line l).exposure = none) :
    ((s.setMode l m).line l).exposure = none := by
  by_cases same : (s.line l).mode = m
  · rwa [State.setMode_same s l m same]
  · rw [State.setMode_change s l m same, State.tell_line, State.report_line, State.line_setLine_self]
    exact idle

theorem State.LinesConsistent.hold (h : s.LinesConsistent) (idle : (s.line l).exposure = none)
    (mode : (s.line l).mode ≠ .stopped ∧ (s.line l).mode ≠ .faulted) : (s.setMode l .held).LinesConsistent :=
  h.setMode l _ fun _ => (h l).setMode _ mode.2 (by decide) ((h l).fitted_of_mode mode.1) nofun fun _ => idle

theorem State.LinesConsistent.afterEnd (h : s.LinesConsistent) (idle : (s.line l).exposure = none) (hold : Bool) :
    (s.afterEnd l hold).LinesConsistent := by
  unfold State.afterEnd State.holdTest
  split
  · split
    case h_1 mode | h_3 mode => exact h.hold idle (by rw [mode]; decide)
    case h_2 mode =>
      have paused := h.endPause idle
      rw [State.endPause, if_pos mode] at paused
      exact paused.hold (State.setMode_idle _ idle) (by rw [State.setMode_mode]; decide)
    all_goals exact h
  · exact (h.endPause idle).drainTest l

/-! ### EXPOSE_END (R140) -/

theorem Line.Consistent.appendEntry {ln : Line} (h : ln.Consistent) (fitted : ln.fitted = true) (p : Slot) (mark : Nat)
    (route : Route) (f : ProfileId) : (ln.appendEntry p mark route f).Consistent := by
  obtain ⟨cause, empty, free, stopped, -⟩ := h
  refine ⟨cause, empty, free, fun faulted e he => ?_, fun unfitted => ?_⟩
  · rcases List.mem_append.mp he with he | he
    · exact stopped faulted e he
    · rw [List.mem_singleton.mp he]
      exact if_pos faulted
  · rw [show ln.fitted = false from unfitted] at fitted
    cases fitted

theorem Orderly.endExposure (h : Orderly s t) (exposure : (t.line l).exposure = some c) (cause : EndCause) :
    Orderly s (t.endExposure l c cause) := by
  unfold State.endExposure
  refine h.trans (.told (fun hc => ?_) (State.tell_told _))
  have closed := hc.closeExposure l c
  have fitted : ((t.closeExposure l c).line l).fitted = true := by
    rw [State.closeExposure_line]
    exact hc.fitted exposure
  refine ((State.LinesConsistent.afterEnd ?_ ?_ _).wakeIntake.startTest l).tell
  · exact closed.setLine ((closed l).appendEntry fitted c.slot c.mark _ _)
  · rw [State.report_line, State.line_setLine_self, State.setPlate_line, State.closeExposure_line]
    rfl

theorem Orderly.takeEnd (h : Orderly s t) (l : LineId) (cause : EndCause) : Orderly s (t.takeEnd l cause) := by
  unfold State.takeEnd
  split
  · exact h.clearAbort l
  · rename_i exposure
    split
    · exact h.endExposure exposure cause
    · exact h

/-! ### A begin refused (R134, R135) -/

/-- A record back at the head of its queue, on a line that is neither STOPPED nor FAULTED. -/
theorem State.LinesConsistent.requeue (h : s.LinesConsistent) (p : Slot)
    (mode : (s.line l).mode ≠ .stopped ∧ (s.line l).mode ≠ .faulted) : (s.requeue l p).LinesConsistent := by
  have queued : (s.setLine l { s.line l with queue := p :: (s.line l).queue }).LinesConsistent := by
    refine h.setLine ?_
    obtain ⟨cause, -, free, stopped, absent⟩ := h l
    exact ⟨cause, fun idle => (idle.elim mode.1 mode.2).elim, free, stopped, absent⟩
  have joined : ((s.setLine l { s.line l with queue := p :: (s.line l).queue }).setPlate p
      { s.plate p with state := .queued }).LinesConsistent := queued
  unfold State.requeue
  dsimp only
  split
  · exact joined.returnEntries l _
  · exact joined

theorem State.LinesConsistent.refusedRecord (h : s.LinesConsistent) (p : Slot) (mode : (s.line l).mode ≠ .stopped) :
    (s.refusedRecord l p).LinesConsistent := by
  unfold State.refusedRecord State.returnMismatch
  split
  · exact h.withdrawRecord l p
  · split
    · exact h.returnToReady p
    · rename_i running
      have queued := h.requeue p ⟨mode, running⟩
      split
      · exact queued
      · exact queued.returnEntries l _

theorem State.withdrawRecord_line (s : State) (l m : LineId) (p : Slot) : (s.withdrawRecord l p).line m = s.line m := by
  rw [State.withdrawRecord, State.line, State.evaluate_lines]
  rfl

theorem State.returnEntries_exposure (s : State) (l m : LineId) (ps : List Slot) :
    ((s.returnEntries l ps).line m).exposure = (s.line m).exposure := by
  rw [State.returnEntries_line]
  split
  · rw [‹m = l›]
  · rfl

theorem State.requeue_exposure (s : State) (l : LineId) (p : Slot) :
    ((s.requeue l p).line l).exposure = (s.line l).exposure := by
  have queued : (((s.setLine l { s.line l with queue := p :: (s.line l).queue }).setPlate p
      { s.plate p with state := .queued }).line l).exposure = (s.line l).exposure := by
    rw [State.setPlate_line, State.line_setLine_self]
  unfold State.requeue
  dsimp only
  split
  · exact (State.returnEntries_exposure _ l l _).trans queued
  · exact queued

theorem State.refusedRecord_exposure (s : State) (l : LineId) (p : Slot) :
    ((s.refusedRecord l p).line l).exposure = (s.line l).exposure := by
  unfold State.refusedRecord State.returnMismatch
  split
  · rw [State.withdrawRecord_line]
  · split
    · rw [State.tell_line, State.returnToReady_line]
    · split
      · exact s.requeue_exposure l p
      · exact (State.returnEntries_exposure _ l l _).trans (s.requeue_exposure l p)

/-- The exposure undone, before its record is dealt with. -/
theorem State.undoBegin_line (s : State) (l : LineId) (c : Exposure) :
    (s.undoBegin l c).line l = { s.line l with feed := [], composer := {}, exposure := none } := s.closeExposure_line l c

theorem State.LinesConsistent.undoBegin (h : s.LinesConsistent) (l : LineId) (c : Exposure) :
    (s.undoBegin l c).LinesConsistent := h.closeExposure l c

/-- The refused record dealt with, on a line without an exposure in flight. -/
theorem State.LinesConsistent.refuse (h : s.LinesConsistent) {ln : Line} (hl : ln.Consistent) (idle : ln.exposure = none)
    (mode : ln.mode ≠ .stopped) (p : Slot) :
    ((((s.setLine l ln).refusedRecord l p).endPause l).drainTest l).wakeIntake.LinesConsistent := by
  have line := s.line_setLine_self l ln
  refine (State.LinesConsistent.drainTest (State.LinesConsistent.endPause ?_ ?_) l).wakeIntake
  · exact (h.setLine hl).refusedRecord p (by rwa [line])
  · rwa [State.refusedRecord_exposure, line]

theorem Orderly.refuseBegin (h : Orderly s t) (exposure : (t.line l).exposure = some c) :
    Orderly s (t.refuseBegin l c) := by
  unfold State.refuseBegin
  refine h.trans (.told (fun hc => ?_) (State.tell_told _))
  have closed := hc.undoBegin l c
  have line := t.undoBegin_line l c
  refine (closed.refuse (ln := { (t.undoBegin l c).line l with unitReady := false }) (closed l) ?_ ?_ c.slot).tell
  · rw [line]
  · rw [line]
    exact ((hc l).mode_of_exposure c exposure).1

theorem Orderly.takeRefuse (h : Orderly s t) (l : LineId) : Orderly s (t.takeRefuse l) := by
  unfold State.takeRefuse
  split
  · exact h.clearAbort l
  · rename_i exposure
    split
    · exact h.clearAbort l
    · exact h.refuseBegin exposure

theorem Orderly.refuseLocal (h : Orderly s t) (exposure : (t.line l).exposure = some c) :
    Orderly s (t.refuseLocal l c) := by
  unfold State.refuseLocal
  refine h.trans (.told (fun hc => ?_) (State.tell_told _))
  have closed := hc.undoBegin l c
  have undone := closed.setLine (l := l)
    (ln := { (t.undoBegin l c).line l with unitLocal := true, unitReady := false }) (closed l)
  have faulted := undone.faultLine (l := l) (by
    rw [State.line_setLine_self, State.undoBegin_line]
    exact hc.fitted exposure) .unitLocal (some c.slot)
  refine State.LinesConsistent.tell (State.LinesConsistent.wakeIntake ?_)
  dsimp only
  split
  · exact faulted.withdrawRecord l c.slot
  · exact faulted.returnToReady c.slot

theorem Orderly.takeRefuseLocal (h : Orderly s t) (l : LineId) : Orderly s (t.takeRefuseLocal l) := by
  unfold State.takeRefuseLocal
  split
  · exact h.clearAbort l
  · rename_i exposure
    split
    · exact h.clearAbort l
    · exact h.refuseLocal exposure

/-! ### Unit status (R143) -/

theorem State.LinesConsistent.changeStock (h : s.LinesConsistent) (l : LineId) (stock : Option Nat) :
    (s.changeStock l stock).LinesConsistent := by
  unfold State.changeStock
  split
  · exact h
  · exact ((h.setLine (l := l) (ln := { s.line l with stock := stock }) (h l)).returnEntries l _).drainTest l

theorem Orderly.takeStatus (h : Orderly s t) (l : LineId) (ready : Bool) (stock : Option Nat) (unitLocal : Bool) :
    Orderly s (t.takeStatus l ready stock unitLocal) := by
  unfold State.takeStatus
  refine h.trans (.told (fun hc => ?_) (State.tell_told _))
  exact (((hc.setLine (l := l) (ln := { t.line l with unitLocal := unitLocal, unitReady := ready && !unitLocal })
    (hc l)).changeStock l stock).startTest l).tell

end

end Sys2Proof.Machine
end

section
/-! SUPPORT. The events of the punch-bender and the sorter and the control commands, as `Orderly` says; so every event and every
command. -/

namespace Sys2Proof.Machine

set_option Elab.async false

section
variable {s t u : State} {l : LineId} {p : Slot} {c : Exposure}

/-! ### The punch-bender (R150 to R154) -/

theorem Orderly.deliverAtPunch (h : Orderly s t) (e : TransitEntry) (running : (t.line l).mode ≠ .faulted) :
    Orderly s (t.deliverAtPunch l e) := by
  unfold State.deliverAtPunch
  split
  · exact (h.enterStage l _ _ _ running).send l _
  · split
    · exact (h.setLine l ((Line.quieter_enterStage _ e.slot _ _ running).trans .same)).send l _
    · exact h.enterStage l _ _ _ running

theorem State.deliverAtPunch_mode (s : State) (l : LineId) (e : TransitEntry) :
    ((s.deliverAtPunch l e).line l).mode = (s.line l).mode := by
  unfold State.deliverAtPunch State.sendGo State.sendSetup
  split
  · rw [State.send_line, State.line_setLine_self]
    rfl
  · split
    · rw [State.send_line, State.line_setLine_self]
      rfl
    · rw [State.line_setLine_self]
      rfl

theorem Orderly.acceptArrival (h : Orderly s t) (e : TransitEntry) (running : (t.line l).mode ≠ .faulted) :
    Orderly s (t.acceptArrival l e) := by
  unfold State.acceptArrival
  split
  · exact h.deliverAtPunch e running
  · exact (h.enterStage l _ _ _ running).send l _

theorem Orderly.takeArrival (h : Orderly s t) (fitted : (t.line l).fitted = true) (mark : Option Nat) :
    Orderly s (t.takeArrival l mark) := by
  unfold State.takeArrival State.matchArrival
  split
  · exact h.faultLine fitted _ _
  · rename_i running
    split
    · exact h.faultLine fitted _ _
    · split
      · split
        · exact (h.report _).acceptArrival _ running
        · split
          · exact h.acceptArrival _ running
          · exact h.faultLine fitted _ _
      · exact h.acceptArrival _ running

theorem Orderly.serveSetups (h : Orderly s t) (n : Nat) (running : (t.line l).mode ≠ .faulted) :
    Orderly s (State.serveSetups n l t) := by
  induction n generalizing t with
  | zero => exact h
  | succ n ih =>
    unfold State.serveSetups
    split
    · exact ih (h.deliverAtPunch _ running) ((t.deliverAtPunch_mode l _).trans_ne running)
    · exact h

theorem Orderly.takeSetupDone (h : Orderly s t) (l : LineId) : Orderly s (t.takeSetupDone l) := by
  unfold State.takeSetupDone
  split
  · exact h
  · rename_i running
    split
    · exact h
    · rename_i e _
      have known : Orderly s (t.setLine l { t.line l with stationProfile := some e.profile }) := h.setLine l .same
      have mode : ((t.setLine l { t.line l with stationProfile := some e.profile }).line l).mode ≠ .faulted := by
        rw [State.line_setLine_self]
        exact running
      refine ((known.enterStage l e.slot _ _ mode).send l _).serveSetups _ ?_
      rw [State.send_line, State.line_setLine_self]
      exact mode

theorem Orderly.takeDone (h : Orderly s t) (l : LineId) : Orderly s (t.takeDone l) := by
  unfold State.takeDone
  split
  · exact h
  · rename_i running
    split
    · exact h
    · exact h.enterStage l _ _ _ running

theorem Orderly.takePunchFault (h : Orderly s t) (fitted : (t.line l).fitted = true) : Orderly s (t.takePunchFault l) := by
  unfold State.takePunchFault
  dsimp only
  split
  · exact h.faultLine fitted _ _
  · refine (h.setLine l (ln := { t.line l with stationProfile := none }) .same).faultLine ?_ _ _
    rw [State.line_setLine_self]
    exact fitted

/-- A deadline runs on a line whose port is fitted. -/
theorem Orderly.expire (h : Orderly s t) {e : TransitEntry} (deadline : (t.line l).runningDeadline p = some e) (cause : Cause)
    (o : Option Slot) : Orderly s (t.faultLine l cause o) := by
  refine h.trans ⟨fun hc => hc.faultLine ?_ cause o, fun _ hr => State.faultLine_rests hr l cause o⟩
  obtain ⟨-, -, -, -, absent⟩ := hc l
  by_contra unfitted
  unfold Line.runningDeadline Line.entryOf at deadline
  rw [(absent (by simpa using unfitted)).2] at deadline
  cases deadline

/-! ### The sorter (R162 to R168) -/

theorem Orderly.takeSorterArrival (h : Orderly s t) (fitted : (t.line l).fitted = true) :
    Orderly s (t.takeSorterArrival l) := by
  unfold State.takeSorterArrival State.arriveAtSorter
  split
  · exact h.faultLine fitted _ _
  · rename_i running
    split
    · exact h.faultLine fitted _ _
    · split
      · exact h.routeEntry _ _ running
      · exact (h.setLine l ((Line.quieter_enterStage _ _ _ _ running).trans (Line.quieter_holdDeadlines _))).send l _

theorem Orderly.fate (h : Orderly s t) (l : LineId) (b : BinId) (e : TransitEntry) : Orderly s (t.fate l b e) := by
  unfold State.fate State.deliver State.obsoleteInBin State.rejected
  split
  · exact ((h.setPlate _).report _).offerDemand _ _
  · exact ((h.setPlate _).report _).autoRemake _
  · exact ((h.setPlate _).report _).autoRemake _
  · exact ((h.setPlate _).report _).autoRemake _

theorem Orderly.fullTest (h : Orderly s t) (l : LineId) (b : BinId) : Orderly s (t.fullTest l b) := by
  unfold State.fullTest
  split
  · exact h.report _
  · exact h

theorem Line.Consistent.dropEntry {ln : Line} (h : ln.Consistent) (p : Slot) : (ln.dropEntry p).Consistent := by
  obtain ⟨cause, empty, free, stopped, absent⟩ := h
  refine ⟨cause, empty, free, fun faulted e he => stopped faulted e (List.mem_of_mem_filter he), fun unfitted => ?_⟩
  obtain ⟨still, none_left⟩ := absent unfitted
  refine ⟨still, ?_⟩
  rw [Line.dropEntry, none_left]
  rfl

theorem Line.Consistent.stacked {ln : Line} (h : ln.Consistent) (b : BinId) (p : Slot) : (ln.stacked b p).Consistent :=
  Line.Consistent.dropEntry (ln := ln.setBin b _) h p

/-- A plate stacked leaves room in transit: its line is tested (R164, R108). -/
theorem Orderly.stack (h : Orderly s t) (l : LineId) (b : BinId) (e : TransitEntry) : Orderly s (t.stack l b e) := by
  have after : Orderly (t.setLine l ((t.line l).stacked b e.slot))
      (((t.setLine l ((t.line l).stacked b e.slot)).fate l b e).wakeIntake.fullTest l b) :=
    ((Orderly.refl _).fate l b e).wakeIntake.fullTest l b
  refine h.trans (Orderly.routeWaiting ⟨fun hc => ?_, fun but hr => ?_⟩ l)
  · exact (after.lines (hc.setLine ((hc l).stacked b e.slot))).startTest l
  · exact (after.rests _ (hr.except (ln := (t.line l).stacked b e.slot) fun _ => id)).startTest

theorem Orderly.misroute (h : Orderly s t) (e : TransitEntry) (fitted : (t.line l).fitted = true)
    (running : (t.line l).mode ≠ .faulted) : Orderly s (t.misroute l e) := by
  have line : ((t.setLine l ((t.line l).dropEntry e.slot)).spoil e.slot .misroute).line l = (t.line l).dropEntry e.slot := by
    rw [State.spoil_line, State.line_setLine_self]
  unfold State.misroute
  refine h.trans (.told (fun hc => ?_) ?_)
  · refine ((hc.setLine ((hc l).dropEntry e.slot)).spoil e.slot .misroute).faultLine ?_ _ _
    rw [line]
    exact fitted
  · rw [State.faultLine_stops (by rw [line]; exact running)]
    rfl

theorem Orderly.takeStacked (h : Orderly s t) (fitted : (t.line l).fitted = true) (bin : Nat) :
    Orderly s (t.takeStacked l bin) := by
  unfold State.takeStacked
  split
  · exact h
  · rename_i running
    split
    · exact h.faultLine fitted _ _
    · split
      · exact h
      · split
        · exact h.stack l _ _
        · exact h.misroute _ fitted running

theorem Orderly.takeEmptied (h : Orderly s t) (l : LineId) (bin : Nat) : Orderly s (t.takeEmptied l bin) := by
  unfold State.takeEmptied
  split
  · exact ((h.setLine l .same).report _).routeWaiting l
  · exact h

/-! ### Every event -/

theorem Message.orderly (h : Message l s t) (fitted : (s.line l).fitted = true) : Orderly s t := by
  have k := Orderly.refl s
  cases h with
  | beginAccept => exact k.takeAccept l
  | beginRefuse => exact k.takeRefuse l
  | beginRefuseLocal => exact k.takeRefuseLocal l
  | lineRequest => exact k.takeLineRequest l
  | exposeEnd cause => exact k.takeEnd l cause
  | exposeEndFault => exact k.takeEndFault l
  | unitStatus ready stock unitLocal => exact k.takeStatus l ready stock unitLocal
  | pbArrival mark => exact k.takeArrival fitted mark
  | pbSetupDone => exact k.takeSetupDone l
  | pbDone => exact k.takeDone l
  | pbFault => exact k.takePunchFault fitted
  | soArrival => exact k.takeSorterArrival fitted
  | soStacked bin => exact k.takeStacked fitted bin
  | soBinEmptied bin => exact k.takeEmptied l bin
  | soFault p => exact k.faultLine fitted _ p

theorem Event.orderly (h : Event s t) : Orderly s t := by
  have k := Orderly.refl s
  cases h with
  | bandWritten w => exact (k.onStore _).beginHanding.writeHanded
  | readCompletes r => exact k.readCompletes r
  | beginTimeout l c exposure => exact k.timeoutBegin exposure
  | deadline l p e running => exact k.expire running _ _
  | message l fitted message => exact message.orderly fitted

/-! ### The commands of pages, plates and profiles -/

/-- A record of which the walk is owed nothing, or which is not in the ready list, takes other loaded fields. -/
theorem Orderly.reload (h : Orderly s t) (p : Slot) (r : PlateRecord) (absent : t.told = false → p ∉ t.ready) :
    Orderly s (t.setPlate p r) := by
  refine h.trans ⟨id, fun but hr => hr.mono id (fun _ _ => id) (fun untold q hq m => ?_) fun _ _ => id⟩
  have other : q ≠ p := fun same => absent untold (same ▸ hq)
  rw [State.eligible_iff_admits, State.eligible_iff_admits, State.plate_setPlate, if_neg other]
  exact id

theorem Orderly.loadFree (h : Orderly s t) (x : PlateLoad) (absent : p ∉ t.ready) : Orderly s (t.loadFree p x) :=
  ((h.reload p _ fun _ => absent).offerDemand _ _).evaluate p

theorem Orderly.replacePlate (h : Orderly s t) (p : Slot) (x : PlateLoad) : Orderly s (t.replacePlate p x) := by
  obtain ⟨ready, -, -⟩ := (t.leaveReady p).offerDemand_lists (t.plate p).demandKeys x.keys
  refine (((h.leaveReady p).offerDemand _ _).reload p _ fun _ standing => ?_).evaluate p
  rw [ready] at standing
  exact of_decide_eq_true (List.mem_filter.mp standing).2 rfl

/-- A record out of its list or queue is not in the ready list, or the Dispatcher has been told. -/
theorem State.takeOut_absent (s : State) (p : Slot) (ready : p ∈ s.ready → (s.plate p).state = .ready)
    (untold : (s.takeOut p).told = false) : p ∉ (s.takeOut p).ready := by
  by_cases state : (s.plate p).state = .ready
  · rw [State.takeOut_ready state]
    exact fun standing => of_decide_eq_true (List.mem_filter.mp standing).2 rfl
  · by_cases queued : (s.plate p).state = .queued ∧ (s.plate p).line.isSome = true
    · obtain ⟨queued, line⟩ := queued
      obtain ⟨m, line⟩ := Option.isSome_iff_exists.mp line
      obtain ⟨-, -, told, -⟩ := (s.leaveQueue m p).drainTest_leaves m
      rw [State.takeOut_queued queued line, told rfl] at untold
      cases untold
    · have kept : s.takeOut p = s := by
        unfold State.takeOut
        split
        · exact absurd ‹_› state
        · rename_i queued' line
          exact absurd ⟨queued', by rw [line]; rfl⟩ queued
        · rfl
      rw [kept]
      exact fun standing => state (ready standing)

theorem Orderly.takeOut (h : Orderly s t) (p : Slot) : Orderly s (t.takeOut p) := by
  unfold State.takeOut
  split
  · exact h.leaveReady p
  · exact (h.leaveQueue _ p).drainTest _
  · exact h

theorem Orderly.dropPlate (h : Orderly s t) (p : Slot) (ready : p ∈ t.ready → (t.plate p).state = .ready) :
    Orderly s (t.dropPlate p) := by
  obtain ⟨list, told, -⟩ := (t.takeOut p).offerDemand_lists (t.plate p).demandKeys []
  refine ((h.takeOut p).offerDemand _ _).reload p _ fun untold => ?_
  rw [list]
  exact t.takeOut_absent p ready (told.symm.trans untold)

/-- Every line changed in what neither its state nor the Dispatcher looks at. -/
theorem Orderly.loadProfile (h : Orderly s t) (f : ProfileId) (x : Profile) : Orderly s (t.loadProfile f x) := by
  have line : ∀ m, (t.line m).Quieter ((t.loadProfile f x).line m) := fun m => by
    simp only [State.line, State.loadProfile, Vector.getElem_map]
    split
    · exact .same
    · exact .refl _
  refine h.trans ⟨fun hc m => (line m).consistent (hc m), fun but hr =>
    hr.mono id (fun _ _ => id) (fun _ q _ m => ?_) fun m _ => (line m).starts⟩
  rw [State.eligible_iff_admits, State.eligible_iff_admits]
  exact And.imp_right ((line m).admits _)

/-! ### The line commands -/

/-- A line that is STOPPED takes no plates and does not start, whatever its configuration. -/
theorem Orderly.configure (h : Orderly s t) (stopped : (t.line l).mode = .stopped) (c : LineConfig)
    (capacity : BinId → Nat) : Orderly s (t.configure l c capacity) := by
  have configured : (t.line l).Quieter (({ t.line l with config := c } : Line).withCapacities capacity) :=
    ⟨id, id, fun n takes => by
      obtain ⟨-, mode, -⟩ := takes
      rw [Line.withCapacities, stopped] at mode
      cases mode⟩
  exact ((h.setLine l configured).reportAll _).routeWaiting l

theorem Orderly.lineStart (h : Orderly s t) (fitted : (t.line l).fitted = true) (faulted : (t.line l).mode ≠ .faulted) :
    Orderly s ((t.setMode l .running).startTest l) :=
  (h.setMode l .running fun hc _ => hc.setMode .running faulted (by decide) fitted nofun nofun).startTest l

theorem Orderly.linePause (h : Orderly s t) (running : (t.line l).mode = .running) :
    Orderly s (t.setMode l (if (t.line l).exposure = none then .paused else .pausing)) := by
  have fits : ∀ m : LineMode, m ≠ .faulted → m ≠ .stopped → (m = .paused ∨ m = .held → (t.line l).exposure = none) →
      Orderly s (t.setMode l m) := fun m notFaulted notStopped idle =>
    h.setMode l m fun hc _ => hc.setMode m (by rw [running]; decide) notFaulted
      (hc.fitted_of_mode (by rw [running]; decide)) (fun stopped => absurd stopped notStopped)
      fun free => idle (free.resolve_left notStopped)
  split
  · exact fits _ (by decide) (by decide) fun _ => ‹_›
  · exact fits _ (by decide) (by decide) nofun

theorem Orderly.lineDrain (h : Orderly s t) (mode : (t.line l).mode = .running ∨ (t.line l).mode = .pausing
    ∨ (t.line l).mode = .paused ∨ (t.line l).mode = .held) :
    Orderly s (((t.setMode l .draining).drainTest l).startTest l) := by
  have state : (t.line l).mode ≠ .faulted ∧ (t.line l).mode ≠ .stopped := by
    rcases mode with mode | mode | mode | mode <;> rw [mode] <;> decide
  have draining := h.setMode l .draining fun hc _ =>
    hc.setMode .draining state.1 (by decide) (hc.fitted_of_mode state.2) nofun nofun
  exact (draining.drainTest l).startTest l

/-- A line left STOPPED, with nothing on it but a reset-abort flag. -/
theorem Line.Consistent.stopped {ln : Line} (mode : ln.mode = .stopped) (cause : ln.faultCause = none)
    (queue : ln.queue = []) (exposure : ln.exposure = none) (transit : ln.transit = []) : ln.Consistent := by
  refine ⟨?_, fun _ => queue, fun _ => exposure, fun faulted => ?_, fun _ => ⟨mode, transit⟩⟩
  · rw [cause, mode]
    decide
  · cases mode.symm.trans faulted

theorem Orderly.resetLine (h : Orderly s t) (l : LineId) : Orderly s (t.resetLine l) := by
  refine h.trans (.told (fun hc m => ?_) (State.tell_told _))
  rw [State.resetLine_line]
  split
  · exact Line.Consistent.stopped rfl rfl rfl rfl rfl
  · exact hc m

theorem Orderly.clearFault (h : Orderly s t) (faulted : (t.line l).mode = .faulted) (idle : (t.line l).exposure = none)
    (c : Cause) : Orderly s ((t.clearTransit l c).stopLine l) := by
  refine h.trans (.told (fun hc m => ?_) (by rw [State.clearFault_eq faulted]))
  rw [State.stopLine_line, State.clearTransit_line, if_pos rfl]
  split
  · obtain ⟨-, empty, -, -, -⟩ := hc l
    exact Line.Consistent.stopped rfl rfl (empty (.inr faulted)) idle rfl
  · rename_i other
    rw [State.clearTransit_line, if_neg other]
    exact hc m

/-! ### Every control command -/

/-- Every effect is `Orderly`, but for a load of a FREE record and a drop: those change the loaded fields of a record that is
not in the ready list where the ready list holds the READY records. -/
theorem Does.orderly_or (h : Does s t) : Orderly s t ∨ (∃ p x, (s.plate p).state = .free ∧ t = s.loadFree p x)
    ∨ ∃ p, t = s.dropPlate p := by
  have k := Orderly.refl s
  cases h with
  | loadFree p x free => exact .inr (.inl ⟨p, x, free, rfl⟩)
  | dropPlate p => exact .inr (.inr ⟨p, rfl⟩)
  | releasePage j => exact .inl (k.directory (s.releasePage_only j))
  | discardPage j => exact .inl (k.discardPage j)
  | replacePlate p x => exact .inl (k.replacePlate p x)
  | remakeDelivered p => exact .inl ((k.offerDemand _ _).remake p)
  | remake p => exact .inl (k.remake p)
  | lineConfig l c capacity stopped => exact .inl (k.configure stopped c capacity)
  | lineStart l fitted faulted _ => exact .inl (k.lineStart fitted faulted)
  | linePause l running => exact .inl (k.linePause running)
  | lineDrain l mode => exact .inl (k.lineDrain mode)
  | lineReset l => exact .inl (k.resetLine l)
  | lineClearFault l faulted idle => exact .inl (k.clearFault faulted idle _)
  | loadProfile f x => exact .inl (k.loadProfile f x)
  | binOpen l b => exact .inl (Orderly.routeWaiting (k.setLine l .same) l)
  | binClose l b => exact .inl (k.setLine l .same)

theorem Does.lines (h : Does s t) (lines : s.LinesConsistent) : t.LinesConsistent := by
  obtain k | ⟨p, x, -, rfl⟩ | ⟨p, rfl⟩ := h.orderly_or
  · exact k.lines lines
  · have loaded : (s.setPlate p ((s.plate p).loaded x)).LinesConsistent := lines
    exact (((Orderly.refl _).offerDemand [] x.keys).evaluate p).lines loaded
  · exact (((Orderly.refl s).takeOut p).offerDemand (s.plate p).demandKeys []).lines lines

theorem Does.rests (h : Does s t) (ready : ∀ p ∈ s.ready, (s.plate p).state = .ready) {but : LineId → Prop}
    (rests : s.Rests but) : t.Rests but := by
  obtain k | ⟨p, x, free, rfl⟩ | ⟨p, rfl⟩ := h.orderly_or
  · exact k.rests but rests
  · exact ((Orderly.refl s).loadFree x fun standing => by cases free.symm.trans (ready p standing)).rests but rests
  · exact ((Orderly.refl s).dropPlate p (ready p)).rests but rests

end

end Sys2Proof.Machine
end

section
/-! SUPPORT. Every step keeps the agreement of line states and contents (O57), and leaves the engine settled (O3). -/

namespace Sys2Proof.Machine

set_option Elab.async false

section
variable {s t : State}

/-- What `Orderly` changes and the effects of commands keep, and the resets bring about, the execution of a command keeps. -/
theorem Executes.keeps {P : State → Prop} (h : Executes s t) (orderly : ∀ {u v : State}, P u → Orderly u v → P v)
    (does : ∀ {v : State}, Does s.dropControl v → P v)
    (power : P ({ s.resetBlocks with powerCycle := s.powerCycle + 1 } : State)) (reset : P s.engineReset) (hs : P s) :
    P t := by
  have finish : ∀ {u : State}, P u → P u.finish := fun hu => orderly hu (Orderly.refl _).finish
  have link : ∀ {u v : State}, P u → LinkOnly u v → P v := fun hu k => orderly hu k.orderly
  cases h with
  | idle => exact hs
  | linkDown k => exact link hs k
  | received bytes =>
    exact State.receive_keeps link (fun body hu => orderly hu ((Orderly.refl _).bandArrives body)) finish hs bytes
  | answered k => exact finish (link hs k)
  | event k => exact finish (orderly hs k.orderly)
  | carried k k' => exact finish (link (orderly (does k) (Orderly.refl _).wakeIntake.settle) k')
  | powerOn => exact finish power
  | engineReset => exact finish reset

/-- A step is idle, or executes the command at the front of the queue. -/
theorem step_executes (h : step s = .next t) : t = s ∨ ∃ rest, Executes { s with pending := rest } t := by
  unfold step at h
  split at h
  · exact .inl (Host.Outcome.next.inj h).symm
  · exact .inr ⟨_, exec_executes _ h⟩

/-! ### The resets (R14) -/

theorem State.resetBlocks_line (s : State) (l : LineId) : s.resetBlocks.line l = { fitted := (s.line l).fitted } := by
  simp only [State.line, State.resetBlocks, Vector.getElem_map]

theorem State.engineReset_line (s : State) (l : LineId) :
    s.engineReset.line l = { fitted := (s.line l).fitted, resetAbort := (s.line l).exposure.isSome } := by
  simp only [State.line, State.engineReset, Vector.getElem_map]

end

/-- Settles O57. -/
theorem linesStayConsistent : Obligations.LinesStayConsistent := by
  intro s t lines stepped
  obtain rfl | ⟨rest, executes⟩ := step_executes stepped
  · exact lines
  · refine executes.keeps (fun hu k => k.lines hu) (fun does => does.lines lines) (fun l => ?_) (fun l => ?_) lines
    · refine (State.resetBlocks_line _ l).symm ▸ ?_
      exact Line.Consistent.stopped rfl rfl rfl rfl rfl
    · rw [State.engineReset_line]
      exact Line.Consistent.stopped rfl rfl rfl rfl rfl

section
variable {s t : State}

/-- With an empty ready list and every line STOPPED there is nothing to place and nothing to start. -/
theorem State.rests_of_stopped {but : LineId → Prop} (ready : s.ready = []) (stopped : ∀ l, (s.line l).mode = .stopped) :
    s.Rests but := by
  refine fun _ => ⟨fun p hp => ?_, fun l _ => ?_⟩
  · rw [ready] at hp
    cases hp
  · rw [Line.startReady, stopped l]
    rfl

/-- Between two commands every record that could be placed has been, and every line that could start has started. -/
theorem State.settled_iff : s.Settled ↔ s.Quiet ∧ s.Rests fun _ => False := by
  refine ⟨fun ⟨quiet, placed, started⟩ => ⟨quiet, fun _ => ⟨placed, fun l _ => started l⟩⟩, fun ⟨quiet, rests⟩ => ?_⟩
  obtain ⟨placed, started⟩ := rests quiet.1
  exact ⟨quiet, placed, fun l => started l id⟩

theorem step_settled (placed : s.Placed) (settled : s.Settled) (stepped : step s = .next t) : t.Settled := by
  obtain ⟨quiet, rests⟩ := State.settled_iff.mp settled
  obtain ⟨-, -, -, -, quiets⟩ := capacitiesAreKept s t stepped
  refine State.settled_iff.mpr ⟨quiets quiet, ?_⟩
  obtain rfl | ⟨rest, executes⟩ := step_executes stepped
  · exact rests
  · refine executes.keeps (P := State.Rests fun _ => False) (fun hu k => k.rests _ hu)
      (fun does => does.rests (fun p => (placed.ready p).mp) rests) ?_ ?_ rests
    · exact State.rests_of_stopped rfl fun l => by
        refine (State.resetBlocks_line _ l).symm ▸ ?_
        rfl
    · exact State.rests_of_stopped rfl fun l => by rw [State.engineReset_line]

/-- A line that has changed in its queue, its exposure, its Composer and its feed buffer alone. -/
theorem Line.eq_of_standing {a b : Line} (h : a.standing = b.standing) :
    a = { b with queue := a.queue, exposure := a.exposure, composer := a.composer, feed := a.feed } := by
  cases a
  cases b
  simpa only [Line.standing, Line.mk.injEq, true_and, and_true] using h

end

/-- Settles O3: a step keeps the Dispatcher's rest, a walk that was called for brings it about, and the walk, the starts, the
grant and the transmitter have the frame that is claimed. -/
theorem commandsEndSettled : Obligations.CommandsEndSettled := by
  refine ⟨⟨fun s t placed settled stepped => step_settled placed settled stepped,
    fun s => ⟨s.quiet_finish, fun told => State.finish_atRest told⟩⟩, fun s => ?_⟩
  obtain ⟨pages, profiles, intake, mem, free, pending, powerCycle, resetDraws⟩ := s.finish_samePages
  obtain ⟨desc, plate, line⟩ := s.finish_dispatched
  exact ⟨pages, profiles, intake, mem, free, desc, plate, fun l => Line.eq_of_standing (line l), s.finish_link, pending,
    powerCycle, resetDraws⟩

end Sys2Proof.Machine
end

section
/-! SUPPORT. The scaled width of a tile (R118) and the columns it samples (R119). The tile columns that take a source
column before the j-th of the window are the first `columnsBefore j` of them; so the j-th is used as often as this figure
grows from j to j + 1, and the figure runs from 0 to the scaled width. -/

namespace Sys2Proof.Machine

set_option Elab.async false

section
variable {g : TileGeometry} {cw : Nat} {scale : Int}

/-! ### The scaled width (R118) -/

theorem fanOut_floor (cw : Nat) (scale : Int) : fanOut cw scale * 1000000 ≤ (cw : Int) * scale + 500000
    ∧ (cw : Int) * scale + 500000 < (fanOut cw scale + 1) * 1000000 := by
  unfold fanOut
  omega

theorem width_mul_scale_bounds (cw : Nat) (lower : -3000 ≤ scale) (upper : scale ≤ 3000) :
    -3000 * (cw : Int) ≤ cw * scale ∧ (cw : Int) * scale ≤ 3000 * cw := by
  constructor <;> nlinarith

/-- For a width that is a page's, the fan-out moves at most 74 columns, and none of a window of up to 166. -/
theorem fanOut_bounds (wide : cw ≤ 24576) (lower : -3000 ≤ scale) (upper : scale ≤ 3000) :
    -74 ≤ fanOut cw scale ∧ fanOut cw scale ≤ 74 ∧ (cw ≤ 166 → fanOut cw scale = 0) := by
  obtain ⟨floor, ceiling⟩ := fanOut_floor cw scale
  obtain ⟨least, most⟩ := width_mul_scale_bounds cw lower upper
  omega

theorem scaledWidth_cast (wide : cw ≤ 24576) (lower : -3000 ≤ scale) (upper : scale ≤ 3000) :
    (scaledWidth cw scale : Int) = cw + fanOut cw scale := by
  obtain ⟨least, -, none⟩ := fanOut_bounds wide lower upper
  unfold scaledWidth
  omega

theorem scaledWidth_pos (thin : 1 ≤ cw) (wide : cw ≤ 24576) (lower : -3000 ≤ scale) (upper : scale ≤ 3000) :
    1 ≤ scaledWidth cw scale := by
  obtain ⟨least, -, none⟩ := fanOut_bounds wide lower upper
  have cast := scaledWidth_cast wide lower upper
  omega

/-! ### The tile columns before a source column (R119) -/

/-- How many tile columns take a source column before the j-th of the window. -/
def TileGeometry.columnsBefore (g : TileGeometry) (j : Nat) : Nat := (2 * g.ws * j + (g.cw - 1)) / (2 * g.cw)

/-- How many tile columns take the j-th source column of the window. -/
def TileGeometry.uses (g : TileGeometry) (j : Nat) : Nat :=
  (List.range g.ws).countP fun u => decide (g.column u = g.cx + j)

theorem TileGeometry.column_lt_iff (hcw : 1 ≤ g.cw) (hws : 1 ≤ g.ws) (u j : Nat) :
    g.column u < g.cx + j ↔ u < g.columnsBefore j := by
  have sampled : g.column u < g.cx + j ↔ (2 * u + 1) * g.cw < j * (2 * g.ws) := by
    rw [← Nat.div_lt_iff_lt_mul (by omega)]
    exact Nat.add_lt_add_iff_left
  have counted : u < g.columnsBefore j ↔ (u + 1) * (2 * g.cw) ≤ 2 * g.ws * j + (g.cw - 1) :=
    Nat.le_div_iff_mul_le (by omega)
  have left : (2 * u + 1) * g.cw = 2 * (u * g.cw) + g.cw := by ring
  have right : (u + 1) * (2 * g.cw) = 2 * (u * g.cw) + 2 * g.cw := by ring
  have product : j * (2 * g.ws) = 2 * g.ws * j := Nat.mul_comm _ _
  rw [sampled, counted]
  omega

theorem TileGeometry.column_eq_iff (hcw : 1 ≤ g.cw) (hws : 1 ≤ g.ws) (u j : Nat) :
    g.column u = g.cx + j ↔ g.columnsBefore j ≤ u ∧ u < g.columnsBefore (j + 1) := by
  rw [← g.column_lt_iff hcw hws, ← Nat.not_lt, ← g.column_lt_iff hcw hws]
  omega

theorem TileGeometry.columnsBefore_zero (hcw : 1 ≤ g.cw) : g.columnsBefore 0 = 0 :=
  Nat.div_eq_of_lt (by omega)

theorem TileGeometry.columnsBefore_width (hcw : 1 ≤ g.cw) : g.columnsBefore g.cw = g.ws := by
  have whole : 2 * g.ws * g.cw + (g.cw - 1) = g.cw - 1 + g.ws * (2 * g.cw) := by ring
  rw [columnsBefore, whole, Nat.add_mul_div_right _ _ (by omega), Nat.div_eq_of_lt (by omega), Nat.zero_add]

/-- With a scaled width from m to n times the window's, a source column is used m to n times. -/
theorem TileGeometry.columnsBefore_succ {m n : Nat} (hcw : 1 ≤ g.cw) (least : m * g.cw ≤ g.ws) (most : g.ws ≤ n * g.cw)
    (j : Nat) : g.columnsBefore j + m ≤ g.columnsBefore (j + 1) ∧ g.columnsBefore (j + 1) ≤ g.columnsBefore j + n := by
  have grown : g.columnsBefore (j + 1) = (2 * g.ws * j + (g.cw - 1) + 2 * g.ws) / (2 * g.cw) := by
    rw [columnsBefore, Nat.mul_succ, Nat.add_right_comm]
  have shifted (k : Nat) : g.columnsBefore j + k = (2 * g.ws * j + (g.cw - 1) + k * (2 * g.cw)) / (2 * g.cw) :=
    (Nat.add_mul_div_right _ _ (by omega)).symm
  rw [grown, shifted, shifted]
  exact ⟨Nat.div_le_div_right (by linarith), Nat.div_le_div_right (by linarith)⟩

theorem TileGeometry.columnsBefore_mono {i j : Nat} (h : i ≤ j) : g.columnsBefore i ≤ g.columnsBefore j :=
  Nat.div_le_div_right (Nat.add_le_add_right (Nat.mul_le_mul_left _ h) _)

/-! ### How often a source column is used (R119) -/

/-- The numbers of a range that lie from a to before b. -/
theorem countP_range_between (a b n : Nat) :
    (List.range n).countP (fun u => decide (a ≤ u ∧ u < b)) = min n b - min n a := by
  induction n with
  | zero => simp
  | succ n ih =>
    simp only [List.range_succ, List.countP_append, ih, List.countP_singleton, decide_eq_true_eq]
    split <;> omega

theorem TileGeometry.columnsBefore_add_uses (hcw : 1 ≤ g.cw) (hws : 1 ≤ g.ws) {j : Nat} (hj : j < g.cw) :
    g.columnsBefore j + g.uses j = g.columnsBefore (j + 1) := by
  have grows : g.columnsBefore j ≤ g.columnsBefore (j + 1) := columnsBefore_mono (Nat.le_succ j)
  have fits : g.columnsBefore (j + 1) ≤ g.ws := g.columnsBefore_width hcw ▸ columnsBefore_mono hj
  simp only [uses, g.column_eq_iff hcw hws, countP_range_between]
  omega

/-- A sum of n terms that are m or m + 1 each, by how many of them are the one and the other. -/
theorem countP_of_two_values {total term : Nat → Nat} {m n : Nat} (start : total 0 = 0)
    (sum : ∀ j < n, total j + term j = total (j + 1)) (two : ∀ j < n, term j = m ∨ term j = m + 1) :
    (List.range n).countP (fun j => decide (term j = m + 1)) + m * n = total n
    ∧ (List.range n).countP (fun j => decide (term j = m)) + total n = (m + 1) * n := by
  induction n with
  | zero => simp [start]
  | succ n ih =>
    obtain ⟨more, less⟩ := ih (fun j hj => sum j (by omega)) (fun j hj => two j (by omega))
    have last := sum n (Nat.lt_succ_self n)
    simp only [List.range_succ, List.countP_append, List.countP_singleton, decide_eq_true_eq, Nat.mul_succ] at less more ⊢
    have expanded : (m + 1) * n = m * n + n := Nat.succ_mul m n
    obtain h | h := two n (Nat.lt_succ_self n)
    · rw [if_neg (by omega), if_pos h]
      omega
    · rw [if_pos h, if_neg (by omega)]
      omega

/-- A scaled width from m to m + 1 times the window's: each source column is used m or m + 1 times, and how many are used
m + 1 times and how many m times. -/
theorem TileGeometry.uses_of_scaled {m : Nat} (hcw : 1 ≤ g.cw) (hws : 1 ≤ g.ws) (least : m * g.cw ≤ g.ws)
    (most : g.ws ≤ (m + 1) * g.cw) : (∀ j < g.cw, g.uses j = m ∨ g.uses j = m + 1)
    ∧ (List.range g.cw).countP (fun j => decide (g.uses j = m + 1)) + m * g.cw = g.ws
    ∧ (List.range g.cw).countP (fun j => decide (g.uses j = m)) + g.ws = (m + 1) * g.cw := by
  have sum (j : Nat) (hj : j < g.cw) := g.columnsBefore_add_uses hcw hws hj
  have two (j : Nat) (hj : j < g.cw) : g.uses j = m ∨ g.uses j = m + 1 := by
    have step := g.columnsBefore_succ hcw least most j
    have := sum j hj
    omega
  have counts := countP_of_two_values (g.columnsBefore_zero hcw) sum two
  rw [g.columnsBefore_width hcw] at counts
  exact ⟨two, counts⟩

/-! ### The column map (R119) -/

theorem TileGeometry.column_lt (hcw : 1 ≤ g.cw) {u : Nat} (hu : u < g.ws) : g.column u < g.cx + g.cw := by
  rw [g.column_lt_iff hcw (by omega), g.columnsBefore_width hcw]
  exact hu

theorem TileGeometry.column_mono {u v : Nat} (h : u ≤ v) : g.column u ≤ g.column v := by
  unfold column
  gcongr

theorem TileGeometry.column_unscaled (hcw : 1 ≤ g.cw) (h : g.ws = g.cw) (u : Nat) : g.column u = g.cx + u := by
  rw [column, h, Nat.mul_div_mul_right _ _ hcw]
  omega

end

/-- Settles O44: the fan-out by the bounds of its product, the columns by how often each is used. -/
theorem columnsAreScaledAndSampled : Obligations.ColumnsAreScaledAndSampled := by
  refine ⟨fun cw scale thin wide lower upper => ?_, fun g scale thin wide lower upper hws => ?_⟩
  · obtain ⟨least, most, none⟩ := fanOut_bounds wide lower upper
    exact ⟨fanOut_floor cw scale, scaledWidth_cast wide lower upper, least, most, none,
      scaledWidth_pos thin wide lower upper⟩
  · obtain ⟨least, most, none⟩ := fanOut_bounds wide lower upper
    have width : (g.ws : Int) = g.cw + fanOut g.cw scale := hws ▸ scaledWidth_cast wide lower upper
    have pos : 1 ≤ g.ws := hws ▸ scaledWidth_pos thin wide lower upper
    refine ⟨fun u hu => ⟨rfl, Nat.le_add_right _ _, g.column_lt thin hu, ?_, fun _ => rfl⟩,
      fun u v h _ => TileGeometry.column_mono h, fun unscaled u _ => g.column_unscaled thin (by omega) u,
      fun widened => ?_, fun narrowed => ?_⟩
    · exact Nat.mul_le_mul (show 2 * u + 1 ≤ 49299 by omega) wide
    · obtain ⟨two, twice, -⟩ := g.uses_of_scaled (m := 1) thin pos (by omega) (by omega)
      refine ⟨two, ?_⟩
      change (((List.range g.cw).countP fun j => decide (g.uses j = 1 + 1) : Nat) : Int) = _
      omega
    · obtain ⟨two, -, unused⟩ := g.uses_of_scaled (m := 0) thin pos (by omega) (by omega)
      refine ⟨two, ?_⟩
      change (((List.range g.cw).countP fun j => decide (g.uses j = 0) : Nat) : Int) = _
      omega

end Sys2Proof.Machine
end

section
/-! SUPPORT. The clamped window of a tile (R116), its rectangle on the plate (R117, R121), and the pixels of it that lie on the
plate (R120, R121). -/

namespace Sys2Proof.Machine

set_option Elab.async false

section
variable {t : Tile} {g : TileGeometry} {pw ph wr hr : Nat} {dx dy : Int}

/-! ### The clamped window (R116) -/

theorem Tile.window_of_absent (h : t.clip = none) : t.window wr hr = { cx := 0, cy := 0, cw := wr, ch := hr } := by
  rw [Tile.window, h]
  rfl

theorem Tile.window_pos (hwr : 1 ≤ wr) (hhr : 1 ≤ hr) (loaded : ∀ c, t.clip = some c → 1 ≤ c.cw ∧ 1 ≤ c.ch) :
    1 ≤ (t.window wr hr).cw ∧ 1 ≤ (t.window wr hr).ch := by
  cases h : t.clip with
  | none =>
    rw [t.window_of_absent h]
    exact ⟨hwr, hhr⟩
  | some c =>
    rw [Tile.window, h]
    exact loaded c h

theorem Tile.setupOn_eq_none_iff :
    t.setupOn pw ph wr hr dx dy = none ↔ wr ≤ (t.window wr hr).cx ∨ hr ≤ (t.window wr hr).cy := by
  rw [Tile.setupOn, ite_eq_left_iff, ← Clip.off_iff]
  simp

theorem Tile.setupOn_eq_some_iff : t.setupOn pw ph wr hr dx dy = some g ↔
    (¬ (wr ≤ (t.window wr hr).cx ∨ hr ≤ (t.window wr hr).cy)) ∧ t.geometryOn pw ph wr hr dx dy = g := by
  rw [Tile.setupOn, ← Clip.off_iff]
  split <;> simp [*]

/-- An extent of a window, clamped at the raster's edge, when the window begins on the raster. -/
theorem clamped_extent {start loaded size : Nat} (pos : 1 ≤ loaded) (on : start < size) :
    1 ≤ min loaded (size - start) ∧ start + min loaded (size - start) ≤ size ∧ min loaded (size - start) ≤ loaded
    ∧ (min loaded (size - start) = loaded ∨ start + min loaded (size - start) = size) := by
  omega

theorem Clip.width_clamped {c : Clip} (pos : 1 ≤ c.cw) (on : c.cx < wr) : 1 ≤ c.width wr ∧ c.cx + c.width wr ≤ wr
    ∧ c.width wr ≤ c.cw ∧ (c.width wr = c.cw ∨ c.cx + c.width wr = wr) := clamped_extent pos on

theorem Clip.height_clamped {c : Clip} (pos : 1 ≤ c.ch) (on : c.cy < hr) : 1 ≤ c.height hr ∧ c.cy + c.height hr ≤ hr
    ∧ c.height hr ≤ c.ch ∧ (c.height hr = c.ch ∨ c.cy + c.height hr = hr) := clamped_extent pos on

theorem Tile.geometryOn_window (t : Tile) (pw ph wr hr : Nat) (dx dy : Int) :
    (t.geometryOn pw ph wr hr dx dy).cx = (t.window wr hr).cx ∧ (t.geometryOn pw ph wr hr dx dy).cy = (t.window wr hr).cy
    ∧ (t.geometryOn pw ph wr hr dx dy).cw = (t.window wr hr).width wr := by
  unfold Tile.geometryOn
  cases t.turn <;> exact ⟨rfl, rfl, rfl⟩

/-! ### What is visible (R120, R121) -/

theorem TileGeometry.offPlate_eq_false_iff :
    g.offPlate pw ph = false ↔ 0 ≤ g.x ∧ g.x + g.ws ≤ pw ∧ 0 ≤ g.y ∧ g.y + g.ch ≤ ph := by
  rw [← Bool.not_eq_true, TileGeometry.offPlate_iff]
  omega

/-- A plate column lies on the plate exactly when the tile column that lands on it is visible, upright or inverted. -/
theorem Tile.column_visible_iff {x u : Int} (first : 0 ≤ u) (last : u < (t.geometryOn pw ph wr hr dx dy).ws)
    (lands : u = (t.geometryOn pw ph wr hr dx dy).tileColumn x) : 0 ≤ x ∧ x < pw ↔
      (t.geometryOn pw ph wr hr dx dy).u0 ≤ u ∧ u ≤ (t.geometryOn pw ph wr hr dx dy).u1 := by
  unfold Tile.geometryOn TileGeometry.tileColumn at *
  cases h : t.turn <;> simp only [h] at * <;> omega

theorem Tile.row_visible_iff {y v : Int} (first : 0 ≤ v) (last : v < (t.geometryOn pw ph wr hr dx dy).ch)
    (lands : v = (t.geometryOn pw ph wr hr dx dy).tileRow y) : 0 ≤ y ∧ y < ph ↔
      (t.geometryOn pw ph wr hr dx dy).v0 ≤ v ∧ v ≤ (t.geometryOn pw ph wr hr dx dy).v1 := by
  unfold Tile.geometryOn TileGeometry.tileRow at *
  cases h : t.turn <;> simp only [h] at * <;> omega

end

/-- Settles O45: width and height are clamped alike, and the visible ranges are those of the turn. -/
theorem tilesAreClipped : Obligations.TilesAreClipped := by
  intro t pw ph wr hr dx dy hwr hhr loaded
  refine ⟨t.setupOn_eq_none_iff, fun absent => ⟨t.window_of_absent absent, ?_⟩, fun g found => ?_⟩
  · rw [t.window_of_absent absent]
    simp [Clip.reduced, Clip.width, Clip.height]
  · obtain ⟨on, rfl⟩ := Tile.setupOn_eq_some_iff.mp found
    obtain ⟨onColumns, onRows⟩ := not_or.mp on
    obtain ⟨wide, high⟩ := t.window_pos hwr hhr loaded
    obtain ⟨cx, cy, cw⟩ := t.geometryOn_window pw ph wr hr dx dy
    obtain ⟨x, y, ws, ch⟩ := t.geometryOn_rectangle pw ph wr hr dx dy
    obtain ⟨widthPos, widthOn, widthLoaded, widthFull⟩ := Clip.width_clamped wide (Nat.lt_of_not_le onColumns)
    obtain ⟨heightPos, heightOn, heightLoaded, heightFull⟩ := Clip.height_clamped high (Nat.lt_of_not_le onRows)
    refine ⟨cx, cy, x, y, cw ▸ ws, cw ▸ widthPos, ?_, cw ▸ widthLoaded, ?_, ch ▸ heightPos, ?_, ch ▸ heightLoaded, ?_,
      ?_,
      TileGeometry.offPlate_eq_false_iff, fun _ _ first last lands => t.column_visible_iff first last lands,
      fun _ _ first last lands => t.row_visible_iff first last lands⟩
    · rwa [cx, cw]
    · rwa [cx, cw]
    · rwa [cy, ch]
    · rwa [cy, ch]
    · rw [cw, ch]
      exact decide_eq_true_iff

end Sys2Proof.Machine
end

section
/-! SUPPORT. The plate mark (R123 to R125) and the scan line, pixel by pixel (R127, R128). -/

namespace Sys2Proof.Machine

set_option Elab.async false

section
variable {c : Composer} {k : MarkSetup} {pw x y : Nat}

/-! ### The mark value (R123) -/

theorem markValue_fields (p : Slot) (pass : Nat) : markValue p pass ≤ 65535
    ∧ markValue p pass / 128 = p.val ∧ markValue p pass % 128 = pass % 128 := by
  have := p.isLt
  unfold markValue
  omega

/-! ### The mark's cells (R124) -/

theorem markCell_first (m : Nat) : markCell m 0 = true := rfl

theorem markCell_bit (m : Nat) {j : Nat} (first : 1 ≤ j) (last : j ≤ 16) : markCell m j = m.testBit (16 - j) := by
  rw [markCell, decide_eq_false (by omega), decide_eq_true ⟨first, last⟩, Bool.false_or, Bool.true_and]

theorem markCell_last (m : Nat) : markCell m 17 = false := rfl

theorem MarkSetup.covers_iff : k.covers x y = true ↔
    k.present = true ∧ k.mx ≤ x ∧ x < k.mx + 288 ∧ k.my ≤ y ∧ y < k.my + 64 := by
  rw [MarkSetup.covers, Bool.and_eq_true, decide_eq_true_iff]

theorem Composer.pixel_of_mark (mark : c.mark = some k) (covered : k.covers x y = true) :
    c.pixel pw y x = markCell k.value ((x - k.mx) / 16) := by
  rw [Composer.pixel, mark]
  exact if_pos covered

/-! ### Pixels beside the mark (R127, R128) -/

theorem Composer.pixel_beside_mark (beside : ∀ k, c.mark = some k → k.covers x y = false) :
    c.pixel pw y x = (decide (x < pw) && (List.zip (c.covering y) c.gathered).any fun q => q.1.2.pixel q.2 x) := by
  unfold Composer.pixel
  split
  next k mark => exact if_neg (by simp [beside k mark])
  next => rfl

/-- No mark reaches past the plate's edge, so the pad bits are 0. -/
theorem Composer.pixel_pad (pad : pw ≤ x) (fits : ∀ k, c.mark = some k → k.present = true → k.mx + 288 ≤ pw) :
    c.pixel pw y x = false := by
  have beside (k : MarkSetup) (mark : c.mark = some k) : k.covers x y = false := by
    rw [← Bool.not_eq_true, MarkSetup.covers_iff]
    rintro ⟨present, -, inside, -⟩
    have := fits k mark present
    omega
  rw [Composer.pixel_beside_mark beside, decide_eq_false (by omega), Bool.false_and]

theorem TileGeometry.pixel_iff {g : TileGeometry} {bytes : List Byte} : g.pixel bytes x = true ↔
    g.u0 ≤ g.tileColumn x ∧ g.tileColumn x ≤ g.u1
    ∧ (bytes.getD (g.column (g.tileColumn x).toNat / 8 - g.column g.u0.toNat / 8) 0).getMsbD
        (g.column (g.tileColumn x).toNat % 8) = true := by
  rw [TileGeometry.pixel, Bool.and_eq_true, decide_eq_true_iff, and_assoc]
  rfl

theorem Composer.pixel_iff (inside : x < pw) (beside : ∀ k, c.mark = some k → k.covers x y = false) :
    c.pixel pw y x = true ↔ ∃ (i : Nat) (d : DescId) (g : TileGeometry) (bytes : List Byte),
      (c.covering y)[i]? = some (d, g) ∧ c.gathered[i]? = some bytes ∧ g.pixel bytes x = true := by
  rw [Composer.pixel_beside_mark beside, decide_eq_true inside, Bool.true_and, List.any_eq_true]
  constructor
  · rintro ⟨⟨⟨d, g⟩, bytes⟩, member, ink⟩
    obtain ⟨i, at_i⟩ := List.mem_iff_getElem?.mp member
    obtain ⟨tile, read⟩ := List.getElem?_zip_eq_some.mp at_i
    exact ⟨i, d, g, bytes, tile, read, ink⟩
  · rintro ⟨i, d, g, bytes, tile, read, ink⟩
    exact ⟨((d, g), bytes), List.mem_iff_getElem?.mpr ⟨i, List.getElem?_zip_eq_some.mpr ⟨tile, read⟩⟩, ink⟩

/-! ### Eight pixels to a byte (R127) -/

/-- Bits packed most significant first: the j-th of n is bit n - 1 - j of the number. -/
theorem testBit_packed (bit : Nat → Bool) (n j : Nat) (hj : j < n) :
    ((List.range n).foldl (fun acc j => 2 * acc + (bit j).toNat) 0).testBit (n - 1 - j) = bit j := by
  induction n with
  | zero => omega
  | succ n ih =>
    rw [List.range_succ, List.foldl_append, List.foldl_cons, List.foldl_nil, ← Nat.bit_val]
    obtain rfl | below := Nat.eq_or_lt_of_le (Nat.lt_succ_iff.mp hj)
    · rw [Nat.add_sub_cancel, Nat.sub_self, Nat.testBit_bit_zero]
    · rw [show n + 1 - 1 - j = n - 1 - j + 1 by omega, Nat.testBit_bit_succ, ih below]

theorem packByte_pixel (pixel : Nat → Bool) (i : Nat) {j : Nat} (hj : j < 8) :
    (packByte pixel i).getMsbD j = pixel (8 * i + j) := by
  rw [packByte, BitVec.getMsbD, decide_eq_true hj, Bool.true_and, BitVec.getLsbD_ofNat, decide_eq_true (by omega),
    Bool.true_and, testBit_packed (fun j => pixel (8 * i + j)) 8 j hj]

theorem Composer.scanLine_length (c : Composer) (pw : Nat) : (c.scanLine pw).length = rowBytes pw := by
  rw [Composer.scanLine, List.length_map, List.length_range]

theorem Composer.scanLine_pixel (hx : x < 8 * rowBytes pw) :
    ((c.scanLine pw).getD (x / 8) 0).getMsbD (x % 8) = c.pixel pw c.row x := by
  have byte : (c.scanLine pw).getD (x / 8) 0 = packByte (c.pixel pw c.row) (x / 8) := by
    rw [List.getD_eq_getElem _ _ (by rw [c.scanLine_length]; omega)]
    simp only [Composer.scanLine, List.getElem_map, List.getElem_range]
  rw [byte, packByte_pixel _ _ (Nat.mod_lt _ (by omega)), Nat.div_add_mod]

end

/-- Settles O46: the mark by its cells, and a scan line by the bytes its pixels are packed in. -/
theorem marksAndScanLinesAreComposed : Obligations.MarksAndScanLinesAreComposed := by
  refine ⟨⟨fun p pass => ⟨rfl, markValue_fields p pass⟩, fun pw ph mx my => decide_eq_true_iff,
    fun c k pw x y mark present left right top bottom => ?_⟩,
    fun c pw => ⟨c.scanLine_length pw, fun x hx => Composer.scanLine_pixel hx, fun x pad fits => Composer.pixel_pad pad fits,
      fun x inside beside => ?_⟩⟩
  · rw [Composer.pixel_of_mark mark (MarkSetup.covers_iff.mpr ⟨present, left, right, top, bottom⟩)]
    refine ⟨fun first => ?_, fun j low high start stop => ?_, fun last => ?_⟩
    · rw [show (x - k.mx) / 16 = 0 by omega, markCell_first]
    · rw [show (x - k.mx) / 16 = j by omega, markCell_bit _ low high]
    · rw [show (x - k.mx) / 16 = 17 by omega, markCell_last]
  · simp only [Composer.pixel_iff inside beside, TileGeometry.pixel_iff]

end Sys2Proof.Machine
end

section
/-! SUPPORT. The Composer (R126, R127, R130): the step it takes, one equation for each, and where it stops. -/

namespace Sys2Proof.Machine

set_option Elab.async false

section
variable {s : State} {l : LineId} {c : Exposure} {n : Nat}

/-! ### The tiles that cover a plate row (R121, R126) -/

/-- An active tile that covers a plate row, with its descriptor. -/
def TileSetup.covering (y : Nat) : TileSetup → Option (DescId × TileGeometry)
  | .empty _ => none
  | .active d g => if g.covers y then some (d, g) else none

theorem Composer.covering_eq (m : Composer) (y : Nat) : m.covering y = m.tiles.filterMap (TileSetup.covering y) := rfl

/-- A test for the tiles that cover a plate row. -/
def TestsCover (y : Nat) (test : TileSetup → Bool) : Prop :=
  (∀ d, test (.empty d) = false) ∧ ∀ d g, test (.active d g) = g.covers y

theorem TestsCover.isSome {y : Nat} {test : TileSetup → Bool} (h : TestsCover y test) :
    test = fun t => (t.covering y).isSome := by
  obtain ⟨empty, active⟩ := h
  funext t
  cases t with
  | empty d => exact empty d
  | active d g =>
    rw [active, TileSetup.covering]
    split
    next covers => exact covers
    next misses => exact Bool.not_eq_true _ ▸ misses

theorem TestsCover.length {y : Nat} {test : TileSetup → Bool} (h : TestsCover y test) (tiles : List TileSetup) :
    (tiles.filterMap (TileSetup.covering y)).length = tiles.countP test := by
  rw [h.isSome, List.length_filterMap_eq_countP]

theorem Composer.next_covering {m : Composer} {test : TileSetup → Bool} (h : TestsCover m.row test)
    {older newer : List TileSetup} {d : DescId} {g : TileGeometry} (tiles : m.tiles = older ++ .active d g :: newer)
    (covers : test (.active d g) = true) (gathered : older.countP test = m.gathered.length) :
    (m.covering m.row).drop m.gathered.length = (d, g) :: newer.filterMap (TileSetup.covering m.row) := by
  have ⟨_, active⟩ := h
  have first : TileSetup.covering m.row (.active d g) = some (d, g) := if_pos (active d g ▸ covers)
  rw [m.covering_eq, tiles, List.filterMap_append, List.filterMap_cons_some first,
    List.drop_left' (by rw [h.length, gathered])]

theorem Composer.no_covering_left {m : Composer} {test : TileSetup → Bool} (h : TestsCover m.row test)
    (gathered : m.tiles.countP test ≤ m.gathered.length) : (m.covering m.row).drop m.gathered.length = [] :=
  List.drop_eq_nil_of_le (by rwa [m.covering_eq, h.length])

theorem TileGeometry.tileRow_eq (g : TileGeometry) (y : Int) :
    g.tileRow y = if g.turn = .upright then y - g.y else g.y + g.ch - 1 - y := by
  unfold TileGeometry.tileRow
  cases g.turn <;> rfl

/-! ### One step of the Composer (R126, R127, R130) -/

theorem Line.mayCompose_iff {ln : Line} {ph : Nat} (exposure : ln.exposure = some c) :
    ln.mayCompose ph = true ↔ c.abortSent = false ∧ ln.feed.length < 16 ∧ ln.composer.row < ph := by
  rw [Line.mayCompose, exposure]
  simp only [Bool.and_eq_true, Bool.not_eq_true', decide_eq_true_eq, and_assoc]

theorem Line.mayCompose_room {ln : Line} {ph : Nat} (may : ln.mayCompose ph = true) : ln.feed.length < 16 := by
  cases exposure : ln.exposure with
  | none =>
    rw [Line.mayCompose, exposure] at may
    cases may
  | some c =>
    obtain ⟨-, room, -⟩ := (Line.mayCompose_iff exposure).mp may
    exact room

theorem State.exposed_eq (exposure : (s.line l).exposure = some c) : s.exposed l = (s.plate c.slot).load := by
  rw [State.exposed, exposure]

@[simp] theorem Line.formLine_feed (ln : Line) (pw : Nat) : (ln.formLine pw).feed =
    ln.feed ++ [ln.composer.scanLine pw] := rfl
@[simp] theorem Line.formLine_row (ln : Line) (pw : Nat) : (ln.formLine pw).composer.row = ln.composer.row + 1 := rfl
@[simp] theorem Line.formLine_exposure (ln : Line) (pw : Nat) : (ln.formLine pw).exposure = ln.exposure := rfl

/-- The Composer's state once it has formed the scan line at its row. -/
def State.formedLine (s : State) (l : LineId) : State := s.setLine l ((s.line l).formLine (s.exposed l).width)

@[simp] theorem State.formedLine_line (s : State) (l : LineId) :
    (s.formedLine l).line l = (s.line l).formLine (s.exposed l).width := State.line_setLine_self ..

theorem State.compose_stops (h : ¬ (s.line l).mayCompose (s.exposed l).height = true) : s.compose n l = s := by
  cases n with
  | zero => rfl
  | succ n => exact if_neg h

theorem State.compose_works (may : (s.line l).mayCompose (s.exposed l).height = true) :
    s.compose (n + 1) l =
      match ((s.line l).composer.covering (s.line l).composer.row).drop (s.line l).composer.gathered.length with
      | q :: _ =>
        if s.store.hasRead l then s
        else s.onStore fun st => st.request (.read (s.readFor l (s.line l).composer.row q))
      | [] => (s.formedLine l).compose n l := if_pos may

theorem State.compose_reads {q : DescId × TileGeometry} {rest : List (DescId × TileGeometry)}
    (may : (s.line l).mayCompose (s.exposed l).height = true)
    (next : ((s.line l).composer.covering (s.line l).composer.row).drop (s.line l).composer.gathered.length = q :: rest)
    (free : s.store.hasRead l = false) : s.compose (n + 1) l =
      s.onStore fun st => st.request (.read (s.readFor l (s.line l).composer.row q)) := by
  rw [State.compose_works may, next]
  exact if_neg (by rw [free]; decide)

theorem State.compose_waits {q : DescId × TileGeometry} {rest : List (DescId × TileGeometry)}
    (may : (s.line l).mayCompose (s.exposed l).height = true)
    (next : ((s.line l).composer.covering (s.line l).composer.row).drop (s.line l).composer.gathered.length = q :: rest)
    (reading : s.store.hasRead l = true) : s.compose (n + 1) l = s := by
  rw [State.compose_works may, next]
  exact if_pos reading

theorem State.compose_forms (may : (s.line l).mayCompose (s.exposed l).height = true)
    (done : ((s.line l).composer.covering (s.line l).composer.row).drop (s.line l).composer.gathered.length = []) :
    s.compose (n + 1) l = (s.formedLine l).compose n l := by
  rw [State.compose_works may, done]

/-- Sixteen scan lines fill the feed buffer, so no more steps are taken than there is room for. -/
theorem State.compose_succ (enough : 16 ≤ n + (s.line l).feed.length) : s.compose (n + 1) l = s.compose n l := by
  by_cases may : (s.line l).mayCompose (s.exposed l).height = true
  · have room := Line.mayCompose_room may
    induction n generalizing s with
    | zero => omega
    | succ n ih =>
      cases next : ((s.line l).composer.covering (s.line l).composer.row).drop (s.line l).composer.gathered.length with
      | cons q rest =>
        cases reading : s.store.hasRead l with
        | true => rw [State.compose_waits may next reading, State.compose_waits may next reading]
        | false => rw [State.compose_reads may next reading, State.compose_reads may next reading]
      | nil =>
        rw [State.compose_forms may next, State.compose_forms may next]
        by_cases may' : ((s.formedLine l).line l).mayCompose ((s.formedLine l).exposed l).height = true
        · refine ih ?_ may' (Line.mayCompose_room may')
          simp only [State.formedLine_line, Line.formLine_feed, List.length_append, List.length_singleton]
          omega
        · rw [State.compose_stops may', State.compose_stops may']
  · rw [State.compose_stops may, State.compose_stops may]

/-! ### Going on, and EXPOSE_GO (R130, R136) -/

/-- EXPOSE_GO is not considered while the feed buffer has room (R136). -/
theorem State.goTest_of_room (room : (s.line l).feed.length < 16) : s.goTest l = s := by
  unfold State.goTest
  split
  · rfl
  · exact if_neg fun ⟨_, _, _, full⟩ => absurd full (Nat.ne_of_lt room)

/-- EXPOSE_GO changes neither the feed buffer, nor the Composer, nor the Raster Store (R136). -/
theorem State.goTest_keeps (s : State) (l : LineId) : ((s.goTest l).line l).feed = (s.line l).feed
    ∧ ((s.goTest l).line l).composer = (s.line l).composer ∧ (s.goTest l).store = s.store := by
  unfold State.goTest
  split
  · exact ⟨rfl, rfl, rfl⟩
  · split
    · simp only [State.send_line, State.line_setLine_self, State.send_store, State.setLine_store, and_self]
    · exact ⟨rfl, rfl, rfl⟩

theorem State.feedLine_stops (h : ¬ (s.line l).mayCompose (s.exposed l).height = true) : s.feedLine l = s.goTest l := by
  rw [State.feedLine, State.compose_stops h]

theorem State.feedLine_reads {q : DescId × TileGeometry} {rest : List (DescId × TileGeometry)}
    (may : (s.line l).mayCompose (s.exposed l).height = true)
    (next : ((s.line l).composer.covering (s.line l).composer.row).drop (s.line l).composer.gathered.length = q :: rest)
    (free : s.store.hasRead l = false) : s.feedLine l =
      s.onStore fun st => st.request (.read (s.readFor l (s.line l).composer.row q)) := by
  rw [State.feedLine, State.compose_reads may next free]
  exact State.goTest_of_room (Line.mayCompose_room may)

theorem State.feedLine_waits {q : DescId × TileGeometry} {rest : List (DescId × TileGeometry)}
    (may : (s.line l).mayCompose (s.exposed l).height = true)
    (next : ((s.line l).composer.covering (s.line l).composer.row).drop (s.line l).composer.gathered.length = q :: rest)
    (reading : s.store.hasRead l = true) : s.feedLine l = s := by
  rw [State.feedLine, State.compose_waits may next reading]
  exact State.goTest_of_room (Line.mayCompose_room may)

theorem State.feedLine_forms (may : (s.line l).mayCompose (s.exposed l).height = true)
    (done : ((s.line l).composer.covering (s.line l).composer.row).drop (s.line l).composer.gathered.length = []) :
    s.feedLine l = (s.formedLine l).feedLine l := by
  have enough : 16 ≤ Config.feedLines + ((s.formedLine l).line l).feed.length := Nat.le_add_right _ _
  rw [State.feedLine, State.compose_forms may done, State.feedLine, State.compose_succ enough]

/-! ### Where the Composer stops (R130) -/

/-- A read asked of the arbiter is in it, waiting or in service (R52). -/
theorem RasterStore.request_hasRead (st : RasterStore) (r : ScanRead) : (st.request (.read r)).hasRead r.line = true := by
  by_cases free : st.inService = none ∧ st.handing = false
  · obtain ⟨idle, granting⟩ := free
    rw [RasterStore.request_granted _ idle granting]
    simp [RasterStore.hasRead]
  · simp [RasterStore.request, if_neg free, RasterStore.hasRead]

/-- What the Composer of an exposure has come to, from state s to state t: it must stop, and has formed scan lines behind
those in the feed buffer. -/
structure Composed (l : LineId) (c : Exposure) (s t : State) : Prop where
  stopped : c.abortSent = true ∨ 16 ≤ (t.line l).feed.length ∨ (s.plate c.slot).load.height ≤ (t.line l).composer.row
    ∨ t.store.hasRead l = true
  room : (t.line l).feed.length ≤ 16
  formed : ∃ formed : List (List Byte), (t.line l).feed = (s.line l).feed ++ formed
    ∧ (t.line l).composer.row = (s.line l).composer.row + formed.length
    ∧ ∀ row ∈ formed, row.length = rowBytes (s.plate c.slot).load.width

theorem Composed.still {t : State} (same : t.line l = s.line l) (room : (s.line l).feed.length ≤ 16)
    (stopped : c.abortSent = true ∨ 16 ≤ (s.line l).feed.length ∨ (s.plate c.slot).load.height ≤ (s.line l).composer.row
      ∨ t.store.hasRead l = true) : Composed l c s t := by
  refine ⟨by rwa [same], by rwa [same], [], ?_, ?_, nofun⟩
  · rw [same, List.append_nil]
  · rw [same, List.length_nil, Nat.add_zero]

/-- The scan line formed first stands before those formed after it. -/
theorem Composed.of_formedLine {t : State} (exposure : (s.line l).exposure = some c)
    (h : Composed l c (s.formedLine l) t) : Composed l c s t := by
  obtain ⟨stopped, room, formed, feed, row, bytes⟩ := h
  rw [State.formedLine_line, State.exposed_eq exposure] at feed row
  refine ⟨stopped, room, (s.line l).composer.scanLine (s.plate c.slot).load.width :: formed, ?_, ?_, ?_⟩
  · rw [feed, Line.formLine_feed, List.append_assoc, List.singleton_append]
  · rw [row, Line.formLine_row, List.length_cons, Nat.add_assoc, Nat.add_comm 1]
  · exact List.forall_mem_cons.mpr ⟨Composer.scanLine_length _ _, bytes⟩

theorem State.compose_composed (exposure : (s.line l).exposure = some c) (room : (s.line l).feed.length ≤ 16)
    (enough : 16 ≤ n + (s.line l).feed.length) : Composed l c s (s.compose n l) := by
  induction n generalizing s with
  | zero => exact .still rfl room (.inr (.inl (by omega)))
  | succ n ih =>
    by_cases may : (s.line l).mayCompose (s.exposed l).height = true
    · have space := Line.mayCompose_room may
      cases next : ((s.line l).composer.covering (s.line l).composer.row).drop (s.line l).composer.gathered.length with
      | cons q rest =>
        cases reading : s.store.hasRead l with
        | true =>
          rw [State.compose_waits may next reading]
          exact .still rfl room (.inr (.inr (.inr reading)))
        | false =>
          rw [State.compose_reads may next reading]
          exact .still rfl room (.inr (.inr (.inr (RasterStore.request_hasRead _ _))))
      | nil =>
        rw [State.compose_forms may next]
        refine (ih ?_ ?_ ?_).of_formedLine exposure
        · rw [State.formedLine_line, Line.formLine_exposure, exposure]
        all_goals
          rw [State.formedLine_line, Line.formLine_feed, List.length_append, List.length_singleton]
          omega
    · rw [State.compose_stops may]
      rw [Line.mayCompose_iff exposure, State.exposed_eq exposure] at may
      refine .still rfl room ?_
      cases sent : c.abortSent with
      | true => exact .inl rfl
      | false =>
        have : ¬ ((s.line l).feed.length < 16 ∧ (s.line l).composer.row < (s.plate c.slot).load.height) :=
          fun works => may ⟨sent, works⟩
        omega

/-- EXPOSE_GO adds nothing to what has been composed. -/
theorem State.feedLine_composed (exposure : (s.line l).exposure = some c) (room : (s.line l).feed.length ≤ 16) :
    Composed l c s (s.feedLine l) := by
  obtain ⟨feed, composer, store⟩ := (s.compose (Config.feedLines + 1) l).goTest_keeps l
  have enough : 16 ≤ Config.feedLines + 1 + (s.line l).feed.length := Nat.le_add_right_of_le (by decide)
  obtain ⟨stopped, stays, formed⟩ := State.compose_composed exposure room enough
  rw [← feed, ← composer, ← store] at stopped
  rw [← feed] at stays
  rw [← feed, ← composer] at formed
  exact ⟨stopped, stays, formed⟩

end

/-- Settles O34: where the Composer stops by induction on the steps left, and each step by its equation. -/
theorem composerGoesOn : Obligations.ComposerGoesOn := by
  refine ⟨fun s l c exposure room => ?_, fun s l c exposure => ?_⟩
  · obtain ⟨stopped, stays, formed⟩ := State.feedLine_composed exposure room
    exact ⟨stopped, stays, formed⟩
  · intro m x v covers works
    have may : (s.line l).mayCompose (s.exposed l).height = true ↔ works := by
      rw [Line.mayCompose_iff exposure, State.exposed_eq exposure]
    have row (g : TileGeometry) : v g = g.tileRow m.row := (g.tileRow_eq m.row).symm
    have tests : TestsCover m.row covers := ⟨fun _ => rfl, fun d g => by
      show decide (g.u0 ≤ g.u1 ∧ g.v0 ≤ v g ∧ v g ≤ g.v1) = _
      rw [row, TileGeometry.covers]⟩
    refine ⟨fun older newer d g work tiles covering gathered => ?_, fun work gathered => ?_, fun rest => ?_⟩
    · have next := Composer.next_covering tests tiles covering gathered
      refine ⟨fun free => ?_, fun reading => State.feedLine_waits (may.mpr work) next reading⟩
      rw [row, State.feedLine_reads (may.mpr work) next free]
      rfl
    · rw [State.feedLine_forms (may.mpr work) (Composer.no_covering_left tests gathered), State.formedLine,
        State.exposed_eq exposure]
      rfl
    · exact State.feedLine_stops fun works => rest (may.mp works)

end Sys2Proof.Machine
end

section
/-! SUPPORT. The answers to a begin and its timeout (R132 to R136): each message by the exposure in flight, and what it makes of
the record and of the line. -/

namespace Sys2Proof.Machine

set_option Elab.async false

section
variable {s : State} {l : LineId} {c : Exposure} {p : Slot}

/-! ### The reset-abort flag (R112) -/

theorem State.clearAbort_clear (h : (s.line l).resetAbort = false) : s.clearAbort l = s := if_neg (by rw [h]; decide)

theorem State.clearAbort_set (h : (s.line l).resetAbort = true) :
    s.clearAbort l = (s.setLine l { s.line l with resetAbort := false }).startTest l := if_pos h

/-- A message that clears the flag, or finds it clear. -/
theorem State.clearAbort_outcome (s : State) (l : LineId) :
    ((s.line l).resetAbort = false →
      (.next (s.clearAbort l).finish : Host.Outcome State Fault Refusal) = .next s.finish)
    ∧ ((s.line l).resetAbort = true → (.next (s.clearAbort l).finish : Host.Outcome State Fault Refusal) =
      .next ((s.setLine l { s.line l with resetAbort := false }).startTest l).finish) :=
  ⟨fun clear => by rw [State.clearAbort_clear clear], fun set => by rw [State.clearAbort_set set]⟩

/-! ### Begins that wait for an answer -/

/-- What an answer to a begin comes to: its effect on the begin that waits for it, and else what it is without one. -/
def Line.answers (ln : Line) (stray : State) (effect : Exposure → State) : State :=
  match ln.exposure with
  | none => stray
  | some c => if c.answered then stray else effect c

theorem Line.answers_stray {ln : Line} (h : ln.exposure = none ∨ ∃ c, ln.exposure = some c ∧ c.answered = true)
    (stray : State) (effect : Exposure → State) : ln.answers stray effect = stray := by
  unfold Line.answers
  obtain idle | ⟨c, exposure, answered⟩ := h
  · rw [idle]
  · rw [exposure]
    exact if_pos answered

theorem Line.answers_waiting {ln : Line} (exposure : ln.exposure = some c) (unanswered : c.answered = false)
    (stray : State) (effect : Exposure → State) : ln.answers stray effect = effect c := by
  unfold Line.answers
  rw [exposure]
  exact if_neg (by rw [unanswered]; decide)

/-! ### BEGIN_ACCEPT and EXPOSE_GO (R133, R136) -/

theorem exec_beginAccept (fitted : (s.line l).fitted = true) :
    exec (.beginAccept l) s = .next ((s.line l).answers s (s.acceptBegin l)).finish :=
  onLine_fitted s l (·.takeAccept l) fitted

/-- The begin answered and its pass committed, before the withdraw mark is turned into the supersede action. -/
def State.answeredBegin (s : State) (l : LineId) (c : Exposure) : State :=
  ((s.setLine l { s.line l with exposure := some c.accepted }).setPlate c.slot
    { s.plate c.slot with pass := c.pass, withdraw := false }).report
      { kind := .exposureStarted, slot := some c.slot, line := some l, pass := some c.pass }

theorem State.acceptBegin_eq (s : State) (l : LineId) (c : Exposure) : s.acceptBegin l c =
    (if (s.plate c.slot).withdraw then (s.answeredBegin l c).applyAction c.slot l else s.answeredBegin l c).goTest l := rfl

theorem State.goTest_goes (exposure : (s.line l).exposure = some c)
    (goes : c.answered = true ∧ c.goSent = false ∧ c.abortSent = false ∧ (s.line l).feed.length = 16) : s.goTest l =
      (s.setLine l { s.line l with exposure := some { c with goSent := true } }).send l .exposeGo := by
  unfold State.goTest
  rw [exposure]
  exact if_pos goes

theorem State.goTest_holds (exposure : (s.line l).exposure = some c)
    (holds : ¬ (c.answered = true ∧ c.goSent = false ∧ c.abortSent = false ∧ (s.line l).feed.length = 16)) :
    s.goTest l = s := by
  unfold State.goTest
  rw [exposure]
  exact if_neg holds

/-! ### BEGIN_REFUSE and BEGIN_REFUSE_LOCAL (R134, R135) -/

theorem exec_beginRefuse (cause : RefuseCause) (fitted : (s.line l).fitted = true) :
    exec (.beginRefuse l cause) s = .next ((s.line l).answers (s.clearAbort l) (s.refuseBegin l)).finish :=
  onLine_fitted s l (·.takeRefuse l) fitted

theorem exec_beginRefuseLocal (fitted : (s.line l).fitted = true) :
    exec (.beginRefuseLocal l) s = .next ((s.line l).answers (s.clearAbort l) (s.refuseLocal l)).finish :=
  onLine_fitted s l (·.takeRefuseLocal l) fitted

/-- The exposure undone and the unit no longer ready, before the record is dealt with. -/
def State.refused (s : State) (l : LineId) (c : Exposure) : State :=
  (s.undoBegin l c).setLine l { (s.undoBegin l c).line l with unitReady := false }

theorem State.refuseBegin_eq (s : State) (l : LineId) (c : Exposure) : s.refuseBegin l c =
    ((((s.refused l c).refusedRecord l c.slot).endPause l).drainTest l).wakeIntake.tell := rfl

theorem State.refused_line (s : State) (l : LineId) (c : Exposure) : (s.refused l c).line l =
    { s.line l with feed := [], composer := {}, exposure := none, unitReady := false } := by
  rw [State.refused, State.line_setLine_self, State.undoBegin_line]

theorem State.refused_plate (s : State) (l : LineId) (c : Exposure) :
    (s.refused l c).plate c.slot = { s.plate c.slot with bound := none } := s.undoBegin_plate l c

theorem State.refusedRecord_withdrawn (withdraw : (s.plate p).withdraw = true) :
    s.refusedRecord l p = s.withdrawRecord l p := if_pos withdraw

theorem State.refusedRecord_faulted (kept : (s.plate p).withdraw = false) (faulted : (s.line l).mode = .faulted) :
    s.refusedRecord l p = (s.returnToReady p).tell := by
  rw [State.refusedRecord, if_neg (by rw [kept]; decide), if_pos faulted]

theorem State.refusedRecord_requeued (kept : (s.plate p).withdraw = false) (running : (s.line l).mode ≠ .faulted) :
    s.refusedRecord l p = (s.requeue l p).returnMismatch l p := by
  rw [State.refusedRecord, if_neg (by rw [kept]; decide), if_neg running]

/-- The line faulted for a unit under local control, before the record is dealt with (R135). -/
def State.faultedLocal (s : State) (l : LineId) (c : Exposure) : State :=
  (s.refusedLocal l c).faultLine l .unitLocal (some c.slot)

theorem State.refuseLocal_withdrawn (withdraw : ((s.faultedLocal l c).plate c.slot).withdraw = true) :
    s.refuseLocal l c = ((s.faultedLocal l c).withdrawRecord l c.slot).wakeIntake.tell :=
  congrArg (fun t : State => t.wakeIntake.tell) (if_pos withdraw)

theorem State.refuseLocal_kept (kept : ((s.faultedLocal l c).plate c.slot).withdraw = false) :
    s.refuseLocal l c = ((s.faultedLocal l c).returnToReady c.slot).wakeIntake.tell :=
  congrArg (fun t : State => t.wakeIntake.tell) (if_neg (Bool.eq_false_iff.mp kept))

/-! ### The record back at the head of its queue (R103, R134) -/

/-- A record back at the head of its queue, however long the queue has become. -/
def State.atHead (s : State) (l : LineId) (p : Slot) : State :=
  (s.setLine l { s.line l with queue := p :: (s.line l).queue }).setPlate p { s.plate p with state := .queued }

theorem State.atHead_line (s : State) (l : LineId) (p : Slot) :
    (s.atHead l p).line l = { s.line l with queue := p :: (s.line l).queue } := s.line_setLine_self l _

theorem State.atHead_plate (s : State) (l : LineId) (p : Slot) :
    (s.atHead l p).plate p = { s.plate p with state := .queued } :=
  (s.setLine l { s.line l with queue := p :: (s.line l).queue }).plate_setPlate_self p _

theorem State.requeue_eq (s : State) (l : LineId) (p : Slot) : s.requeue l p =
    if 8 < ((s.atHead l p).line l).queue.length then
      (s.atHead l p).returnEntries l ((s.atHead l p).line l).queue.getLast?.toList
    else s.atHead l p := rfl

theorem State.requeue_of_room (room : (s.line l).queue.length < 8) : s.requeue l p = s.atHead l p := by
  rw [State.requeue_eq, State.atHead_line]
  exact if_neg (Nat.not_lt.mpr room)

/-- From a full queue the entry at the back gives way. -/
theorem State.requeue_of_full {last : Slot} (full : (s.line l).queue.length = 8)
    (back : (s.line l).queue.getLast? = some last) : s.requeue l p = (s.atHead l p).returnEntries l [last] := by
  have nine : 8 < (p :: (s.line l).queue).length := by rw [List.length_cons, full]; decide
  rw [State.requeue_eq, State.atHead_line, if_pos nine, List.getLast?_cons, back]
  rfl

theorem State.returnMismatch_same (same : (s.line l).stock = some (s.plate p).load.sizeClass) :
    s.returnMismatch l p = s := if_pos same

theorem State.returnMismatch_other (other : (s.line l).stock ≠ some (s.plate p).load.sizeClass) :
    s.returnMismatch l p = s.returnEntries l [p] := if_neg other

/-- Neither the stock class nor the loaded fields of a record change when entries of a queue are returned. -/
theorem State.returnEntries_classes (s : State) (l : LineId) (ps : List Slot) (p : Slot) :
    ((s.returnEntries l ps).line l).stock = (s.line l).stock
    ∧ ((s.returnEntries l ps).plate p).load = (s.plate p).load := by
  rw [State.returnEntries_line, if_pos rfl, State.returnEntries_plate]
  split <;> exact ⟨rfl, rfl⟩

/-- The record back at the head brings its line no other stock class, and itself no other size class. -/
theorem State.atHead_classes (s : State) (l : LineId) (p : Slot) :
    ((s.atHead l p).line l).stock = (s.line l).stock ∧ ((s.atHead l p).plate p).load = (s.plate p).load := by
  rw [State.atHead_line, State.atHead_plate]
  exact ⟨rfl, rfl⟩

/-! ### The begin timeout and EXPOSE_END with cause FAULT (R132, R141) -/

theorem exec_beginTimeout_runs (exposure : (s.line l).exposure = some c) (timer : c.timer = true) :
    exec (.beginTimeout l) s = .next (s.timeoutBegin l c).finish := by
  show execBeginTimeout l s = _
  unfold execBeginTimeout
  rw [exposure]
  exact if_pos timer

theorem exec_beginTimeout_stopped (exposure : (s.line l).exposure = some c) (timer : c.timer = false) :
    exec (.beginTimeout l) s = .next s := by
  show execBeginTimeout l s = _
  unfold execBeginTimeout
  rw [exposure]
  exact if_neg (by rw [timer]; decide)

theorem exec_beginTimeout_idle (idle : (s.line l).exposure = none) : exec (.beginTimeout l) s = .next s := by
  show execBeginTimeout l s = _
  unfold execBeginTimeout
  rw [idle]

theorem exec_exposeEndFault (fitted : (s.line l).fitted = true) :
    exec (.exposeEndFault l) s = .next (s.takeEndFault l).finish := onLine_fitted s l (·.takeEndFault l) fitted

theorem State.takeEndFault_exposing (exposure : (s.line l).exposure = some c) :
    s.takeEndFault l = s.failExposure l c := by
  unfold State.takeEndFault
  rw [exposure]

theorem State.takeEndFault_idle (idle : (s.line l).exposure = none) : s.takeEndFault l = s.clearAbort l := by
  unfold State.takeEndFault
  rw [idle]

/-- A spoiled record keeps its pass (R75). -/
theorem State.spoil_pass (s : State) (p : Slot) (cause : Cause) :
    ((s.spoil p cause).plate p).pass = (s.plate p).pass := by
  obtain ⟨-, -, -, -, pass, -⟩ := (s.plate p).ruined_fields cause (s.loadComplete (s.plate p).load)
  rw [State.spoil_plate, if_pos rfl, pass]

end

/-- Settles O35: the acceptance by the withdraw mark, and EXPOSE_GO by its conditions. -/
theorem beginsAreAccepted : Obligations.BeginsAreAccepted := by
  intro s l fitted
  rw [exec_beginAccept fitted]
  refine ⟨fun c exposure unanswered => ?_, fun stray => ?_,
    fun c exposure => ⟨fun answered unsent kept full => ?_, State.goTest_holds exposure⟩⟩
  · rw [Line.answers_waiting exposure unanswered, State.acceptBegin_eq]
    refine ⟨fun kept => ?_, fun withdraw => ?_⟩
    · rw [kept]
      rfl
    · rw [withdraw]
      rfl
  · rw [Line.answers_stray stray]
  · exact State.goTest_goes exposure ⟨answered, unsent, kept, full⟩

/-- Settles O36: a refusal by the withdraw mark, the line's state and the queue's length, or as the reset-abort flag says. -/
theorem beginsAreRefused : Obligations.BeginsAreRefused := by
  refine ⟨fun s l cause fitted => ⟨fun c exposure unanswered => ?_, fun stray => ?_⟩,
    fun s l fitted => ⟨fun c exposure unanswered => ?_, fun stray => ?_⟩⟩
  · intro closed u done
    have line := s.refused_line l c
    have plate := s.refused_plate l c
    have effect : exec (.beginRefuse l cause) s = .next (done ((s.refused l c).refusedRecord l c.slot)).finish := by
      rw [exec_beginRefuse cause fitted, Line.answers_waiting exposure unanswered, State.refuseBegin_eq]
    refine ⟨fun withdraw => ?_, fun kept faulted => ?_, fun kept running => ?_⟩
    · rw [effect, State.refusedRecord_withdrawn (by rw [plate]; exact withdraw)]
      rfl
    · rw [effect, State.refusedRecord_faulted (by rw [plate]; exact kept) (by rw [line]; exact faulted)]
      rfl
    · intro back
      have queue : ((s.refused l c).line l).queue = (s.line l).queue := by rw [line]
      have head : (s.refused l c).atHead l c.slot = back := by
        rw [State.atHead, queue]
        rfl
      have classes : (back.line l).stock = (s.line l).stock ∧ (back.plate c.slot).load = (s.plate c.slot).load := by
        have := (s.refused l c).atHead_classes l c.slot
        rwa [head, line, plate] at this
      obtain ⟨stock, load⟩ := classes
      rw [effect, State.refusedRecord_requeued (by rw [plate]; exact kept) (by rw [line]; exact running)]
      refine ⟨fun same room => ?_, fun other room => ?_, fun last same full entry _ => ?_, fun last other full entry _ => ?_⟩
      · rw [State.requeue_of_room (by rwa [queue]), head, State.returnMismatch_same (by rwa [stock, load])]
      · rw [State.requeue_of_room (by rwa [queue]), head, State.returnMismatch_other (by rwa [stock, load])]
      all_goals
        obtain ⟨stock', load'⟩ := back.returnEntries_classes l [last] c.slot
        rw [State.requeue_of_full (by rwa [queue]) (by rwa [queue]), head]
      · rw [State.returnMismatch_same (by rwa [stock', load', stock, load])]
      · rw [State.returnMismatch_other (by rwa [stock', load', stock, load])]
  · rw [exec_beginRefuse cause fitted, Line.answers_stray stray]
    exact s.clearAbort_outcome l
  · rw [exec_beginRefuseLocal fitted, Line.answers_waiting exposure unanswered]
    intro closed u
    refine ⟨fun kept => ?_, fun withdraw => ?_⟩
    · rw [State.refuseLocal_kept kept]
      rfl
    · rw [State.refuseLocal_withdrawn withdraw]
      rfl
  · rw [exec_beginRefuseLocal fitted, Line.answers_stray stray]
    exact s.clearAbort_outcome l

/-- Settles O37: the expiry by the timer, and the end with cause FAULT, which spoils the record and faults the line. -/
theorem unitFailuresSpoilThePlate : Obligations.UnitFailuresSpoilThePlate := by
  refine ⟨fun s l => ⟨fun c exposure timer => ?_, fun c => exec_beginTimeout_stopped, exec_beginTimeout_idle⟩,
    fun s l c fitted exposure => ⟨?_, ?_, ?_⟩⟩
  · rw [exec_beginTimeout_runs exposure timer]
    rfl
  · rw [exec_exposeEndFault fitted, State.takeEndFault_exposing exposure]
    rfl
  · rw [State.spoil_line, State.closeExposure_line]
  · rw [State.spoil_pass]
    rfl

end Sys2Proof.Machine
end

section
/-! SUPPORT. Line requests, the ends of an exposure and unit status reports (R137 to R143), and that what every command ends
with leaves an exposure in flight as it is. -/

namespace Sys2Proof.Machine

set_option Elab.async false

section
variable {s : State} {l m : LineId} {c : Exposure} {cause : EndCause}

/-! ### Line requests (R137, R138, R139) -/

theorem exec_lineRequest (fitted : (s.line l).fitted = true) :
    exec (.lineRequest l) s = .next (s.takeLineRequest l).finish := onLine_fitted s l (·.takeLineRequest l) fitted

theorem Exposure.serves_iff {ph : Nat} :
    c.serves ph = true ↔ c.goSent = true ∧ c.abortSent = false ∧ c.linesSent < ph := by
  simp only [Exposure.serves, Bool.and_eq_true, Bool.not_eq_true', decide_eq_true_eq, and_assoc]

theorem State.takeLineRequest_serves {row : List Byte} {rest : List (List Byte)}
    (exposure : (s.line l).exposure = some c) (serves : c.serves (s.plate c.slot).load.height = true)
    (feed : (s.line l).feed = row :: rest) : s.takeLineRequest l = s.serveLine l c row rest := by
  rw [State.takeLineRequest, State.exposed_eq exposure, exposure]
  dsimp only
  rw [if_pos serves, feed]

theorem State.takeLineRequest_underruns (exposure : (s.line l).exposure = some c)
    (serves : c.serves (s.plate c.slot).load.height = true) (feed : (s.line l).feed = []) :
    s.takeLineRequest l = s.underrun l c := by
  rw [State.takeLineRequest, State.exposed_eq exposure, exposure]
  dsimp only
  rw [if_pos serves, feed]

theorem State.takeLineRequest_ignored (exposure : (s.line l).exposure = some c)
    (ignored : ¬ c.serves (s.plate c.slot).load.height = true) : s.takeLineRequest l = s := by
  rw [State.takeLineRequest, State.exposed_eq exposure, exposure]
  exact if_neg ignored

theorem State.takeLineRequest_idle (idle : (s.line l).exposure = none) : s.takeLineRequest l = s := by
  unfold State.takeLineRequest
  rw [idle]

theorem State.underrun_eq (exposure : (s.line l).exposure = some c) (unsent : c.abortSent = false) : s.underrun l c =
    ((s.setPlate c.slot ((s.plate c.slot).withDoom .underrun)).setLine l
      { s.line l with exposure := some { c with abortSent := true }, feed := [] }).send l .exposeAbort :=
  State.abortExposure_unsent (s := s.setPlate c.slot ((s.plate c.slot).withDoom .underrun)) exposure unsent

/-! ### EXPOSE_END (R140, R142) -/

theorem exec_exposeEnd (fitted : (s.line l).fitted = true) :
    exec (.exposeEnd l cause) s = .next (s.takeEnd l cause).finish := onLine_fitted s l (·.takeEnd l cause) fitted

theorem State.takeEnd_idle (idle : (s.line l).exposure = none) : s.takeEnd l cause = s.clearAbort l := by
  unfold State.takeEnd
  rw [idle]

theorem State.takeEnd_answered (exposure : (s.line l).exposure = some c) (answered : c.answered = true) :
    s.takeEnd l cause = s.endExposure l c cause := by
  unfold State.takeEnd
  rw [exposure]
  exact if_pos answered

theorem State.takeEnd_unanswered (exposure : (s.line l).exposure = some c) (unanswered : c.answered = false) :
    s.takeEnd l cause = s := by
  unfold State.takeEnd
  rw [exposure]
  exact if_neg (Bool.eq_false_iff.mp unanswered)

theorem Exposure.endsNormal_iff {ph : Nat} :
    c.endsNormal cause ph = true ↔ cause = .normal ∧ c.abortSent = false ∧ c.linesSent = ph := by
  simp only [Exposure.endsNormal, Bool.and_eq_true, Bool.not_eq_true', decide_eq_true_eq, and_assoc]

/-- The record of an ended exposure: doomed as ABORTED unless the end is taken as NORMAL (R140). -/
theorem PlateRecord.ended_endsNormal (r : PlateRecord) (c : Exposure) (cause : EndCause) :
    r.ended (c.endsNormal cause r.load.height) = { r with
      state := .exposed
      doom := if cause = .normal ∧ c.abortSent = false ∧ c.linesSent = r.load.height then r.doom
        else some (r.doom.getD .aborted) } := by
  unfold PlateRecord.ended
  simp only [Exposure.endsNormal_iff]
  split <;> rfl

/-- The EXPOSURE_ENDED report of a record, with its doom as the cause (R140). -/
def endedReport (l : LineId) (p : Slot) (r : PlateRecord) : Report :=
  { kind := .exposureEnded, slot := some p, line := some l, pass := some r.pass, cause := r.doom.map Doom.cause }

theorem State.endExposure_reports {r : PlateRecord}
    (ended : (s.plate c.slot).ended (c.endsNormal cause (s.plate c.slot).load.height) = r) : s.endExposure l c cause =
      (((((s.imaged l c (c.endsNormal cause (s.plate c.slot).load.height)).report (endedReport l c.slot r)).afterEnd l
        r.load.holdAfter).wakeIntake.startTest l).tell) := by
  subst ended
  rfl

/-- The closing of an exposure leaves the transit list, the stage clock, the line's state and its configuration. -/
theorem State.closeExposure_appendEntry (s : State) (l : LineId) (c : Exposure) (p : Slot) (mark : Nat) (route : Route)
    (f : ProfileId) : ((s.closeExposure l c).line l).appendEntry p mark route f = { (s.closeExposure l c).line l with
      transit := (s.line l).transit ++
        [{ slot := p, mark := mark, route := route, profile := f, stage := .toPunch
           deadline := if (s.line l).mode = .faulted then none else some (s.line l).config.tPb
           since := (s.line l).stageClock }]
      stageClock := (s.line l).stageClock + 1 } := by
  rw [State.closeExposure_line]
  rfl

/-! ### The line's state after an exposure's end (R107, R109) -/

theorem State.changed_mode (s : State) (l : LineId) (m : LineMode) : ((s.changed l m).line l).mode = m := by
  rw [State.changed_line]

theorem State.endPause_pausing (pausing : (s.line l).mode = .pausing) : s.endPause l = s.changed l .paused := by
  rw [State.endPause, if_pos pausing, State.setMode_eq_changed (by rw [pausing]; decide)]

theorem State.endPause_other (other : (s.line l).mode ≠ .pausing) : s.endPause l = s := if_neg other

theorem State.drainTest_other (other : (s.line l).mode ≠ .draining) : s.drainTest l = s :=
  if_neg fun ⟨draining, _, _⟩ => other draining

theorem State.drainTest_empty (draining : (s.line l).mode = .draining) (queue : (s.line l).queue = [])
    (exposure : (s.line l).exposure = none) : s.drainTest l = s.changed l .stopped := by
  rw [State.drainTest, if_pos ⟨draining, queue, exposure⟩, State.setMode_eq_changed (by rw [draining]; decide)]

theorem State.drainTest_busy (busy : (s.line l).queue ≠ [] ∨ (s.line l).exposure ≠ none) : s.drainTest l = s :=
  if_neg fun ⟨_, queue, exposure⟩ => busy.elim (· queue) (· exposure)

theorem State.afterEnd_running (running : (s.line l).mode = .running) :
    s.afterEnd l true = s.changed l .held ∧ s.afterEnd l false = s := by
  refine ⟨?_, ?_⟩
  · show s.holdTest l = _
    rw [State.holdTest, running]
    exact State.setMode_eq_changed (by rw [running]; decide)
  · show (s.endPause l).drainTest l = s
    rw [State.endPause_other (by rw [running]; decide), State.drainTest_other (by rw [running]; decide)]

theorem State.afterEnd_pausing (pausing : (s.line l).mode = .pausing) :
    s.afterEnd l true = (s.changed l .paused).changed l .held ∧ s.afterEnd l false = s.changed l .paused := by
  refine ⟨?_, ?_⟩
  · show s.holdTest l = _
    rw [State.holdTest, pausing]
    show (s.setMode l .paused).setMode l .held = _
    rw [State.setMode_eq_changed (m := .paused) (by rw [pausing]; decide)]
    exact State.setMode_eq_changed (by rw [State.changed_mode]; decide)
  · show (s.endPause l).drainTest l = _
    rw [State.endPause_pausing pausing, State.drainTest_other (by rw [State.changed_mode]; decide)]

theorem State.afterEnd_draining (draining : (s.line l).mode = .draining) :
    s.afterEnd l true = s.changed l .held ∧ s.afterEnd l false = s.drainTest l := by
  refine ⟨?_, ?_⟩
  · show s.holdTest l = _
    rw [State.holdTest, draining]
    exact State.setMode_eq_changed (by rw [draining]; decide)
  · show (s.endPause l).drainTest l = _
    rw [State.endPause_other (by rw [draining]; decide)]

theorem State.afterEnd_kept (kept : (s.line l).mode = .stopped ∨ (s.line l).mode = .paused ∨ (s.line l).mode = .held
    ∨ (s.line l).mode = .faulted) (hold : Bool) : s.afterEnd l hold = s := by
  have other : (s.line l).mode ≠ .pausing ∧ (s.line l).mode ≠ .draining := by
    rcases kept with mode | mode | mode | mode <;> rw [mode] <;> decide
  obtain ⟨notPausing, notDraining⟩ := other
  cases hold with
  | true =>
    show s.holdTest l = s
    unfold State.holdTest
    rcases kept with mode | mode | mode | mode <;> rw [mode]
  | false =>
    show (s.endPause l).drainTest l = s
    rw [State.endPause_other notPausing, State.drainTest_other notDraining]

/-! ### Exposures in flight while the Dispatcher walks and lines start (R100, R108) -/

/-- From `s` to `t` every exposure in flight has stayed as it was. -/
def ExposuresStay (s t : State) : Prop := ∀ l c, (s.line l).exposure = some c → (t.line l).exposure = some c

section
variable {t : State}

theorem ExposuresStay.refl (s : State) : ExposuresStay s s := fun _ _ => id

theorem ExposuresStay.trans {u : State} (h : ExposuresStay s t) (k : ExposuresStay t u) : ExposuresStay s u :=
  fun l c exposure => k l c (h l c exposure)

theorem ExposuresStay.foldl {α : Type} {f : State → α → State} (hf : ∀ u a, ExposuresStay u (f u a)) (as : List α)
    (s : State) : ExposuresStay s (as.foldl f s) :=
  List.foldlRecOn (motive := ExposuresStay s) as f (.refl s) fun u hu a _ => hu.trans (hf u a)

theorem State.compose_line_ne (other : m ≠ l) (n : Nat) (s : State) : (s.compose n l).line m = s.line m := by
  induction n generalizing s with
  | zero => rfl
  | succ n ih =>
    unfold State.compose
    dsimp only
    split
    · split
      · split <;> rfl
      · rw [ih, State.line_setLine, if_neg other]
    · rfl

theorem State.goTest_line_ne (other : m ≠ l) (s : State) : (s.goTest l).line m = s.line m := by
  unfold State.goTest
  split
  · rfl
  · split
    · rw [State.send_line, State.line_setLine, if_neg other]
    · rfl

/-- A Composer that goes on touches no other line. -/
theorem State.feedLine_line_ne (other : m ≠ l) (s : State) : (s.feedLine l).line m = s.line m := by
  rw [State.feedLine, State.goTest_line_ne other, State.compose_line_ne other]

/-- A line that starts has no exposure in flight, and touches no other line. -/
theorem State.startTest_exposuresStay (s : State) (l : LineId) : ExposuresStay s (s.startTest l) := by
  obtain ⟨same, -⟩ | ⟨p, rest, ready, -, begun⟩ := s.startTest_cases l
  · rw [same]
    exact .refl s
  · obtain ⟨-, idle, -⟩ := Line.startReady_iff.mp ready
    intro m c exposure
    have other : m ≠ l := fun same => by
      rw [same, idle] at exposure
      cases exposure
    have line : (s.exposing l p rest).line m = s.line m := (s.begun_line l m p _).trans (if_neg other)
    rw [begun, State.feedLine_line_ne other, line]
    exact exposure

theorem State.walkOne_exposuresStay (s : State) (p : Slot) : ExposuresStay s (s.walkOne p) := by
  obtain ⟨same, -⟩ | ⟨l, -, placed⟩ := s.walkOne_cases p
  · rw [same]
    exact .refl s
  · intro m c exposure
    rw [placed, State.place_line]
    split
    · rw [← ‹m = l›]
      exact exposure
    · exact exposure

theorem State.walks_exposuresStay (n : Nat) (s : State) : ExposuresStay s (s.walks n) := by
  induction n generalizing s with
  | zero => exact .refl s
  | succ n ih =>
    have round : ExposuresStay s ({ s with told := false }.walk).startLines :=
      (ExposuresStay.foldl State.walkOne_exposuresStay _ { s with told := false }).trans
        (ExposuresStay.foldl State.startTest_exposuresStay _ _)
    unfold State.walks
    dsimp only
    split
    · exact round.trans (ih _)
    · exact round

/-- What every command ends with leaves an exposure in flight as it is. -/
theorem State.finish_exposuresStay (s : State) : ExposuresStay s s.finish := by
  intro l c exposure
  obtain ⟨lines, -, -⟩ := s.finish_dispatcher
  rw [State.line, lines]
  show (s.settle.line l).exposure = some c
  unfold State.settle
  split
  · exact s.walks_exposuresStay 5 l c exposure
  · exact exposure

end

/-! ### Unit status reports (R143) -/

/-- The flags of a line as a unit status report sets them. -/
def Line.withStatus (ln : Line) (ready unitLocal : Bool) : Line :=
  { ln with unitLocal := unitLocal, unitReady := ready && !unitLocal }

theorem exec_unitStatusReport {ready unitLocal : Bool} {stock : Option Nat} (fitted : (s.line l).fitted = true) :
    exec (.unitStatusReport l ready stock unitLocal) s =
      .next ((((s.setLine l ((s.line l).withStatus ready unitLocal)).changeStock l stock).startTest l).tell).finish :=
  onLine_fitted s l (·.takeStatus l ready stock unitLocal) fitted

theorem State.changeStock_same {stock : Option Nat} (same : (s.line l).stock = stock) : s.changeStock l stock = s :=
  if_pos same

theorem State.changeStock_other {stock : Option Nat} (other : (s.line l).stock ≠ stock) : s.changeStock l stock =
    ((s.setLine l { s.line l with stock := stock }).returnEntries l ((s.line l).queue.filter fun p =>
      decide (some (s.plate p).load.sizeClass ≠ stock))).drainTest l := by
  rw [State.changeStock, if_neg other]
  dsimp only
  rw [State.line_setLine_self]
  rfl

end

/-- Settles O40: the request by what the exposure serves and by the feed buffer. -/
theorem lineRequestsAreServed : Obligations.LineRequestsAreServed := by
  intro s l fitted
  rw [exec_lineRequest fitted]
  refine ⟨fun c exposure => ?_, fun idle => by rw [State.takeLineRequest_idle idle]⟩
  intro served
  have serves_iff : c.serves (s.plate c.slot).load.height = true ↔ served := Exposure.serves_iff
  refine ⟨fun row rest serves feed => ?_, fun serves feed => ?_, fun ignored => ?_⟩
  · rw [State.takeLineRequest_serves exposure (serves_iff.mpr serves) feed]
    rfl
  · rw [State.takeLineRequest_underruns exposure (serves_iff.mpr serves) feed]
    obtain ⟨-, unsent, -⟩ := serves
    rw [State.underrun_eq exposure unsent]
    rfl
  · rw [State.takeLineRequest_ignored exposure (mt serves_iff.mp ignored)]

/-- Settles O41: the plate enters transit with the doom its end gives it, and the line's state follows by its table. -/
theorem exposuresEndWithAPlate : Obligations.ExposuresEndWithAPlate := by
  intro s l c cause fitted exposure answered r normal doom closed u
  refine ⟨?_, fun v => ?_⟩
  · have ended : r.ended (c.endsNormal cause r.load.height) = { r with state := .exposed, doom := doom } :=
      r.ended_endsNormal c cause
    have entered : (s.imaged l c (c.endsNormal cause r.load.height)).report
        (endedReport l c.slot { r with state := .exposed, doom := doom }) = u := by
      rw [State.imaged, ended, State.closeExposure_appendEntry]
      rfl
    rw [exec_exposeEnd fitted, State.takeEnd_answered exposure answered, State.endExposure_reports ended, entered]
  · intro changed kept
    refine ⟨State.afterEnd_running, State.afterEnd_pausing, fun draining => ?_,
      fun mode => ⟨State.afterEnd_kept mode true, State.afterEnd_kept mode false⟩⟩
    obtain ⟨held, tested⟩ := State.afterEnd_draining draining
    refine ⟨held, fun queue idle => ?_, fun busy => ?_⟩
    · rw [tested, State.drainTest_empty draining queue idle]
      rfl
    · rw [tested, State.drainTest_busy busy]

/-- Settles O42: an end without an answered begin by the exposure in flight, which what the command ends with leaves. -/
theorem strayEndsAreIgnored : Obligations.StrayEndsAreIgnored := by
  intro s l cause fitted
  rw [exec_exposeEnd fitted, exec_exposeEndFault fitted]
  refine ⟨fun c exposure unanswered => ⟨?_, s.finish_exposuresStay l c exposure⟩, fun idle => ?_, fun idle => ?_⟩
  · rw [State.takeEnd_unanswered exposure unanswered]
  all_goals
    obtain ⟨clear, set⟩ := s.clearAbort_outcome l
    rw [State.takeEnd_idle idle, State.takeEndFault_idle idle]
  · exact fun h => ⟨clear h, clear h⟩
  · exact fun h => ⟨set h, set h⟩

/-- Settles O43: the report by whether the stock class it brings is the one held. -/
theorem unitStatusIsTaken : Obligations.UnitStatusIsTaken := by
  intro s l ready stock unitLocal fitted flags
  have line : (s.setLine l flags).line l = flags := s.line_setLine_self l flags
  rw [exec_unitStatusReport fitted]
  show (_ → Host.Outcome.next ((((s.setLine l flags).changeStock l stock).startTest l).tell).finish = _)
    ∧ (_ → Host.Outcome.next ((((s.setLine l flags).changeStock l stock).startTest l).tell).finish = _)
  refine ⟨fun same => ?_, fun other => ?_⟩
  · rw [State.changeStock_same (by rw [line]; exact same)]
    rfl
  · rw [State.changeStock_other (by rw [line]; exact other), line, State.setLine_setLine]
    rfl

end Sys2Proof.Machine
end

section
/-! SUPPORT. LOAD_PROFILE (R145): its fields in the order of the table, its answers, and what it sets (R147). -/

namespace Sys2Proof.Machine

section
variable {s : State} {i : ProfileId} {x : Profile} {args : List Byte}

/-! ### The fields of LOAD_PROFILE (R145) -/

/-- Fields numbered on from `k`, each examined against its range. -/
theorem aligned_map_range {ok : Nat → Bool} {r : Nat → Prop} (range : ∀ j, ok j = true ↔ r j) (k n : Nat) :
    Aligned k ((List.range n).map fun j => (k + j, ok j)) ((List.range n).map r) := by
  induction n with
  | zero => exact .nil k
  | succ n ih =>
    rw [List.range_succ, List.map_append, List.map_append]
    refine ih.append ?_
    rw [List.length_map, List.length_range]
    exact .field (range n) (.nil _)

/-- The fields of LOAD_PROFILE are examined in the order of the table of R145. -/
theorem profileFields_examined (args : List Byte) : Examines (profileFields args)
    ([byteAt args 0 ≤ 31, -2048 ≤ s16At args 1 ∧ s16At args 1 ≤ 2047, -2048 ≤ s16At args 3 ∧ s16At args 3 ≤ 2047,
        u16At args 5 ≤ 40959, u16At args 7 ≤ 32767, byteAt args 9 ≤ 1, 1 ≤ byteAt args 10 ∧ byteAt args 10 ≤ 8]
      ++ ((List.range 8).map fun j => j < byteAt args 10 → byteAt args (11 + j) ≤ 15)
      ++ [byteAt args 19 ≤ 135, byteAt args 20 ≤ 135]) := by
  refine Aligned.examines (.append (.append ?_
    (aligned_map_range (ok := fun j => decide (j < byteAt args 10 → byteAt args (11 + j) ≤ 15))
      (fun _ => decide_eq_true_iff) 8 8)) ?_)
  · exact .field within_zero_iff <| .field withinInt_iff <| .field withinInt_iff <| .field within_zero_iff <|
      .field within_zero_iff <| .field within_zero_iff <| .field within_iff <| .nil 8
  · exact .field within_zero_iff <| .field within_zero_iff <| .nil 18

/-! ### Its answers (R67, R145) -/

theorem exec_loadProfile_eq (s : State) : exec .loadProfile s = taking (0x40 : Byte).toNat (fun args s =>
    checked (profileFields args) s (runLoadProfile (profileIndex args) (profileOperand args) s)) s := rfl

theorem State.profileInUse_iff : s.profileInUse i = true ↔ ∃ p : Slot,
    ((s.plate p).state = .queued ∨ (s.plate p).state = .exposing ∨ (s.plate p).state = .exposed)
    ∧ (s.plate p).load.profile = i := by
  simp [State.profileInUse, PlateState.inFlight_iff]

theorem runLoadProfile_protected (inUse : s.profileInUse i = true) : runLoadProfile i x s = refuse s .isProtected :=
  if_pos inUse

theorem runLoadProfile_loads (idle : ¬ s.profileInUse i = true) : runLoadProfile i x s = carryOut (s.loadProfile i x) :=
  if_neg idle

theorem profileIndex_eq (index : byteAt args 0 = i.val) : profileIndex args = i := by
  apply Fin.ext
  show byteAt args 0 % 32 = i.val
  rw [index, Nat.mod_eq_of_lt i.isLt]

end

/-- Settles O47: the fields in the order of R145, then the records that name the profile. -/
theorem loadProfileAnswers : Obligations.LoadProfileAnswers := by
  intro s f args i h length inUse
  have inUse_iff : s.dropControl.profileInUse i = true ↔ inUse := State.profileInUse_iff
  rw [exec_loadProfile_eq, taking_of_fixed _ h (by decide) (by rw [length]; decide)]
  refine ⟨fun j bad => ?_, fun ok index named => ?_, fun ok index unnamed => ?_, profileFields_examined args⟩
  · rw [checked_bad _ _ _ j bad]
    rfl
  · rw [checked_ok _ _ _ ok, profileIndex_eq index, runLoadProfile_protected (inUse_iff.mpr named), refuse_next]
  · rw [checked_ok _ _ _ ok, profileIndex_eq index, runLoadProfile_loads (mt inUse_iff.mp unnamed), carryOut_next]
    rfl

end Sys2Proof.Machine
end

section
/-! SUPPORT. The transit entries that events are matched to (R148), and the expiry of a deadline (R149). -/

namespace Sys2Proof.Machine

/-! ### The entry nearest the front that qualifies (R148) -/

section
variable {q : TransitEntry → Bool} {es older newer : List TransitEntry} {e : TransitEntry} {g : Stage}

theorem find?_oldest (split : es = older ++ e :: newer) (before : ∀ x ∈ older, q x = false) (here : q e = true) :
    es.find? q = some e :=
  List.find?_eq_some_iff_append.mpr ⟨here, older, newer, split, fun x hx => by rw [before x hx]; rfl⟩

theorem find?_stage_oldest (split : es = older ++ e :: newer) (before : ∀ x ∈ older, x.stage ≠ g) (here : e.stage = g) :
    (es.find? fun x => decide (x.stage = g)) = some e :=
  find?_oldest split (fun x hx => decide_eq_false (before x hx)) (decide_eq_true here)

theorem find?_stage_eq_none : (es.find? fun x => decide (x.stage = g)) = none ↔ ∀ x ∈ es, x.stage ≠ g := by
  simp only [List.find?_eq_none, decide_eq_true_eq, ne_eq]

theorem find?_stage_eq_some (h : (es.find? fun x => decide (x.stage = g)) = some e) : e ∈ es ∧ e.stage = g :=
  ⟨List.mem_of_find?_eq_some h, by simpa using List.find?_some h⟩

end

/-! ### The expiry of a deadline (R149) -/

section
variable {s : State} {l : LineId} {p : Slot} {e : TransitEntry}

/-- The cause of an expiry, by the stage of the entry. -/
theorem Stage.expiryCause_eq (g : Stage) : g.expiryCause =
    if g = .atPunch (.setup true) ∨ g = .atPunch (.setup false) then .setupTimeout else .missing := by
  cases g with
  | atPunch step =>
    cases step with
    | setup sent => cases sent <;> rfl
    | work => rfl
  | toPunch | toSorter | atSorter _ | waitingBin => rfl

theorem exec_deadlineExpiry_runs (entry : (s.line l).entryOf p = some e) (deadline : e.deadline.isSome = true) :
    exec (.deadlineExpiry l p) s = .next (s.faultLine l e.stage.expiryCause (some p)).finish := by
  have running : (s.line l).runningDeadline p = some e := by
    rw [Line.runningDeadline, entry]
    exact if_pos deadline
  show execDeadlineExpiry l p s = _
  rw [execDeadlineExpiry, running]
  rfl

theorem exec_deadlineExpiry_stopped (entry : (s.line l).entryOf p = some e) (deadline : e.deadline = none) :
    exec (.deadlineExpiry l p) s = .next s := by
  have stopped : (s.line l).runningDeadline p = none := by
    rw [Line.runningDeadline, entry]
    exact if_neg (by rw [deadline]; decide)
  show execDeadlineExpiry l p s = _
  rw [execDeadlineExpiry, stopped]

theorem exec_deadlineExpiry_absent (absent : (s.line l).entryOf p = none) : exec (.deadlineExpiry l p) s = .next s := by
  have stopped : (s.line l).runningDeadline p = none := by rw [Line.runningDeadline, absent]
  show execDeadlineExpiry l p s = _
  rw [execDeadlineExpiry, stopped]

end

/-- Settles O51: the slot's entry by whether its deadline runs. -/
theorem deadlinesExpire : Obligations.DeadlinesExpire := by
  refine fun s l p => ⟨fun e n entry deadline => ⟨?_, fun notFaulted => ?_⟩, fun e entry stopped => ?_, fun absent => ?_⟩
  · rw [exec_deadlineExpiry_runs entry (by rw [deadline]; rfl), Stage.expiryCause_eq]
  · rw [State.faultLine_line notFaulted, if_pos rfl]
    rfl
  · exact exec_deadlineExpiry_stopped entry stopped
  · exact exec_deadlineExpiry_absent (List.find?_eq_none.mpr fun e he => by simpa using absent e he)

end Sys2Proof.Machine
end

section
/-! SUPPORT. The punch-bender (R150 to R154): what an entry that goes on leaves, arrivals, the setups that wait their turn, and
the reports of work done and of faults. -/

namespace Sys2Proof.Machine

section
variable {s : State} {l : LineId} {e : TransitEntry} {p : Slot} {g : Stage} {mark : Option Nat}

theorem exec_pbArrival (mark : Option Nat) (fitted : (s.line l).fitted = true) :
    exec (.pbArrival l mark) s = .next (s.takeArrival l mark).finish := onLine_fitted s l (·.takeArrival l mark) fitted

theorem exec_pbSetupDone (fitted : (s.line l).fitted = true) :
    exec (.pbSetupDone l) s = .next (s.takeSetupDone l).finish := onLine_fitted s l (·.takeSetupDone l) fitted

theorem exec_pbDone (fitted : (s.line l).fitted = true) : exec (.pbDone l) s = .next (s.takeDone l).finish :=
  onLine_fitted s l (·.takeDone l) fitted

theorem exec_pbFault (fitted : (s.line l).fitted = true) : exec (.pbFault l) s = .next (s.takePunchFault l).finish :=
  onLine_fitted s l (·.takePunchFault l) fitted

/-! ### Entries of a stage -/

theorem Line.anyWaiting_iff {ln : Line} : ln.anyWaiting = true ↔ ∃ x ∈ ln.transit, x.stage = .waitingBin := by
  simp only [Line.anyWaiting, List.any_eq_true, decide_eq_true_eq]

theorem Line.inSetup_eq_none {ln : Line} : ln.inSetup = none ↔ ¬ ∃ x ∈ ln.transit, x.stage = .atPunch (.setup true) := by
  rw [Line.inSetup, find?_stage_eq_none]
  exact ⟨fun h ⟨x, hx, stage⟩ => h x hx stage, fun h x hx stage => h ⟨x, hx, stage⟩⟩

theorem Line.awaitingSetup_eq_none {ln : Line} :
    ln.awaitingSetup = none ↔ ∀ x ∈ ln.transit, x.stage ≠ .atPunch (.setup false) := find?_stage_eq_none

/-- The deadline of an entry that enters TO_SORTER, by whether a plate of the line waits for a bin (R163). -/
theorem Line.toSorter_eq (ln : Line) (p : Slot) : ln.toSorter p = ln.enterStage p .toSorter
    (if ∃ x ∈ ln.transit, x.stage = .waitingBin then none else some ln.config.tSo) := by
  simp only [Line.toSorter, Line.anyWaiting_iff]

/-! ### Arrivals (R150, R151) -/

theorem State.takeArrival_phantom (phantom : (s.line l).mode = .faulted ∨ ∀ x ∈ (s.line l).transit, x.stage ≠ .toPunch) :
    s.takeArrival l mark = s.faultLine l .phantom none := by
  by_cases faulted : (s.line l).mode = .faulted
  · exact if_pos faulted
  · have unmatched : (s.line l).oldestToPunch = none := find?_stage_eq_none.mpr (phantom.resolve_left faulted)
    rw [State.takeArrival, if_neg faulted, unmatched]

theorem State.takeArrival_matched (running : (s.line l).mode ≠ .faulted) (oldest : (s.line l).oldestToPunch = some e) :
    s.takeArrival l mark = s.matchArrival l e mark := by
  rw [State.takeArrival, if_neg running, oldest]

theorem State.matchArrival_mismatch {m : Nat} (check : (s.profile e.profile).markCheck = true) (other : m ≠ e.mark) :
    s.matchArrival l e (some m) = s.faultLine l .mismatch (some e.slot) := by
  rw [State.matchArrival, if_pos check]
  exact if_neg other

theorem State.matchArrival_unread (check : (s.profile e.profile).markCheck = true) : s.matchArrival l e none =
    (s.report { kind := .markUnread, slot := some e.slot, line := some l }).acceptArrival l e := by
  rw [State.matchArrival, if_pos check]

theorem State.matchArrival_accepts (accepted : (s.profile e.profile).markCheck = false ∨ mark = some e.mark) :
    s.matchArrival l e mark = s.acceptArrival l e := by
  by_cases check : (s.profile e.profile).markCheck = true
  · obtain rfl := accepted.resolve_left (by rw [check]; decide)
    rw [State.matchArrival, if_pos check]
    exact if_pos rfl
  · exact if_neg check

theorem State.acceptArrival_passes (reject : e.route ≠ .deliver) :
    s.acceptArrival l e = (s.setLine l ((s.line l).toSorter e.slot)).send l .pbPass := if_neg reject

theorem State.acceptArrival_delivers (deliver : e.route = .deliver) : s.acceptArrival l e = s.deliverAtPunch l e :=
  if_pos deliver

theorem State.deliverAtPunch_known (known : (s.line l).stationProfile = some e.profile) :
    s.deliverAtPunch l e = s.sendGo l e.slot := if_pos known

theorem State.deliverAtPunch_setsUp (unknown : (s.line l).stationProfile ≠ some e.profile)
    (free : (s.line l).inSetup = none) : s.deliverAtPunch l e = s.sendSetup l e := by
  rw [State.deliverAtPunch, if_neg unknown, if_pos free]

theorem State.deliverAtPunch_waits (unknown : (s.line l).stationProfile ≠ some e.profile)
    (busy : (s.line l).inSetup ≠ none) :
    s.deliverAtPunch l e = s.setLine l ((s.line l).enterStage e.slot (.atPunch (.setup false)) none) := by
  rw [State.deliverAtPunch, if_neg unknown, if_neg busy]

/-! ### The setups that wait their turn (R152) -/

/-- A change of a list's elements by which none comes to qualify, and one of them no longer does. -/
theorem countP_map_lt {q : TransitEntry → Bool} {f : TransitEntry → TransitEntry} {es : List TransitEntry}
    (still : ∀ x, q (f x) = true → q x = true) (mem : e ∈ es) (was : q e = true) (gone : ¬ q (f e) = true) :
    (es.map f).countP q < es.countP q := by
  obtain ⟨older, newer, rfl⟩ := List.append_of_mem mem
  have fewer : ∀ xs : List TransitEntry, (xs.map f).countP q ≤ xs.countP q := fun xs => by
    rw [List.countP_map]
    exact List.countP_mono_left fun x _ => still x
  have olderFewer := fewer older
  have newerFewer := fewer newer
  rw [List.map_append, List.map_cons, List.countP_append, List.countP_append, List.countP_cons_of_pos was,
    List.countP_cons_of_neg gone]
  omega

/-- How many entries of a line wait for their setup. -/
def Line.waitingSetups (ln : Line) : Nat := ln.transit.countP fun x => decide (x.stage = .atPunch (.setup false))

theorem Line.awaitingSetup_of_waitingSetups {ln : Line} (none_waits : ln.waitingSetups = 0) : ln.awaitingSetup = none :=
  Line.awaitingSetup_eq_none.mpr fun x hx => by simpa using List.countP_eq_zero.mp none_waits x hx

/-- An entry whose setup waited and that enters another stage waits no longer, and no other entry comes to wait. -/
theorem Line.waitingSetups_enterStage (ln : Line) (mem : e ∈ ln.transit) (waits : e.stage = .atPunch (.setup false))
    (goesOn : g ≠ .atPunch (.setup false)) (deadline : Option Nat) :
    (ln.enterStage e.slot g deadline).waitingSetups < ln.waitingSetups := by
  refine countP_map_lt (fun x waiting => ?_) mem (decide_eq_true waits) ?_
  · split at waiting
    · exact absurd (of_decide_eq_true waiting) goesOn
    · exact waiting
  · rw [if_pos rfl]
    simpa using goesOn

theorem State.sendGo_line (s : State) (l : LineId) (p : Slot) : (s.sendGo l p).line l =
    (s.line l).enterStage p (.atPunch .work) (some (s.line l).config.tPb) := s.line_setLine_self l _

theorem State.sendSetup_line (s : State) (l : LineId) (e : TransitEntry) : (s.sendSetup l e).line l =
    { (s.line l).enterStage e.slot (.atPunch (.setup true)) (some (s.line l).config.tSetup) with stationProfile := none } :=
  s.line_setLine_self l _

/-- After a PB_SETUP it is unanswered. -/
theorem State.sendSetup_inSetup (mem : e ∈ (s.line l).transit) : ((s.sendSetup l e).line l).inSetup ≠ none := by
  rw [State.sendSetup_line, ne_eq, Line.inSetup_eq_none, not_not]
  exact ⟨_, List.mem_map_of_mem mem, by rw [if_pos rfl]⟩

/-- While no PB_SETUP is unanswered, an entry whose setup waits is dealt with for good. -/
theorem State.deliverAtPunch_waitingSetups (free : (s.line l).inSetup = none) (first : (s.line l).awaitingSetup = some e) :
    ((s.deliverAtPunch l e).line l).waitingSetups < (s.line l).waitingSetups := by
  obtain ⟨mem, waits⟩ := find?_stage_eq_some first
  by_cases known : (s.line l).stationProfile = some e.profile
  · rw [State.deliverAtPunch_known known, State.sendGo_line]
    exact Line.waitingSetups_enterStage _ mem waits (by decide) _
  · rw [State.deliverAtPunch_setsUp known free, State.sendSetup_line]
    exact Line.waitingSetups_enterStage _ mem waits (by decide) _

theorem State.serveSetups_rests (n : Nat) (rests : (s.line l).inSetup ≠ none ∨ (s.line l).awaitingSetup = none) :
    s.serveSetups n l = s := by
  cases n with
  | zero => rfl
  | succ n =>
    unfold State.serveSetups
    split
    · rename_i free first
      rw [free, first] at rests
      exact absurd rests (by simp)
    · rfl

theorem State.serveSetups_serves (n : Nat) (free : (s.line l).inSetup = none)
    (first : (s.line l).awaitingSetup = some e) : s.serveSetups (n + 1) l = (s.deliverAtPunch l e).serveSetups n l := by
  rw [State.serveSetups, free, first]

/-- A setup is dealt with, or there is none to deal with. -/
theorem State.serveSetups_cases (s : State) (l : LineId) :
    (∃ e, (s.line l).inSetup = none ∧ (s.line l).awaitingSetup = some e)
    ∨ (s.line l).inSetup ≠ none ∨ (s.line l).awaitingSetup = none := by
  by_cases free : (s.line l).inSetup = none
  · cases first : (s.line l).awaitingSetup with
    | none => exact .inr (.inr rfl)
    | some e => exact .inl ⟨e, free, rfl⟩
  · exact .inr (.inl free)

/-- Rounds beyond one for each entry that waits change nothing. -/
theorem State.serveSetups_enough {n : Nat} (enough : (s.line l).waitingSetups ≤ n) :
    s.serveSetups (n + 1) l = s.serveSetups n l := by
  induction n generalizing s with
  | zero =>
    have none_waits := Line.awaitingSetup_of_waitingSetups (Nat.le_zero.mp enough)
    exact State.serveSetups_rests 1 (.inr none_waits)
  | succ n ih =>
    obtain ⟨e, free, first⟩ | rests := s.serveSetups_cases l
    · have fewer := State.deliverAtPunch_waitingSetups free first
      rw [State.serveSetups_serves _ free first, State.serveSetups_serves _ free first, ih (by omega)]
    · rw [State.serveSetups_rests _ rests, State.serveSetups_rests _ rests]

/-- With a round for each entry that waits, the setups are dealt with until a PB_SETUP is sent or none waits. -/
theorem State.serveSetups_done {n : Nat} (enough : (s.line l).waitingSetups ≤ n) :
    ((s.serveSetups n l).line l).inSetup ≠ none ∨ ((s.serveSetups n l).line l).awaitingSetup = none := by
  induction n generalizing s with
  | zero => exact .inr (Line.awaitingSetup_of_waitingSetups (Nat.le_zero.mp enough))
  | succ n ih =>
    obtain ⟨e, free, first⟩ | rests := s.serveSetups_cases l
    · have fewer := State.deliverAtPunch_waitingSetups free first
      rw [State.serveSetups_serves _ free first]
      exact ih (by omega)
    · rw [State.serveSetups_rests _ rests]
      exact rests

/-! ### PB_SETUP_DONE, PB_DONE and PB_FAULT (R152 to R154) -/

theorem State.takeSetupDone_ignored
    (ignored : (s.line l).mode = .faulted ∨ ∀ x ∈ (s.line l).transit, x.stage ≠ .atPunch (.setup true)) :
    s.takeSetupDone l = s := by
  by_cases faulted : (s.line l).mode = .faulted
  · exact if_pos faulted
  · have unasked : (s.line l).inSetup = none := find?_stage_eq_none.mpr (ignored.resolve_left faulted)
    rw [State.takeSetupDone, if_neg faulted, unasked]

theorem State.takeSetupDone_done (running : (s.line l).mode ≠ .faulted) (asked : (s.line l).inSetup = some e) :
    s.takeSetupDone l = s.setupDone l e := by
  rw [State.takeSetupDone, if_neg running, asked]

/-- The work begins with the station profile known (R147, R152). -/
theorem State.setupDone_eq (s : State) (l : LineId) (e : TransitEntry) : s.setupDone l e =
    ((s.setLine l
      { (s.line l).enterStage e.slot (.atPunch .work) (some (s.line l).config.tPb) with
        stationProfile := some e.profile }).send l .pbGo).serveSetups 6 l := by
  rw [State.setupDone, State.sendGo, State.line_setLine_self, State.setLine_setLine]
  rfl

theorem State.takeDone_ignored
    (ignored : (s.line l).mode = .faulted ∨ ∀ x ∈ (s.line l).transit, x.stage ≠ .atPunch .work) : s.takeDone l = s := by
  by_cases faulted : (s.line l).mode = .faulted
  · exact if_pos faulted
  · have idle : (s.line l).oldestWorking = none := find?_stage_eq_none.mpr (ignored.resolve_left faulted)
    rw [State.takeDone, if_neg faulted, idle]

theorem State.takeDone_done (running : (s.line l).mode ≠ .faulted) (oldest : (s.line l).oldestWorking = some e) :
    s.takeDone l = s.setLine l ((s.line l).toSorter e.slot) := by
  rw [State.takeDone, if_neg running, oldest]

theorem State.takePunchFault_running (running : (s.line l).mode ≠ .faulted) : s.takePunchFault l =
    (s.setLine l { s.line l with stationProfile := none }).faultLine l .punchFault
      ((s.line l).oldestAtPunch.map TransitEntry.slot) := if_neg running

theorem State.takePunchFault_faulted (faulted : (s.line l).mode = .faulted) : s.takePunchFault l =
    s.report (faultReport l .punchFault ((s.line l).oldestAtPunch.map TransitEntry.slot)) :=
  (if_pos faulted).trans (State.faultLine_faulted s l _ _ faulted)

/-- What a command ends with changes a line in its queue, its exposure, its Composer and its feed buffer alone. -/
theorem State.finish_line (s : State) (l : LineId) : s.finish.line l = { s.line l with
    queue := (s.finish.line l).queue, exposure := (s.finish.line l).exposure
    composer := (s.finish.line l).composer, feed := (s.finish.line l).feed } :=
  Line.eq_of_standing (s.finish_dispatched.line l)

/-- After a fault event that stopped a line, and what the command ends with, the line is FAULTED with the cause. -/
theorem State.finish_faultLine_line (running : (s.line l).mode ≠ .faulted) (c : Cause) (o : Option Slot) :
    ((s.faultLine l c o).finish.line l).mode = .faulted ∧ ((s.faultLine l c o).finish.line l).faultCause = some c
    ∧ ((s.faultLine l c o).finish.line l).fitted = (s.line l).fitted := by
  rw [State.finish_line, State.faultLine_line running, if_pos rfl]
  exact ⟨rfl, rfl, rfl⟩

end

/-- Settles O49: the answer by the line and the entry it is matched to; then, a round for each setup that waits being
enough, the setups one by one. -/
theorem setupsAreDone : Obligations.SetupsAreDone := by
  intro s l fitted
  rw [exec_pbSetupDone fitted]
  have enough : (s.line l).transit.length ≤ 6 → (s.line l).waitingSetups ≤ 6 := List.countP_le_length.trans
  refine ⟨fun ignored => ?_, fun e older newer running split before stage => ?_, fun length _ => ?_, fun length => ?_⟩
  · rw [State.takeSetupDone_ignored ignored]
  · rw [State.takeSetupDone_done running (find?_stage_oldest split before stage), State.setupDone_eq]
    rfl
  · refine (State.serveSetups_done (enough length)).imp (fun busy => ?_) Line.awaitingSetup_eq_none.mp
    rwa [ne_eq, Line.inSetup_eq_none, not_not] at busy
  · intro busy
    refine ⟨fun rests => State.serveSetups_rests 6 (rests.imp ?_ Line.awaitingSetup_eq_none.mpr),
      fun e older newer free split before waits => ?_⟩
    · rw [ne_eq, Line.inSetup_eq_none, not_not]
      exact id
    · have noneAsked : (s.line l).inSetup = none := Line.inSetup_eq_none.mpr free
      have first : (s.line l).awaitingSetup = some e := find?_stage_oldest split before waits
      have fewer := State.deliverAtPunch_waitingSetups noneAsked first
      intro moved f
      rw [State.serveSetups_serves 5 noneAsked first]
      refine ⟨fun known => ?_, fun unknown => ?_⟩
      · have left := enough length
        rw [State.deliverAtPunch_known known] at fewer ⊢
        exact (State.serveSetups_enough (by omega)).symm
      · obtain ⟨mem, -⟩ := find?_stage_eq_some first
        rw [State.deliverAtPunch_setsUp unknown noneAsked, State.serveSetups_rests 5 (.inl (State.sendSetup_inSetup mem))]
        rfl

/-- Settles O50: each report by the line's state and the entry it is matched to; an expiry of the WORK deadline faults the
line, which then ignores PB_DONE. -/
theorem punchReportsAreTaken : Obligations.PunchReportsAreTaken := by
  refine ⟨fun s l fitted => ⟨fun ignored => ?_, fun e older newer split before stage =>
    ⟨fun running => ?_, fun running first deadline => ?_⟩⟩, fun s l p fitted slot => ?_⟩
  · rw [exec_pbDone fitted, State.takeDone_ignored ignored]
  · rw [exec_pbDone fitted, State.takeDone_done running (find?_stage_oldest split before stage), Line.toSorter_eq]
    rfl
  · have entry : (s.line l).entryOf e.slot = some e :=
      find?_oldest split (fun x hx => decide_eq_false (first x hx)) (decide_eq_true rfl)
    obtain ⟨faulted, cause, port⟩ := State.finish_faultLine_line running .missing (some e.slot)
    refine ⟨(s.faultLine l .missing (some e.slot)).finish, ?_, faulted, cause, ?_⟩
    · rw [exec_deadlineExpiry_runs entry deadline, stage]
      rfl
    · rw [exec_pbDone (port.trans fitted), State.takeDone_ignored (.inl faulted)]
  · have slot : p = (s.line l).oldestAtPunch.map TransitEntry.slot := slot
    subst slot
    rw [exec_pbFault fitted]
    refine ⟨fun running => ?_, fun faulted => ?_⟩
    · rw [State.takePunchFault_running running]
      rfl
    · rw [State.takePunchFault_faulted faulted]
      rfl

/-- Settles O48: the arrival by the line, the mark and the route. -/
theorem arrivalsAreMatched : Obligations.ArrivalsAreMatched := by
  intro s l mark fitted
  rw [exec_pbArrival mark fitted]
  refine ⟨fun phantom => ?_, fun e older newer running split before stage => ?_⟩
  · rw [State.takeArrival_phantom phantom]
  rw [State.takeArrival_matched running (find?_stage_oldest split before stage)]
  intro f
  refine ⟨fun m check read other => ?_, fun check unread => ?_, fun accepted => ?_, ?_⟩
  · rw [read, State.matchArrival_mismatch check other]
  · rw [unread, State.matchArrival_unread check]
    rfl
  · rw [State.matchArrival_accepts accepted]
  · intro moved sent busy waits
    refine ⟨fun reject waiting => ?_, fun reject clear => ?_, fun deliver known => ?_, fun deliver unknown free => ?_,
      fun deliver unknown asked => ?_⟩
    · rw [State.acceptArrival_passes reject, Line.toSorter_eq, if_pos waiting]
      rfl
    · rw [State.acceptArrival_passes reject, Line.toSorter_eq, if_neg clear]
      rfl
    · rw [State.acceptArrival_delivers deliver, State.deliverAtPunch_known known]
      rfl
    · rw [State.acceptArrival_delivers deliver, State.deliverAtPunch_setsUp unknown (Line.inSetup_eq_none.mpr free)]
      rfl
    · rw [State.acceptArrival_delivers deliver,
        State.deliverAtPunch_waits unknown fun none_asked => Line.inSetup_eq_none.mp none_asked asked]
      show _ = { s with lines := _, out := s.out ++ [] }
      rw [List.append_nil]
      rfl

end Sys2Proof.Machine
end

section
/-! SUPPORT. The sorter's arrivals (R161, R162): the entry that a message is matched to, and what becomes of it. -/

namespace Sys2Proof.Machine

/-! ### The entry that entered its stage first (R148) -/

section
variable {q : TransitEntry → Bool} {es : List TransitEntry} {e : TransitEntry} {b : BinId} {ln : Line}

theorem earliest_eq_argmin (q : TransitEntry → Bool) (es : List TransitEntry) :
    earliest q es = (es.filter q).argmin TransitEntry.since := by
  unfold earliest List.argmin List.argAux
  congr 1
  funext best e
  cases best <;> rfl

theorem earliest_eq_none : earliest q es = none ↔ ∀ x ∈ es, ¬ q x = true := by
  rw [earliest_eq_argmin, List.argmin_eq_none, List.filter_eq_nil_iff]

/-- An entry that entered its stage before every other one that qualifies is the earliest. -/
theorem earliest_oldest (mem : e ∈ es) (here : q e = true)
    (first : ∀ x ∈ es, q x = true → x = e ∨ e.since < x.since) : earliest q es = some e := by
  have listed : e ∈ es.filter q := List.mem_filter.mpr ⟨mem, here⟩
  rw [earliest_eq_argmin]
  cases least : (es.filter q).argmin TransitEntry.since with
  | none => exact absurd (List.argmin_eq_none.mp least ▸ listed) List.not_mem_nil
  | some m =>
    obtain ⟨memM, hereM⟩ := List.mem_filter.mp (List.argmin_mem least)
    have notLater : m.since ≤ e.since := List.le_of_mem_argmin listed least
    rw [(first m memM hereM).resolve_right (Nat.not_lt.mpr notLater)]

theorem Line.oldestToSorter_eq_none : ln.oldestToSorter = none ↔ ∀ x ∈ ln.transit, x.stage ≠ .toSorter := by
  simp only [Line.oldestToSorter, earliest_eq_none, decide_eq_true_eq, ne_eq]

theorem Line.oldestToSorter_eq (mem : e ∈ ln.transit) (stage : e.stage = .toSorter)
    (first : ∀ x ∈ ln.transit, x.stage = .toSorter → x = e ∨ e.since < x.since) : ln.oldestToSorter = some e :=
  earliest_oldest mem (decide_eq_true stage) fun x hx here => first x hx (of_decide_eq_true here)

theorem Line.oldestAtSorter_eq_none :
    ln.oldestAtSorter = none ↔ ∀ x ∈ ln.transit, ∀ b, x.stage ≠ .atSorter b := by
  simp only [Line.oldestAtSorter, earliest_eq_none, TransitEntry.routedBin_isSome, not_exists, ne_eq]

theorem Line.oldestAtSorter_eq (mem : e ∈ ln.transit) (stage : e.stage = .atSorter b)
    (first : ∀ x ∈ ln.transit, (∃ b', x.stage = .atSorter b') → x = e ∨ e.since < x.since) :
    ln.oldestAtSorter = some e :=
  earliest_oldest mem (e.routedBin_isSome.mpr ⟨b, stage⟩) fun x hx here =>
    first x hx (x.routedBin_isSome.mp here)

end

/-! ### SO_ARRIVAL (R161, R162) -/

section
variable {s : State} {l : LineId} {e : TransitEntry}

theorem exec_soArrival (fitted : (s.line l).fitted = true) :
    exec (.soArrival l) s = .next (s.takeSorterArrival l).finish := onLine_fitted s l (·.takeSorterArrival l) fitted

theorem Line.hasRoom_iff {ln : Line} {b : BinId} : ln.hasRoom b = true ↔
    (ln.bin b).closed = false ∧ (ln.bin b).count + ln.routedTo b < (ln.bin b).capacity := by
  rw [Line.hasRoom, Bool.and_eq_true, Bool.not_eq_true', decide_eq_true_iff]

theorem State.targetBin_eq (s : State) (e : TransitEntry) :
    s.targetBin e = if e.route = .deliver then (s.plate e.slot).load.dest else 0 := by
  unfold State.targetBin
  cases e.route with
  | deliver => exact (if_pos rfl).symm
  | reject c => exact (if_neg nofun).symm

theorem State.takeSorterArrival_phantom
    (phantom : (s.line l).mode = .faulted ∨ ∀ x ∈ (s.line l).transit, x.stage ≠ .toSorter) :
    s.takeSorterArrival l = s.faultLine l .phantom none := by
  by_cases faulted : (s.line l).mode = .faulted
  · exact if_pos faulted
  · have unmatched := Line.oldestToSorter_eq_none.mpr (phantom.resolve_left faulted)
    rw [State.takeSorterArrival, if_neg faulted, unmatched]

theorem State.takeSorterArrival_room (running : (s.line l).mode ≠ .faulted) (oldest : (s.line l).oldestToSorter = some e)
    (room : (s.line l).hasRoom (s.targetBin e) = true) :
    s.takeSorterArrival l = s.routeEntry l e.slot (s.targetBin e) := by
  rw [State.takeSorterArrival, if_neg running, oldest]
  exact if_pos room

theorem State.takeSorterArrival_full (running : (s.line l).mode ≠ .faulted) (oldest : (s.line l).oldestToSorter = some e)
    (full : (s.line l).hasRoom (s.targetBin e) = false) : s.takeSorterArrival l = s.waitForBin l e.slot := by
  rw [State.takeSorterArrival, if_neg running, oldest]
  exact if_neg (Bool.eq_false_iff.mp full)

end

end Sys2Proof.Machine
end

section
/-! SUPPORT. The routing of waiting plates (R163), plate by plate: which plates are sent on, what becomes of every entry, and
that no bin is given more than it holds. -/

namespace Sys2Proof.Machine

section
variable {s t u : State} {l : LineId} {e x : TransitEntry} {b c : BinId} {ln : Line}
  {tried rest : List TransitEntry} {sent : TransitEntry → Bool} {moved : TransitEntry → TransitEntry}

/-! ### What a routing touches -/

/-- The state with another transit list and stage clock of a line, and with other messages sent. -/
def State.withTransit (s : State) (l : LineId) (es : List TransitEntry) (clock : Nat) (out : List Output) : State :=
  { s with lines := s.lines.set l.val { s.line l with transit := es, stageClock := clock }, out := out }

/-- From `s` to `t` nothing has changed but the transit list and the stage clock of the line, and what has been sent. -/
def TransitOnly (l : LineId) (s t : State) : Prop :=
  t = s.withTransit l (t.line l).transit (t.line l).stageClock t.out

theorem State.withTransit_line (s : State) (l : LineId) (es : List TransitEntry) (clock : Nat) (out : List Output) :
    (s.withTransit l es clock out).line l = { s.line l with transit := es, stageClock := clock } :=
  s.line_setLine_self l _

theorem State.withTransit_withTransit (s : State) (l : LineId) (es es' : List TransitEntry) (clock clock' : Nat)
    (out out' : List Output) :
    (s.withTransit l es clock out).withTransit l es' clock' out' = s.withTransit l es' clock' out' := by
  rw [State.withTransit, State.withTransit_line]
  unfold State.withTransit
  simp only [Vector.set_set]

theorem State.withTransit_only (s : State) (l : LineId) (es : List TransitEntry) (clock : Nat) (out : List Output) :
    TransitOnly l s (s.withTransit l es clock out) := by
  rw [TransitOnly, State.withTransit_line]
  rfl

theorem TransitOnly.refl (l : LineId) (s : State) : TransitOnly l s s := (s.setLine_line_self l).symm

theorem TransitOnly.trans (h : TransitOnly l s t) (k : TransitOnly l t u) : TransitOnly l s u := by
  rw [TransitOnly] at h k
  rw [h, State.withTransit_withTransit] at k
  exact k

theorem TransitOnly.config (h : TransitOnly l s t) : (t.line l).config = (s.line l).config := by
  rw [h, State.withTransit_line]

theorem TransitOnly.targetBin (h : TransitOnly l s t) : t.targetBin = s.targetBin := by
  rw [h]
  rfl

/-- An entry routed: it is stamped by the stage clock, which rises by one. -/
theorem State.routeEntry_eq (s : State) (l : LineId) (p : Slot) (b : BinId) : s.routeEntry l p b =
    s.withTransit l ((s.line l).enterStage p (.atSorter b) (some (s.line l).config.tSo)).transit
      ((s.line l).stageClock + 1) (s.out ++ [.station l (.soRoute b)]) := rfl

theorem State.routeIfRoom_transitOnly (s : State) (l : LineId) (e : TransitEntry) : TransitOnly l s (s.routeIfRoom l e) := by
  unfold State.routeIfRoom
  split
  · rw [State.routeEntry_eq]
    exact s.withTransit_only l _ _ _
  · exact .refl l s

/-- An entry in TO_SORTER, with a fresh deadline where the deadlines resume (R163). -/
def TransitEntry.refreshed (resumes : Bool) (tSo : Nat) (e : TransitEntry) : TransitEntry :=
  if resumes = true ∧ e.stage = .toSorter then { e with deadline := some tSo } else e

theorem TransitEntry.refreshed_same (resumes : Bool) (tSo : Nat) (e : TransitEntry) :
    (e.refreshed resumes tSo).slot = e.slot ∧ (e.refreshed resumes tSo).stage = e.stage := by
  unfold TransitEntry.refreshed
  split <;> exact ⟨rfl, rfl⟩

theorem TransitEntry.refreshed_idle {resumes : Bool} {tSo : Nat} (idle : ¬ (resumes = true ∧ e.stage = .toSorter)) :
    e.refreshed resumes tSo = e := if_neg idle

/-- The deadlines resume when no entry of the line waits. -/
theorem Line.resumeDeadlines_refreshed (ln : Line) : ln.resumeDeadlines =
    { ln with transit := ln.transit.map (TransitEntry.refreshed (!ln.anyWaiting) ln.config.tSo) } := by
  unfold Line.resumeDeadlines
  split
  · rename_i waits
    have same : ∀ e ∈ ln.transit, e.refreshed (!ln.anyWaiting) ln.config.tSo = id e := fun e _ =>
      TransitEntry.refreshed_idle (by simp [waits])
    rw [List.map_congr_left same, List.map_id]
  · rename_i clear
    unfold TransitEntry.refreshed
    simp only [Bool.not_eq_true] at clear
    simp [clear]

theorem State.routeWaiting_faulted (faulted : (s.line l).mode = .faulted) : s.routeWaiting l = s :=
  if_pos (.inl faulted)

theorem State.routeWaiting_clear (clear : (s.line l).anyWaiting = false) : s.routeWaiting l = s := if_pos (.inr clear)

/-- The entries of a line that wait for a bin, oldest first. -/
def Line.waiters (ln : Line) : List TransitEntry := ln.transit.filter fun e => decide (e.stage = .waitingBin)

theorem Line.mem_waiters : e ∈ ln.waiters ↔ e ∈ ln.transit ∧ e.stage = .waitingBin := by
  simp only [Line.waiters, List.mem_filter, decide_eq_true_eq]

/-- The waiting entries of a line tried for room, one after the other. -/
def State.tryAll (s : State) (l : LineId) (es : List TransitEntry) : State := es.foldl (fun u e => u.routeIfRoom l e) s

theorem State.routeWaiting_waits (running : (s.line l).mode ≠ .faulted) (waits : (s.line l).anyWaiting = true) :
    s.routeWaiting l = (s.tryAll l (s.line l).waiters).setLine l
      ((s.tryAll l (s.line l).waiters).line l).resumeDeadlines :=
  if_neg (not_or.mpr ⟨running, by rw [waits]; decide⟩)

theorem State.tryAll_transitOnly (s : State) (l : LineId) (es : List TransitEntry) : TransitOnly l s (s.tryAll l es) :=
  List.foldlRecOn (motive := TransitOnly l s) es _ (.refl l s) fun _ hu e _ => hu.trans (State.routeIfRoom_transitOnly _ l e)

theorem State.routeWaiting_transitOnly (s : State) (l : LineId) : TransitOnly l s (s.routeWaiting l) := by
  by_cases faulted : (s.line l).mode = .faulted
  · rw [State.routeWaiting_faulted faulted]
    exact .refl l s
  · cases waits : (s.line l).anyWaiting with
    | false =>
      rw [State.routeWaiting_clear waits]
      exact .refl l s
    | true =>
      rw [State.routeWaiting_waits faulted waits, Line.resumeDeadlines_refreshed]
      exact (s.tryAll_transitOnly l _).trans (State.withTransit_only _ l _ _ _)

/-! ### A bin's capacity (R161) -/

/-- The plates that a bin holds and those routed to it are within its capacity. -/
def Line.Fits (ln : Line) (b : BinId) : Prop := (ln.bin b).count + ln.routedTo b ≤ (ln.bin b).capacity

/-- A change of a list's elements by which only those of `p` come to qualify. -/
theorem countP_map_le {q p : TransitEntry → Bool} {f : TransitEntry → TransitEntry}
    (new : ∀ x, q (f x) = true → q x = true ∨ p x = true) (es : List TransitEntry) :
    (es.map f).countP q ≤ es.countP q + es.countP p := by
  induction es with
  | nil => exact Nat.zero_le _
  | cons x es ih =>
    have head : (if q (f x) = true then 1 else 0) ≤ (if q x = true then 1 else 0) + if p x = true then 1 else 0 := by
      split
      · rcases new x ‹_› with old | more
        · rw [if_pos old]
          exact Nat.le_add_right 1 _
        · rw [if_pos more]
          exact Nat.le_add_left 1 _
      · exact Nat.zero_le _
    simp only [List.map_cons, List.countP_cons]
    omega

/-- An entry that enters a stage for a bin counts for this bin alone. -/
theorem Line.routedTo_enterStage_le (once : (ln.transit.map TransitEntry.slot).Nodup) (p : Slot) (c b : BinId)
    (deadline : Option Nat) :
    (ln.enterStage p (.atSorter c) deadline).routedTo b ≤ ln.routedTo b + if b = c then 1 else 0 := by
  have entries : ∀ x : TransitEntry,
      decide ((if x.slot = p then
        { x with stage := .atSorter c, deadline := deadline, since := ln.stageClock } else x).stage = .atSorter b) = true →
      decide (x.stage = .atSorter b) = true ∨ decide (x.slot = p ∧ b = c) = true := fun x routed => by
    split at routed
    · exact .inr (decide_eq_true ⟨‹_›, (Stage.atSorter.inj (of_decide_eq_true routed)).symm⟩)
    · exact .inl routed
  refine (countP_map_le entries ln.transit).trans (Nat.add_le_add_left ?_ _)
  split
  · rename_i same
    have slots : ln.transit.countP (fun x => decide (x.slot = p ∧ b = c)) = (ln.transit.map TransitEntry.slot).count p := by
      simp [List.count, List.countP_map, Function.comp_def, same, beq_eq_decide]
    rw [slots]
    exact List.nodup_iff_count_le_one.mp once p
  · rename_i other
    simp [other]

/-- A plate is routed to a bin only where there is room for it. -/
theorem State.routeIfRoom_fits (once : ((s.line l).transit.map TransitEntry.slot).Nodup) (e : TransitEntry)
    (fits : (s.line l).Fits b) : ((s.routeIfRoom l e).line l).Fits b := by
  unfold State.routeIfRoom
  split
  · rename_i room
    have more := Line.routedTo_enterStage_le once e.slot (s.targetBin e) b (some (s.line l).config.tSo)
    have line : (s.routeEntry l e.slot (s.targetBin e)).line l =
        (s.line l).enterStage e.slot (.atSorter (s.targetBin e)) (some (s.line l).config.tSo) := s.line_setLine_self l _
    obtain ⟨-, below⟩ := Line.hasRoom_iff.mp room
    rw [line]
    refine (Nat.add_le_add_left more _).trans ?_
    split
    · rename_i target
      rw [target]
      exact below
    · exact fits
  · exact fits

theorem State.routeIfRoom_slots (s : State) (l : LineId) (e : TransitEntry) :
    ((s.routeIfRoom l e).line l).transit.map TransitEntry.slot = (s.line l).transit.map TransitEntry.slot := by
  unfold State.routeIfRoom
  split
  · rw [State.routeEntry_eq, State.withTransit_line]
    exact Line.enterStage_slots _ _ _ _
  · rfl

/-- No bin that was within its capacity is given more than it holds (R161, R163). -/
theorem State.routeWaiting_fits (once : ((s.line l).transit.map TransitEntry.slot).Nodup) (fits : (s.line l).Fits b) :
    ((s.routeWaiting l).line l).Fits b := by
  by_cases faulted : (s.line l).mode = .faulted
  · rwa [State.routeWaiting_faulted faulted]
  cases waits : (s.line l).anyWaiting with
  | false => rwa [State.routeWaiting_clear waits]
  | true =>
    obtain ⟨-, tried⟩ : (((s.tryAll l (s.line l).waiters).line l).transit.map TransitEntry.slot).Nodup
        ∧ ((s.tryAll l (s.line l).waiters).line l).Fits b :=
      List.foldlRecOn (motive := fun u : State => ((u.line l).transit.map TransitEntry.slot).Nodup ∧ (u.line l).Fits b)
        _ _ ⟨once, fits⟩ fun u ⟨onceU, fitsU⟩ e _ => by
          exact ⟨by rwa [State.routeIfRoom_slots], State.routeIfRoom_fits onceU e fitsU⟩
    rw [State.routeWaiting_waits faulted waits, State.line_setLine_self, Line.resumeDeadlines_refreshed]
    have same : (fun e : TransitEntry => decide (e.stage = .atSorter b)) ∘
        (TransitEntry.refreshed (!((s.tryAll l (s.line l).waiters).line l).anyWaiting)
          ((s.tryAll l (s.line l).waiters).line l).config.tSo) = fun e => decide (e.stage = .atSorter b) := by
      funext e
      simp only [Function.comp_apply, (TransitEntry.refreshed_same _ _ e).2]
    unfold Line.Fits Line.routedTo
    rw [List.countP_map, same]
    exact tried

/-! ### Which plates are routed, and what becomes of every entry (R163) -/

/-- An entry as its SO_ROUTE leaves it (R162). -/
def TransitEntry.sentTo (e : TransitEntry) (b : BinId) (tSo clock : Nat) : TransitEntry :=
  { e with stage := .atSorter b, deadline := some tSo, since := clock }

/-- Of the waiting entries `tried`, in the order of the list, those of `sent` are routed; every other entry is left. -/
structure State.Sends (s : State) (l : LineId) (tried : List TransitEntry) (sent : TransitEntry → Bool)
    (moved : TransitEntry → TransitEntry) : Prop where
  only : ∀ e, sent e = true → e ∈ tried
  goes : ∀ e, sent e = true → moved e = e.sentTo (s.targetBin e) (s.line l).config.tSo (moved e).since
    ∧ (s.line l).stageClock ≤ (moved e).since
  stays : ∀ e, sent e = false → moved e = e
  fifo : tried.Pairwise fun e e' => s.targetBin e = s.targetBin e' → sent e' = true → sent e = true

/-- From `s` the entries `tried` have been tried for room and no others: so the line has come to be as it is in `u`. -/
structure State.Routing (s : State) (l : LineId) (tried : List TransitEntry) (sent : TransitEntry → Bool)
    (moved : TransitEntry → TransitEntry) (u : State) : Prop extends s.Sends l tried sent moved where
  frame : TransitOnly l s u
  transit : (u.line l).transit = (s.line l).transit.map moved
  out : u.out = s.out ++ (tried.filter sent).map fun e => .station l (.soRoute (s.targetBin e))
  clock : (s.line l).stageClock ≤ (u.line l).stageClock

theorem State.Sends.slot (h : s.Sends l tried sent moved) (e : TransitEntry) : (moved e).slot = e.slot := by
  cases sends : sent e with
  | true =>
    rw [(h.goes e sends).1]
    rfl
  | false => rw [h.stays e sends]

theorem State.Routing.start (s : State) (l : LineId) : s.Routing l [] (fun _ => false) id s where
  only _ := nofun
  goes _ := nofun
  stays _ _ := rfl
  fifo := .nil
  frame := .refl l s
  transit := (List.map_id _).symm
  out := (List.append_nil _).symm
  clock := le_refl _

/-- One more entry is tried, and left. -/
theorem State.Sends.refuse (h : s.Sends l tried sent moved) (fresh : e ∉ tried) : s.Sends l (tried ++ [e]) sent moved := by
  obtain ⟨only, goes, stays, fifo⟩ := h
  refine ⟨fun x sends => List.mem_append_left _ (only x sends), goes, stays, ?_⟩
  exact List.pairwise_append.mpr ⟨fifo, List.pairwise_singleton _ _, fun x _ y hy _ sends =>
    absurd (only e (List.mem_singleton.mp hy ▸ sends)) fresh⟩

/-- One more entry is tried, and routed, those of its bin before it having been routed. -/
theorem State.Sends.route (h : s.Sends l tried sent moved) (fresh : e ∉ tried) {n : Nat} (clock : (s.line l).stageClock ≤ n)
    (before : ∀ x ∈ tried, s.targetBin x = s.targetBin e → sent x = true) :
    s.Sends l (tried ++ [e]) (Function.update sent e true)
      (Function.update moved e (e.sentTo (s.targetBin e) (s.line l).config.tSo n)) := by
  obtain ⟨only, goes, stays, fifo⟩ := h
  have others : ∀ x ∈ tried, Function.update sent e true x = sent x := fun x hx =>
    Function.update_of_ne (ne_of_mem_of_not_mem hx fresh) _ _
  refine ⟨fun x sends => ?_, fun x sends => ?_, fun x unsent => ?_, ?_⟩
  · by_cases same : x = e
    · exact List.mem_append_right _ (List.mem_singleton.mpr same)
    · rw [Function.update_of_ne same] at sends
      exact List.mem_append_left _ (only x sends)
  · by_cases same : x = e
    · subst same
      rw [Function.update_self]
      exact ⟨rfl, clock⟩
    · rw [Function.update_of_ne same] at sends ⊢
      exact goes x sends
  · have other : x ≠ e := fun same => by simp [same] at unsent
    rw [Function.update_of_ne other] at unsent ⊢
    exact stays x unsent
  · refine List.pairwise_append.mpr ⟨?_, List.pairwise_singleton _ _, fun x hx y hy bin _ => ?_⟩
    · refine fifo.imp_of_mem fun {x y} hx hy first => ?_
      rwa [others x hx, others y hy]
    · rw [others x hx]
      exact before x hx (by rw [bin, List.mem_singleton.mp hy])

/-- An entry that finds no room is left. -/
theorem State.Routing.refuse (h : s.Routing l tried sent moved u) (fresh : e ∉ tried)
    (full : (u.line l).hasRoom (s.targetBin e) = false) : s.Routing l (tried ++ [e]) sent moved (u.routeIfRoom l e) := by
  have left : u.routeIfRoom l e = u := if_neg (by rw [h.frame.targetBin, full]; decide)
  have unsent : ¬ sent e = true := fun sends => fresh (h.only e sends)
  have filtered : (tried ++ [e]).filter sent = tried.filter sent := by
    rw [List.filter_append, List.filter_cons_of_neg unsent, List.filter_nil, List.append_nil]
  rw [left]
  exact { h.toSends.refuse fresh with frame := h.frame, transit := h.transit, out := by rw [filtered, h.out], clock := h.clock }

/-- An entry that finds room is routed. -/
theorem State.Routing.route (h : s.Routing l tried sent moved u) (fresh : e ∉ tried)
    (once : ((s.line l).transit.map TransitEntry.slot).Nodup) (mem : e ∈ (s.line l).transit)
    (room : (u.line l).hasRoom (s.targetBin e) = true)
    (before : ∀ x ∈ tried, s.targetBin x = s.targetBin e → sent x = true) :
    s.Routing l (tried ++ [e]) (Function.update sent e true)
      (Function.update moved e (e.sentTo (s.targetBin e) (s.line l).config.tSo (u.line l).stageClock))
      (u.routeIfRoom l e) := by
  have sends := h.toSends.route fresh h.clock before
  have goesOn : u.routeIfRoom l e = u.routeEntry l e.slot (s.targetBin e) := by
    rw [State.routeIfRoom, h.frame.targetBin, if_pos room]
  refine { sends with frame := h.frame.trans (u.routeIfRoom_transitOnly l e), transit := ?_, out := ?_, clock := ?_ }
  all_goals rw [goesOn, State.routeEntry_eq]
  · rw [State.withTransit_line]
    show (u.line l).transit.map _ = _
    rw [h.transit, h.frame.config, List.map_map]
    refine List.map_congr_left fun x hx => ?_
    show (if (moved x).slot = e.slot then (moved x).sentTo _ _ _ else moved x) = _
    by_cases same : x = e
    · subst same
      have unsent : sent x = false := Bool.eq_false_iff.mpr fun sends => fresh (h.only x sends)
      rw [Function.update_self, if_pos (h.slot x), h.stays x unsent]
    · have other : (moved x).slot ≠ e.slot := by
        rw [h.slot]
        exact fun slot => same (TransitEntry.eq_of_slot once hx mem slot)
      rw [Function.update_of_ne same, if_neg other]
  · have filtered : (tried ++ [e]).filter (Function.update sent e true) = tried.filter sent ++ [e] := by
      rw [List.filter_append, List.filter_singleton, Function.update_self]
      exact congrArg (· ++ [e]) (List.filter_congr fun x hx => Function.update_of_ne (ne_of_mem_of_not_mem hx fresh) _ _)
    rw [filtered, List.map_append, ← List.append_assoc, ← h.out]
    rfl
  · rw [State.withTransit_line]
    exact h.clock.trans (Nat.le_succ _)

/-- The waiting entries that are left are tried, oldest first. A plate for whose bin there is room finds none left behind that
waits for the same bin. -/
theorem State.Routing.all (once : ((s.line l).transit.map TransitEntry.slot).Nodup)
    (h : s.Routing l tried sent moved u) (trying : u.Trying l rest) (whole : tried ++ rest = (s.line l).waiters) :
    ∃ sent moved, s.Routing l (s.line l).waiters sent moved (u.tryAll l rest) := by
  induction rest generalizing tried sent moved u with
  | nil =>
    rw [List.append_nil] at whole
    exact ⟨sent, moved, whole ▸ h⟩
  | cons e rest ih =>
    have waiters : ∀ x ∈ tried ++ e :: rest, x ∈ (s.line l).transit ∧ x.stage = .waitingBin := fun x hx =>
      Line.mem_waiters.mp (whole ▸ hx)
    have nodup : (tried ++ e :: rest).Nodup := by
      rw [whole]
      exact once.of_map.filter _
    have apart := List.disjoint_of_nodup_append nodup
    have fresh : e ∉ tried := fun hx => apart hx List.mem_cons_self
    have onward : tried ++ [e] ++ rest = (s.line l).waiters := by rw [← whole, List.append_assoc]; rfl
    cases room : (u.line l).hasRoom (s.targetBin e) with
    | false => exact ih (h.refuse fresh room) trying.step onward
    | true =>
      have mem := (waiters e (List.mem_append_right _ List.mem_cons_self)).1
      refine ih (h.route fresh once mem room fun x hx bin => ?_) trying.step onward
      obtain ⟨mem, waits⟩ := waiters x (List.mem_append_left _ hx)
      by_contra left
      have here : x ∈ (u.line l).transit := by
        rw [h.transit]
        exact List.mem_map.mpr ⟨x, mem, h.stays x (Bool.eq_false_iff.mpr left)⟩
      have full := (trying.tried x here waits).resolve_left fun later => apart hx later
      rw [h.frame.targetBin, bin, room] at full
      cases full

theorem State.tryAll_routing (once : ((s.line l).transit.map TransitEntry.slot).Nodup) :
    ∃ sent moved, s.Routing l (s.line l).waiters sent moved (s.tryAll l (s.line l).waiters) :=
  State.Routing.all once (.start s l) (.start once) (List.nil_append _)

/-! ### The line after the routing -/

/-- From `s` to `t` the line's waiting plates have been routed: those of `sent`, each entry going over to what `moved` says, and
the deadlines of TO_SORTER have been given afresh if the line `resumes`. -/
structure State.Routed (s : State) (l : LineId) (sent : TransitEntry → Bool) (moved : TransitEntry → TransitEntry)
    (resumes : Bool) (t : State) : Prop extends s.Sends l (s.line l).waiters sent moved where
  transit : (t.line l).transit = (s.line l).transit.map fun e => (moved e).refreshed resumes (s.line l).config.tSo
  out : t.out = s.out ++ ((s.line l).waiters.filter sent).map fun e => .station l (.soRoute (s.targetBin e))
  resumed : resumes = true ↔ (s.line l).anyWaiting = true ∧ (t.line l).anyWaiting = false

theorem Line.waiters_eq_nil (clear : ln.anyWaiting = false) : ln.waiters = [] :=
  List.filter_eq_nil_iff.mpr (List.any_eq_false.mp clear)

theorem anyWaiting_refreshed (resumes : Bool) (tSo : Nat) (ln : Line) :
    Line.anyWaiting { ln with transit := ln.transit.map (TransitEntry.refreshed resumes tSo) } = ln.anyWaiting := by
  unfold Line.anyWaiting
  simp only [List.any_map, Function.comp_def, (TransitEntry.refreshed_same _ _ _).2]

theorem State.routeWaiting_routed (running : (s.line l).mode ≠ .faulted)
    (once : ((s.line l).transit.map TransitEntry.slot).Nodup) :
    ∃ sent moved resumes, s.Routed l sent moved resumes (s.routeWaiting l) := by
  cases waits : (s.line l).anyWaiting with
  | false =>
    have start := Line.waiters_eq_nil waits ▸ (State.Routing.start s l)
    refine ⟨_, _, false, { start.toSends with transit := ?_, out := ?_, resumed := ?_ }⟩
    all_goals rw [State.routeWaiting_clear waits]
    · exact start.transit.trans (List.map_congr_left fun e _ =>
        (TransitEntry.refreshed_idle (e := e) fun on => Bool.false_ne_true on.1).symm)
    · exact start.out
    · rw [waits]
      exact iff_of_false Bool.false_ne_true fun both => Bool.false_ne_true both.1
  | true =>
    obtain ⟨sent, moved, h⟩ := State.tryAll_routing once
    refine ⟨sent, moved, !((s.tryAll l (s.line l).waiters).line l).anyWaiting,
      { h.toSends with transit := ?_, out := ?_, resumed := ?_ }⟩
    all_goals rw [State.routeWaiting_waits running waits]
    · rw [State.line_setLine_self, Line.resumeDeadlines_refreshed, h.frame.config]
      show ((s.tryAll l _).line l).transit.map _ = _
      rw [h.transit, List.map_map]
      rfl
    · exact h.out
    · rw [State.line_setLine_self, Line.resumeDeadlines_refreshed, anyWaiting_refreshed, waits, eq_self, true_and,
        Bool.not_eq_true']

/-- An entry that waited and that the list `after` no longer shows waiting. -/
def TransitEntry.leftWaiting (after : List TransitEntry) (e : TransitEntry) : Bool :=
  decide (e.stage = .waitingBin) && !after.any fun x => decide (x.slot = e.slot ∧ x.stage = .waitingBin)

theorem State.Sends.waits_iff (h : s.Sends l tried sent moved) :
    (moved e).stage = .waitingBin ↔ e.stage = .waitingBin ∧ sent e = false := by
  cases sends : sent e with
  | true =>
    rw [(h.goes e sends).1]
    exact iff_of_false nofun fun both => nomatch both.2
  | false => rw [h.stays e sends, eq_self, and_true]

variable {resumes : Bool} {i j : Nat} {e' : TransitEntry}

/-- The plates routed are those that wait no longer. -/
theorem State.Routed.leftWaiting (h : s.Routed l sent moved resumes t)
    (once : ((s.line l).transit.map TransitEntry.slot).Nodup) (mem : e ∈ (s.line l).transit) :
    e.leftWaiting (t.line l).transit = sent e := by
  have shown : ((t.line l).transit.any fun x => decide (x.slot = e.slot ∧ x.stage = .waitingBin)) = true ↔
      (moved e).stage = .waitingBin := by
    simp only [h.transit, List.any_map, List.any_eq_true, Function.comp_apply, (TransitEntry.refreshed_same _ _ _).1,
      (TransitEntry.refreshed_same _ _ _).2, h.slot, decide_eq_true_eq]
    refine ⟨fun ⟨y, hy, slot, stage⟩ => ?_, fun stage => ⟨e, mem, rfl, stage⟩⟩
    rwa [TransitEntry.eq_of_slot once hy mem slot] at stage
  rw [Bool.eq_iff_iff, TransitEntry.leftWaiting, Bool.and_eq_true, Bool.not_eq_true', Bool.eq_false_iff, ne_eq, shown,
    h.waits_iff, decide_eq_true_eq, not_and, Bool.not_eq_false]
  refine ⟨fun ⟨waits, sends⟩ => sends waits, fun sends => ⟨?_, fun _ => sends⟩⟩
  exact (Line.mem_waiters.mp (h.only e sends)).2

theorem State.Routed.resumes_iff (h : s.Routed l sent moved resumes t) : resumes = true ↔
    (∃ x ∈ (s.line l).transit, x.stage = .waitingBin) ∧ ∀ x ∈ (t.line l).transit, x.stage ≠ .waitingBin := by
  rw [h.resumed, Line.anyWaiting_iff, Bool.eq_false_iff, ne_eq, Line.anyWaiting_iff]
  simp only [not_exists, not_and, ne_eq]

/-- The entries before and after stand in the same places. -/
theorem State.Routed.entry (h : s.Routed l sent moved resumes t) (before : (s.line l).transit[i]? = some e)
    (after : (t.line l).transit[i]? = some x) : x = (moved e).refreshed resumes (s.line l).config.tSo := by
  rw [h.transit, List.getElem?_map, before] at after
  exact (Option.some.inj after).symm

theorem State.Routed.entry_sent (h : s.Routed l sent moved resumes t) (before : (s.line l).transit[i]? = some e)
    (after : (t.line l).transit[i]? = some x) (sends : sent e = true) :
    x = e.sentTo (s.targetBin e) (s.line l).config.tSo x.since ∧ (s.line l).stageClock ≤ x.since := by
  have goes := h.goes e sends
  have idle : ¬ (resumes = true ∧ (moved e).stage = .toSorter) := by
    rw [goes.1]
    exact fun both => nomatch both.2
  rw [h.entry before after, TransitEntry.refreshed_idle idle]
  exact goes

theorem State.Routed.entry_resumed (h : s.Routed l sent moved resumes t) (before : (s.line l).transit[i]? = some e)
    (after : (t.line l).transit[i]? = some x) (on : resumes = true) (stage : e.stage = .toSorter) :
    x = { e with deadline := some (s.line l).config.tSo } := by
  have unsent : sent e = false := Bool.eq_false_iff.mpr fun sends => by
    obtain ⟨-, waits⟩ := Line.mem_waiters.mp (h.only e sends)
    cases stage.symm.trans waits
  rw [h.entry before after, h.stays e unsent]
  exact if_pos ⟨on, stage⟩

theorem State.Routed.entry_left (h : s.Routed l sent moved resumes t) (before : (s.line l).transit[i]? = some e)
    (after : (t.line l).transit[i]? = some x) (unsent : sent e = false) (idle : ¬ (resumes = true ∧ e.stage = .toSorter)) :
    x = e := by
  rw [h.entry before after, h.stays e unsent, TransitEntry.refreshed_idle idle]

/-- Of two plates that wait for one bin the newer is not routed without the older. -/
theorem State.Routed.older_first (h : s.Routed l sent moved resumes t) (lt : i < j)
    (older : (s.line l).transit[i]? = some e) (newer : (s.line l).transit[j]? = some e') (waits : e.stage = .waitingBin)
    (bin : s.targetBin e = s.targetBin e') (sends : sent e' = true) : sent e = true := by
  obtain ⟨-, waits'⟩ := Line.mem_waiters.mp (h.only e' sends)
  obtain ⟨hi, rfl⟩ := List.getElem?_eq_some_iff.mp older
  obtain ⟨hj, rfl⟩ := List.getElem?_eq_some_iff.mp newer
  have ordered := List.pairwise_iff_getElem.mp (List.pairwise_filter.mp h.fifo) i j hi hj lt
  exact ordered (decide_eq_true waits) (decide_eq_true waits') bin sends

/-- SO_ROUTE is sent for the plates routed, in the order of the list. -/
theorem State.Routed.sent_out (h : s.Routed l sent moved resumes t)
    (once : ((s.line l).transit.map TransitEntry.slot).Nodup) : t.out = s.out ++
      ((s.line l).transit.filter (TransitEntry.leftWaiting (t.line l).transit)).map fun e =>
        .station l (.soRoute (s.targetBin e)) := by
  have routed : (s.line l).waiters.filter sent =
      (s.line l).transit.filter (TransitEntry.leftWaiting (t.line l).transit) := by
    rw [Line.waiters, List.filter_filter]
    refine List.filter_congr fun e he => ?_
    rw [h.leftWaiting once he, Bool.and_eq_left_iff_imp]
    exact fun sends => decide_eq_true (Line.mem_waiters.mp (h.only e sends)).2
  rw [h.out, routed]

end

/-- Settles O52: an arrival by the entry it is matched to and the room of its bin; the waiting plates tried one by one. -/
theorem platesAreRouted : Obligations.PlatesAreRouted := by
  refine ⟨fun s l fitted => ⟨fun b => Line.hasRoom_iff, fun phantom => ?_,
    fun e b running mem stage first target => ?_⟩, fun s l => ⟨State.routeWaiting_faulted,
      State.routeWaiting_blocked, fun once b => State.routeWaiting_fits once, fun running once => ?_,
      s.routeWaiting_transitOnly l⟩⟩
  · rw [exec_soArrival fitted, State.takeSorterArrival_phantom phantom]
  · have oldest := Line.oldestToSorter_eq mem stage first
    obtain rfl : b = s.targetBin e := target.trans (s.targetBin_eq e).symm
    rw [exec_soArrival fitted]
    refine ⟨fun room => ?_, fun full => ?_⟩
    · rw [State.takeSorterArrival_room running oldest room]
      rfl
    · rw [State.takeSorterArrival_full running oldest full]
      rfl
  · obtain ⟨sent, moved, resumes, h⟩ := State.routeWaiting_routed running once
    intro before after routed resumed
    have routed_eq : ∀ {i : Nat} {e : TransitEntry}, before[i]? = some e → routed e = sent e := fun at_i =>
      h.leftWaiting once (List.mem_of_getElem? at_i)
    have resumed_iff : resumes = true ↔ resumed := h.resumes_iff
    refine ⟨?_, fun i e x old new => ⟨fun sends => ?_, fun on stage => ?_, fun left idle => ?_⟩,
      fun i j e e' lt older newer waits bin sends => ?_, h.sent_out once⟩
    · rw [show after = _ from h.transit, List.length_map]
    · exact h.entry_sent old new ((routed_eq old).symm.trans sends)
    · exact h.entry_resumed old new (resumed_iff.mpr on) stage
    · exact h.entry_left old new ((routed_eq old).symm.trans left) (by rwa [resumed_iff])
    · rw [routed_eq older]
      exact h.older_first lt older newer waits bin ((routed_eq newer).symm.trans sends)

end Sys2Proof.Machine
end

section
/-! SUPPORT. The bins of the lines (R160): a supersession, Band Intake and a record's fate touch none. -/

namespace Sys2Proof.Machine

/-- From `s` to `t` no bin of a line has changed. -/
def BinsStay (s t : State) : Prop := ∀ l, (t.line l).bins = (s.line l).bins

section
variable {s t u : State} {l : LineId}

theorem BinsStay.refl (s : State) : BinsStay s s := fun _ => rfl

theorem BinsStay.trans (h : BinsStay s t) (k : BinsStay t u) : BinsStay s u := fun l => (k l).trans (h l)

theorem BinsStay.of_lines (lines : t.lines = s.lines) : BinsStay s t := fun l => by rw [State.line, lines, State.line]

theorem BinsStay.after (h : BinsStay t u) (lines : t.lines = s.lines := by rfl) : BinsStay s u :=
  (BinsStay.of_lines lines).trans h

theorem BinsStay.foldl {α : Type} {f : State → α → State} (hf : ∀ u a, BinsStay u (f u a)) (as : List α) (s : State) :
    BinsStay s (as.foldl f s) :=
  List.foldlRecOn (motive := BinsStay s) as f (.refl s) fun u hu a _ => hu.trans (hf u a)

theorem DirectoryOnly.binsStay (h : DirectoryOnly s t) : BinsStay s t := by
  obtain ⟨_, _, _, rfl, -⟩ := h
  exact .refl s

theorem State.setLine_binsStay (s : State) (l : LineId) {ln : Line} (bins : ln.bins = (s.line l).bins := by rfl) :
    BinsStay s (s.setLine l ln) := by
  intro m
  rw [State.line_setLine]
  split
  · rw [bins, ‹m = l›]
  · rfl

theorem TransitOnly.binsStay (h : TransitOnly l s t) : BinsStay s t := by
  rw [h]
  exact (s.setLine_binsStay l).trans (.of_lines rfl)

/-! ### Supersession (R80 to R89) -/

theorem State.drainTest_binsStay (s : State) (l : LineId) : BinsStay s (s.drainTest l) := by
  unfold State.drainTest State.setMode
  split
  · split
    · exact .refl s
    · exact (s.setLine_binsStay l (ln := { s.line l with mode := .stopped })).trans (.of_lines rfl)
  · exact .refl s

theorem State.supersedeQueued_binsStay (s : State) (p : Slot) (l : LineId) : BinsStay s (s.supersedeQueued p l) :=
  ((s.setLine_binsStay l (ln := { s.line l with queue := (s.line l).queue.filter fun q => decide (q ≠ p) })).trans
    (.of_lines rfl)).trans (State.drainTest_binsStay _ l)

theorem State.abortExposure_binsStay (s : State) (l : LineId) : BinsStay s (s.abortExposure l) := by
  unfold State.abortExposure
  split
  · exact .refl s
  · split
    · exact .refl s
    · exact s.setLine_binsStay l

theorem State.supersedeExposing_binsStay (s : State) (p : Slot) (l : LineId) : BinsStay s (s.supersedeExposing p l) := by
  unfold State.supersedeExposing State.applyAction
  split
  · exact .refl s
  · split
    · dsimp only
      split
      · exact (State.abortExposure_binsStay _ l).after
      · exact .of_lines rfl
    · exact .of_lines rfl

theorem State.supersedeExposed_binsStay (s : State) (p : Slot) (l : LineId) : BinsStay s (s.supersedeExposed p l) := by
  unfold State.supersedeExposed
  split
  · exact .refl s
  · dsimp only
    split
    · exact .of_lines rfl
    · exact (State.setLine_binsStay _ l).after

theorem State.supersedeOne_binsStay (k : PageIx) (w : Nat) (s : State) (p : Slot) :
    BinsStay s (State.supersedeOne k w s p) := by
  unfold State.supersedeOne
  split
  case h_1 => exact .of_lines rfl
  case h_2 =>
    split
    · exact s.supersedeQueued_binsStay p _
    · exact .refl s
  case h_3 =>
    split
    · exact s.supersedeExposing_binsStay p _
    · exact .refl s
  case h_4 =>
    split
    · exact s.supersedeExposed_binsStay p _
    · exact .refl s
  case h_5 => exact .of_lines (s.supersedeDelivered_lines k w p)
  all_goals exact .refl s

theorem State.supersede_binsStay (s : State) (k : PageIx) (w : Nat) : BinsStay s (s.supersede k w) :=
  (BinsStay.foldl (State.supersedeOne_binsStay k w) _ s).trans
    (BinsStay.foldl (fun u l => (u.routeWaiting_transitOnly l).binsStay) _ _)

/-! ### Band Intake (R20 to R36, R51) -/

theorem State.newReception_binsStay (s : State) (b : Band) : BinsStay s (s.newReception b).1 := by
  cases free : s.store.firstFree with
  | none =>
    rw [State.newReception_waits free]
    exact .refl s
  | some d =>
    have received := (s.received_only b d).binsStay
    rw [State.newReception_takes free]
    split
    · exact received
    · exact received.trans (State.supersede_binsStay _ _ _).after

theorem State.judge_binsStay (s : State) (b : Band) : BinsStay s (s.judge b).1 := by
  rcases s.judge_cases b with ⟨c, e⟩ | ⟨-, e⟩ | ⟨-, e | e⟩ | ⟨-, -, -, e⟩ | ⟨-, -, e⟩ <;> rw [e]
  · exact .of_lines rfl
  · exact (s.breakPage_only _ _).binsStay
  · exact .refl s
  · exact (s.restartReception_only b).binsStay
  · exact (s.receiveAgain_only b).binsStay
  · exact s.newReception_binsStay b

theorem State.completePage_binsStay (s : State) (k : PageIx) : BinsStay s (s.completePage k) := by
  have evaluated : ∀ u : State, BinsStay u (u.evaluateOn k) := fun u =>
    BinsStay.foldl (fun v p => .of_lines (v.evaluate_lines p)) _ u
  unfold State.completePage
  dsimp only
  split <;> exact (evaluated _).after

theorem State.startRow_binsStay (s : State) (b : Band) : BinsStay s (s.startRow b) := by
  obtain ⟨_, _, _, _, e, -⟩ := s.startRow_only b
  rw [e]
  exact .of_lines rfl

theorem State.stallReport_binsStay (s : State) (b : Band) : BinsStay s (s.stallReport b) := by
  unfold State.stallReport
  split <;> exact .of_lines rfl

theorem State.lastBandDecision_binsStay (s : State) (b : Band) : BinsStay s (s.lastBandDecision b) := by
  unfold State.lastBandDecision
  dsimp only
  split
  · split
    · exact s.completePage_binsStay _
    · exact (s.breakPage_only _ _).binsStay
  · exact (s.breakPage_only _ _).binsStay

theorem State.acceptBand_binsStay (s : State) (b : Band) : BinsStay s (s.acceptBand b).1 := by
  cases failure : s.acceptanceFailure b with
  | some c =>
    rw [State.acceptBand_of_failure failure]
    exact (s.breakPage_only _ _).binsStay
  | none =>
    have accepted : BinsStay s (s.acceptInto b) := .of_lines rfl
    rw [State.acceptBand_of_pass failure]
    split
    · exact accepted.trans (State.lastBandDecision_binsStay _ b)
    · exact accepted.trans (State.startRow_binsStay _ b).after

theorem State.takeHeads_binsStay (n : Nat) (s : State) : BinsStay s (s.takeHeads n) := by
  induction n generalizing s with
  | zero => exact .refl s
  | succ n ih =>
    by_cases phase : s.intake.phase = none
    · cases buffer : s.intake.buffer with
      | nil =>
        rw [State.takeHeads_idle (.inr buffer)]
        exact .refl s
      | cons b rest =>
        have judged : BinsStay s (s.judge b).1.endStall := (s.judge_binsStay b).trans (.of_lines rfl)
        have accepted := judged.trans (State.acceptBand_binsStay _ b)
        rw [State.takeHeads_head phase buffer]
        split
        · exact (State.stallReport_binsStay _ b).after
        · exact judged.trans (ih _).after
        · split
          · exact accepted.trans (ih _).after
          · exact accepted
    · rw [State.takeHeads_idle (.inl phase)]
      exact .refl s

theorem State.wakeIntake_binsStay (s : State) : BinsStay s s.wakeIntake := by
  unfold State.wakeIntake
  split
  · split
    · exact .refl s
    · exact (State.startRow_binsStay _ _).after
  · split
    · exact .refl s
    · exact (State.takeHeads_binsStay _ _).after
  · exact .refl s

/-! ### A record's fate (R90) -/

theorem State.fate_lines (s : State) (l : LineId) (b : BinId) (e : TransitEntry) : (s.fate l b e).lines = s.lines := by
  by_cases delivering : e.route = .deliver ∧ (s.plate e.slot).doom = none
  · obtain ⟨route, doom⟩ := delivering
    obtain ⟨_, _, _, offered, -⟩ := State.offerDemand_only _ (s.plate e.slot).load.keys []
    rw [State.fate_delivered route doom, State.deliver, offered]
    rfl
  · obtain ⟨g, place, c, report, fate⟩ := State.fate_fails (l := l) (b := b) (not_and_or.mp delivering)
    rw [fate, State.failPlate, State.autoRemake_lines]
    rfl

end

end Sys2Proof.Machine
end

section
/-! SUPPORT. SO_STACKED (R164, R165): stacked in its bin, misrouted, or a phantom. -/

namespace Sys2Proof.Machine

section
variable {s : State} {l : LineId} {e : TransitEntry} {b : BinId} {bin : Nat}

theorem exec_soStacked (bin : Nat) (fitted : (s.line l).fitted = true) :
    exec (.soStacked l bin) s = .next (s.takeStacked l bin).finish := onLine_fitted s l (·.takeStacked l bin) fitted

theorem State.takeStacked_faulted (faulted : (s.line l).mode = .faulted) : s.takeStacked l bin = s := if_pos faulted

theorem State.takeStacked_phantom (running : (s.line l).mode ≠ .faulted)
    (unmatched : ∀ x ∈ (s.line l).transit, ∀ b, x.stage ≠ .atSorter b) :
    s.takeStacked l bin = s.faultLine l .phantom none := by
  rw [State.takeStacked, if_neg running, Line.oldestAtSorter_eq_none.mpr unmatched]

theorem State.takeStacked_matched (running : (s.line l).mode ≠ .faulted) (oldest : (s.line l).oldestAtSorter = some e)
    (stage : e.stage = .atSorter b) :
    s.takeStacked l bin = if bin = b.val then s.stack l b e else s.misroute l e := by
  have routed : e.routedBin = some b := by rw [TransitEntry.routedBin, stage]
  rw [State.takeStacked, if_neg running, oldest]
  dsimp only
  rw [routed]

/-- What the fate of a stacked plate and the waking of Band Intake leave of the bin: its count is one more. -/
theorem State.stacked_bin (s : State) (l : LineId) (b : BinId) (e : TransitEntry) :
    ((((s.setLine l ((s.line l).stacked b e.slot)).fate l b e).wakeIntake).line l).bin b =
      { (s.line l).bin b with count := ((s.line l).bin b).count + 1 } := by
  have bins := (BinsStay.of_lines (State.fate_lines (s.setLine l ((s.line l).stacked b e.slot)) l b e)).trans
    (State.wakeIntake_binsStay _) l
  rw [State.line_setLine_self] at bins
  have counted := Line.bin_setBin (s.line l) b b { (s.line l).bin b with count := ((s.line l).bin b).count + 1 }
  rw [if_pos rfl] at counted
  rw [← counted, Line.bin, bins]
  rfl

theorem State.fullTest_full (full : ((s.line l).bin b).capacity ≤ ((s.line l).bin b).count) :
    s.fullTest l b = s.report { kind := .binFull, line := some l, bin := some b } := if_pos (decide_eq_true full)

theorem State.fullTest_room (room : ((s.line l).bin b).count < ((s.line l).bin b).capacity) : s.fullTest l b = s :=
  if_neg fun full => Nat.not_le.mpr room (of_decide_eq_true full)

end

/-- Settles O53: the message by the line, the entry it is matched to and the bin it names. -/
theorem platesAreStacked : Obligations.PlatesAreStacked := by
  intro s l bin fitted
  rw [exec_soStacked bin fitted]
  refine ⟨fun faulted => ?_, fun running unmatched => ?_, fun e b running mem stage first => ?_⟩
  · rw [State.takeStacked_faulted faulted]
  · rw [State.takeStacked_phantom running unmatched]
  · rw [State.takeStacked_matched running (Line.oldestAtSorter_eq mem stage first) stage]
    have stacked := s.stacked_bin l b e
    refine ⟨fun named => ⟨_, rfl, fun full => ?_, fun room => ?_⟩, fun other => ?_⟩
    · rw [if_pos named, State.stack, State.fullTest_full (by rw [stacked]; exact full)]
      rfl
    · rw [if_pos named, State.stack, State.fullTest_room (by rw [stacked]; exact room)]
      rfl
    · rw [if_neg other]
      rfl

end Sys2Proof.Machine
end

section
/-! SUPPORT. SO_BIN_EMPTIED, BIN_OPEN, BIN_CLOSE and SO_FAULT (R166 to R168). -/

namespace Sys2Proof.Machine

section
variable {s : State} {l : LineId} {b : BinId} {f : ControlFrame} {code : Byte} {least : Nat}

theorem exec_soBinEmptied (bin : Nat) (fitted : (s.line l).fitted = true) :
    exec (.soBinEmptied l bin) s = .next (s.takeEmptied l bin).finish := onLine_fitted s l (·.takeEmptied l bin) fitted

theorem exec_soFault (fitted : (s.line l).fitted = true) : exec (.soFault l) s =
    .next (s.faultLine l .sorterFault ((s.line l).oldestAtSorter.map TransitEntry.slot)).finish :=
  onLine_fitted s l (fun s => s.faultLine l .sorterFault ((s.line l).oldestAtSorter.map TransitEntry.slot)) fitted

theorem State.takeEmptied_outside {bin : Nat} (outside : 10 ≤ bin) : s.takeEmptied l bin = s :=
  dif_neg (Nat.not_lt.mpr outside)

/-- The operation on a bin that is emptied, before the waiting plates are tried. -/
theorem State.takeEmptied_bin (s : State) (l : LineId) (b : BinId) : s.takeEmptied l b.val =
    ((s.setLine l ((s.line l).setBin b { (s.line l).bin b with count := 0 })).report
      { kind := .binEmptied, line := some l, bin := some b }).routeWaiting l := dif_pos b.isLt

/-! ### Commands of a bin (R167) -/

theorem exec_binOpen_eq (s : State) : exec .binOpen s = taking (0x50 : Byte).toNat (fun args s =>
    checked (binFields 0 args) s (carryOut
      ((s.setClosed (lineOperand args) (binOperand args) false).routeWaiting (lineOperand args)))) s := rfl

theorem exec_binClose_eq (s : State) : exec .binClose s = taking (0x51 : Byte).toNat (fun args s =>
    checked (binFields 1 args) s (carryOut (s.setClosed (lineOperand args) (binOperand args) true))) s := rfl

theorem byteAt_line_bin (l : LineId) (b : BinId) :
    byteAt (u8 l.val ++ u8 b.val) 0 = l.val ∧ byteAt (u8 l.val ++ u8 b.val) 1 = b.val :=
  ⟨toNat_byte_of_lt (l.isLt.trans (by decide)), toNat_byte_of_lt (b.isLt.trans (by decide))⟩

theorem operands_line_bin (l : LineId) (b : BinId) :
    lineOperand (u8 l.val ++ u8 b.val) = l ∧ binOperand (u8 l.val ++ u8 b.val) = b := by
  obtain ⟨line, bin⟩ := byteAt_line_bin l b
  constructor <;> apply Fin.ext
  · show byteAt (u8 l.val ++ u8 b.val) 0 % 4 = l.val
    rw [line, Nat.mod_eq_of_lt l.isLt]
  · show byteAt (u8 l.val ++ u8 b.val) 1 % 10 = b.val
    rw [bin, Nat.mod_eq_of_lt b.isLt]

/-- The line field of a bin command is examined first. -/
theorem firstBad_binFields_line {args : List Byte} (line : 3 < byteAt args 0) : firstBad (binFields least args) = some 1 := by
  rw [binFields, not_within_zero line, firstBad_cons_false]

theorem firstBad_binFields_bin {args : List Byte} (line : byteAt args 0 ≤ 3)
    (bin : byteAt args 1 < least ∨ 9 < byteAt args 1) : firstBad (binFields least args) = some 2 := by
  have outside : within least 9 (byteAt args 1) = false := decide_eq_false (by omega)
  rw [binFields, within_zero line, firstBad_cons_true, outside, firstBad_cons_false]

theorem firstBad_binFields_ok {args : List Byte} (line : byteAt args 0 ≤ 3) (low : least ≤ byteAt args 1)
    (high : byteAt args 1 ≤ 9) : firstBad (binFields least args) = none := by
  rw [binFields, within_zero line, firstBad_cons_true]
  exact firstBad_singleton_ok (within_iff.mpr ⟨low, high⟩)

/-- A bin command with a field out of range is refused. -/
theorem taking_bin_refused {args : List Byte} {i : Nat} (run : List Byte → State → State) (h : s.Offers f code args)
    (hcode : code ≠ 0x20) (shape : (code.toNat, args.length) ∈ fixedShapes)
    (bad : firstBad (binFields least args) = some i) :
    taking code.toNat (fun args s => checked (binFields least args) s (carryOut (run args s))) s =
      .next (s.replied f code { status := .badField, field := i }) := by
  rw [taking_of_fixed _ h hcode shape, checked_bad _ _ _ i bad]
  rfl

/-- A bin command is carried out on the line and the bin it names. -/
theorem taking_bin_runs (run : LineId → BinId → State → State) (h : s.Offers f code (u8 l.val ++ u8 b.val))
    (hcode : code ≠ 0x20) (shape : (code.toNat, 2) ∈ fixedShapes) (low : least ≤ b.val) :
    taking code.toNat (fun args s => checked (binFields least args) s
      (carryOut (run (lineOperand args) (binOperand args) s))) s = .next ((run l b s.dropControl).carried f code) := by
  obtain ⟨line, bin⟩ := byteAt_line_bin l b
  obtain ⟨onLine, onBin⟩ := operands_line_bin l b
  have ok : firstBad (binFields least (u8 l.val ++ u8 b.val)) = none := firstBad_binFields_ok
    (by rw [line]; exact Nat.le_of_lt_succ l.isLt) (by rwa [bin]) (by rw [bin]; exact Nat.le_of_lt_succ b.isLt)
  rw [taking_of_fixed _ h hcode shape, checked_ok _ _ _ ok, onLine, onBin, carryOut_next]

end

/-- Settles O55: each message and each command by the line and the bin it names. -/
theorem binsAreEmptiedOpenedAndClosed : Obligations.BinsAreEmptiedOpenedAndClosed := by
  have openShape : (0x50, 2) ∈ fixedShapes := by decide
  have closeShape : (0x51, 2) ∈ fixedShapes := by decide
  have open_ne : (0x50 : Byte) ≠ 0x20 := by decide
  have close_ne : (0x51 : Byte) ≠ 0x20 := by decide
  refine ⟨fun s l fitted => ⟨fun b => ⟨?_, fun faulted => ?_⟩, fun n outside => ?_⟩,
    fun s f l b => ⟨fun h => ?_, fun h => ⟨fun named => ?_, fun reject => ?_⟩, fun line bin =>
      ⟨fun high => ⟨fun h => ?_, fun h => ?_⟩, fun low high => ⟨fun h => ?_, fun h => ?_⟩⟩⟩,
    fun s l fitted => ⟨fun unmatched => ?_, fun e b mem stage first => ?_⟩⟩
  · rw [exec_soBinEmptied _ fitted, State.takeEmptied_bin]
    rfl
  · refine State.routeWaiting_faulted ?_
    have line := s.line_setLine_self l ((s.line l).setBin b { (s.line l).bin b with count := 0 })
    exact (congrArg Line.mode line).trans faulted
  · rw [exec_soBinEmptied n fitted, State.takeEmptied_outside outside]
  · exact (exec_binOpen_eq s).trans
      (taking_bin_runs (fun l b s => (s.setClosed l b false).routeWaiting l) h open_ne openShape (Nat.zero_le _))
  · exact (exec_binClose_eq s).trans
      (taking_bin_runs (fun l b s => s.setClosed l b true) h close_ne closeShape
        (Nat.one_le_iff_ne_zero.mpr (Fin.val_ne_zero_iff.mpr named)))
  · obtain ⟨line, bin⟩ := byteAt_line_bin l b
    refine (exec_binClose_eq s).trans (taking_bin_refused _ h close_ne closeShape (firstBad_binFields_bin ?_ ?_))
    · rw [line]
      exact Nat.le_of_lt_succ l.isLt
    · rw [bin, reject]
      exact .inl Nat.zero_lt_one
  · exact (exec_binOpen_eq s).trans (taking_bin_refused _ h open_ne openShape (firstBad_binFields_line high))
  · exact (exec_binClose_eq s).trans (taking_bin_refused _ h close_ne closeShape (firstBad_binFields_line high))
  · exact (exec_binOpen_eq s).trans
      (taking_bin_refused _ h open_ne openShape (firstBad_binFields_bin low (.inr high)))
  · exact (exec_binClose_eq s).trans
      (taking_bin_refused _ h close_ne closeShape (firstBad_binFields_bin low (.inr high)))
  · rw [exec_soFault fitted, Line.oldestAtSorter_eq_none.mpr unmatched]
    rfl
  · rw [exec_soFault fitted, Line.oldestAtSorter_eq mem stage first]
    rfl

end Sys2Proof.Machine
end


section
/-! SUPPORT. The step by what its queue holds: the two equations of `step`, and O1, which is the pair of them. -/

namespace Sys2Proof.Machine

variable {s : State}

/-- The engine executes the front of its queue on the state with the rest of it. -/
theorem step_of_pending_cons {c : Instr} {rest : List Instr} (front : s.pending = c :: rest) :
    step s = exec c { s with pending := rest } := by
  rw [step, front]

/-- The engine idles on an empty queue, as log 2 chooses. -/
theorem step_of_pending_nil (empty : s.pending = []) : step s = .next s := by
  rw [step, empty]

/-- Settles O1: a queue is a front and a rest, or it is empty. -/
theorem stepTakesTheFront : Obligations.StepTakesTheFront :=
  ⟨fun _ _ _ front => step_of_pending_cons front, fun _ empty => step_of_pending_nil empty⟩

end Sys2Proof.Machine
end
